-- ==== Sys2Proof/Word.lean ====
section
/-!
DEFINITION. The word types of the KC812 and the finite name spaces of its parts: bytes of the two links, the
decisecond count, and the numbered crossings, groups, kerb units, banks and filter entries.
-/

namespace Sys2Proof

/-- A byte of the host link or the kerb link (chapter 12). -/
abbrev Byte := BitVec 8

/-- A value of the decisecond count N, 0 to 4294967295, wrapping (R1). -/
abbrev Time := BitVec 32

/-- A crossing; crossing number k of the manual is index k - 1. -/
abbrev CrossingId := Fin 8

/-- A group; group number g of the manual is index g - 1. -/
abbrev GroupId := Fin 4

/-- A kerb unit address; address u of the manual is index u - 1. -/
abbrev UnitId := Fin 32

/-- A plan bank; bank b of the manual is index b - 1. -/
abbrev BankId := Fin 4

/-- An entry of the report filter; entry i of the manual is index i - 1 (R184). -/
abbrev FilterId := Fin 16

end Sys2Proof
end

