-- ==== Sys2Proof/Syntax.lean ====
section
/-!
DEFINITION. The commands of the KC812, one constructor for each row of spec/opcode_table.json, with the operands the
event brings from outside. A host request row has no operand of its own: its operands are the bytes of the request
frame at the front of the request queue, which HOST_FRAME_RECEIVED brought (R178, R179).
-/

namespace Sys2Proof

/-- The five outputs of a crossing (chapter 7). -/
inductive Lamp where
  | red | amber | green | walk | dontWalk
deriving DecidableEq, Repr

/-- One thing for each of a crossing's five outputs. -/
structure Lamps (α : Type) where
  red : α
  amber : α
  green : α
  walk : α
  dontWalk : α
deriving DecidableEq, Repr

/-- The proving inputs of the eight crossings as they are sampled at a decisecond event (R124). -/
abbrev ProvingInputs := Vector (Lamps Bool) 8

/-- Why the host receiver abandons a frame at the end of a byte (R176). -/
inductive AbandonCause where
  | lengthByte (value : Byte)
  | missingStopBit
deriving DecidableEq, Repr

/-- What had been received when a reply window closes without a complete frame (R136). -/
inductive WindowContent where
  /-- Nothing was received: NO_REPLY. -/
  | nothing
  /-- Bytes were received and the unit has stopped sending: BAD_REPLY. -/
  | stopped
  /-- Bytes were received and the reply is still arriving: BAD_REPLY, and the bytes that follow are not late bytes. -/
  | arriving
deriving DecidableEq, Repr

/-- The commands: the steps of spec/opcode_table.json. -/
inductive Instr where
  | coldStart
  | startUpComplete
  | decisecondEvent (inputs : ProvingInputs)
  | secondAdvance
  | cycleBoundary
  | boundaryDue
  | bandEndEvent (c : CrossingId)
  | watchdogExpiry
  | sync
  | planWrite
  | slotWriteDone
  | planRead
  | planSelect
  | notBeforeArrival (c : CrossingId)
  | call
  | callCancel
  | recallTimerExpiry (c : CrossingId)
  | greenTimerExpiry (c : CrossingId)
  | spacingExpiry (g : GroupId)
  | pairingClose (g : GroupId)
  | intervalEnd (c : CrossingId)
  | serviceOff
  | dark
  | restore
  | flashHalfChange (c : CrossingId)
  | mismatchTimerLimit (c : CrossingId) (lamp : Lamp)
  | conflictTimerLimit (c : CrossingId)
  | pollCommand
  /-- `frame`: the nine bytes of the kerb reply, start byte first (section 12.4). -/
  | goodReply (frame : List Byte)
  /-- `frame`: the nine bytes of the kerb reply, start byte first (section 12.4). -/
  | badReply (frame : List Byte)
  | replyWindowClose (content : WindowContent)
  | lateBytes
  | revivalDue (u : UnitId)
  | unitMapSet
  | unitMapClear
  | unitStatus
  | sampleWindowClose (u : UnitId)
  | ambientStale (u : UnitId)
  | counters
  /-- `bytes`: the bytes of the frame after its start byte, the two check bytes last (section 12.3). -/
  | hostFrameReceived (bytes : List Byte)
  | frameAbandon (cause : AbandonCause)
  | frameGapTimeout
  | unknownKind
  | status
  | crossingStatus
  | filterWrite
  | restart
  | restartBegin
  | transmitEnd
  | hostFrameStart
  | replyWindowOpen
deriving DecidableEq, Repr

end Sys2Proof
end

