-- ==== Sys2Proof/Decode.lean ====
section
/-!
DEFINITION. The command a word of the opcode table spells. No row of the table gives bits: the part takes its commands
as frames on its links, pin and time-base events, and not as instruction words, so no word spells a command.
-/

namespace Sys2Proof

/-- The command spelled by an `nbits`-bit word by the table's bits: none, since no row of the table gives bits. -/
def decodeTableWord (_nbits _w : Nat) : Option Instr := none

end Sys2Proof
end

