-- ==== Sys2Proof/Config.lean ====
section
/-!
DEFINITION. The values the manual leaves open. Each is an opaque constant: nothing can be proved of its value, so
a statement about the machine holds whatever the value is.
-/

namespace Sys2Proof

/-- Log entry 6 (DESIGN CHOICE, a free value). R32: a cold start during a header's re-check leaves each crossing
record either as it was or absent. `recheckReached k` says, for the `k`-th such record met, whether the re-check
had already made it absent. -/
opaque Config.recheckReached : Nat → Bool

/-- Log entry 7 (DESIGN CHOICE, a free value). The two bytes a body carries for a duration, level or count item
that is none or absent; section 12.2 gives an encoding of none for numbers and enumerations only. -/
opaque Config.absentWord : BitVec 16

/-- Log entry 7 (DESIGN CHOICE, a free value). The two bytes ADOPTION_DEFERRED carries for "in band" in place of the
gap (R39); no rule gives their value. -/
opaque Config.inBandWord : BitVec 16

end Sys2Proof
end

