-- ==== Sys2Proof/Machine/State.lean ====
section
/-!
DEFINITION. The state of the KC812: every item the chapters' "what it holds" tables give the ten blocks, the model's
own bookkeeping (the events announced at a decisecond event and not yet taken, the free-value counter, the queue of
waiting commands), the ways a step can stop, and the state right after reset.
-/

namespace Sys2Proof.Machine

/-! ### Names of states, marks and reasons, each in the order of the table that first gives them (section 12.2) -/

/-- Corridor mode (section 1.4). -/
inductive Mode where
  | free | coordinated
deriving DecidableEq, Repr

/-- The twelve crossing states (section 6.2). -/
inductive CrossingState where
  | unconfigured | startupFlash | startupRed | vehGreen | vehAmber | leadRed | walk | clearance | trailRed
  | cmdFlash | faultFlash | dark
deriving DecidableEq, Repr

/-- Target of a pending service change (R99, R109). -/
inductive Target where
  | cmdFlash | unconfigured | faultFlash | dark
deriving DecidableEq, Repr

/-- Cause carried by CROSSING_STATE (R119). -/
inductive Cause where
  | startUp | restore | command | fault | plan
deriving DecidableEq, Repr

/-- Cause carried by MODE_CHANGE (R21). -/
inductive ModeCause where
  | sync | watchdog | plan
deriving DecidableEq, Repr

/-- Kind of a stage (R68). -/
inductive StageKind where
  | coordinated | free
deriving DecidableEq, Repr

/-- Route of a crossing at an evaluation (R80); the group of a GROUP route rides with it. -/
inductive Route where
  | band
  | group (g : GroupId)
  | direct
deriving DecidableEq, Repr

/-- Waiting reason of a call (R82). -/
inductive WaitReason where
  | notBefore | green | inBand | gap | hold | groupFull | pairingClosed | spacing
deriving DecidableEq, Repr

/-- Why a call record left the queue (R63). -/
inductive RemovalReason where
  | admitted | cancelled | outOfService
deriving DecidableEq, Repr

/-- Commanded mode of an output (section 7.1). -/
inductive OutputMode where
  | off | on | flashing
deriving DecidableEq, Repr

/-- Sense of a mismatch (R124). -/
inductive Sense where
  | onWhenOff | offWhenOn
deriving DecidableEq, Repr

/-- Fault classes (R129). -/
inductive FaultClass where
  | conflict | stuckOn | redLoss | walkFail | lampOut | flashFail
deriving DecidableEq, Repr

/-- Flash phase of a crossing: idle, or a half with the deciseconds elapsed in it (section 7.1). -/
inductive FlashPhase where
  | idle
  | on (elapsed : Nat)
  | off (elapsed : Nat)
deriving DecidableEq, Repr

/-- Kerb side. -/
inductive Side where
  | a | b
deriving DecidableEq, Repr

/-- State of a mapped kerb unit (section 8.2). -/
inductive UnitState where
  | joining | online | suspect | failed
deriving DecidableEq, Repr

/-- Cause carried by UNIT_STATE (R140). -/
inductive UnitCause where
  | good | miss | revival | map
deriving DecidableEq, Repr

/-- Indication sent to a kerb unit (R141). -/
inductive Indication where
  | locate | wait | walk | clear | dark
deriving DecidableEq, Repr

/-- Sample action carried to a kerb unit (R141). -/
inductive SampleAction where
  | start | stop | cancel
deriving DecidableEq, Repr

/-- Record reasons (R28). -/
inductive RecordReason where
  | range | noHeader | group | partner | fit
deriving DecidableEq, Repr

/-- Result of an accepted SYNC (R9). -/
inductive ClockResult where
  | entered | set | notSet | timeOfDayOnly | inStep | pending
deriving DecidableEq, Repr

/-- What became of an offer (R50, R57). -/
inductive OfferOutcome where
  | registered | merged | absorbed | upgraded | discarded
deriving DecidableEq, Repr

/-- What cut the walk of a truncated stage (R97). -/
inductive Cut where
  | band | hold
deriving DecidableEq, Repr

/-- Kind of a group admission (R88). -/
inductive GroupStart where
  | release | join
deriving DecidableEq, Repr

/-! ### Small sets -/

/-- A set of kerb sides. -/
structure Sides where
  a : Bool := false
  b : Bool := false
deriving DecidableEq, Repr

/-- A set of call origins (section 3.1). -/
structure Origins where
  press : Bool := false
  link : Bool := false
  remote : Bool := false
  recalled : Bool := false
deriving DecidableEq, Repr

/-- A fault set (R129). -/
structure FaultSet where
  conflict : Bool := false
  stuckOn : Bool := false
  redLoss : Bool := false
  walkFail : Bool := false
  lampOut : Bool := false
  flashFail : Bool := false
deriving DecidableEq, Repr

/-! ### Plans (chapter 2) -/

/-- Stage limit K, spacing H and pairing tolerance P of one group in a corridor header. -/
structure GroupParams where
  stageLimit : Nat
  spacing : Nat
  pairing : Nat
deriving DecidableEq, Repr

/-- The corridor header (section 2.2). -/
structure Header where
  cycle : Nat
  coordination : Bool
  groups : Vector GroupParams 4
  quietStart : Nat
  quietEnd : Nat
  sampleInterval : Nat
  label : List Byte
deriving DecidableEq, Repr

/-- The crossing record (section 2.3). -/
structure Record where
  length : Nat
  normalSpeed : Nat
  accessibleSpeed : Nat
  walk : Nat
  minWalk : Nat
  walkExtra : Nat
  margin : Nat
  amber : Nat
  leadRed : Nat
  trailRed : Nat
  minGreen : Nat
  offset : Nat
  bandStart : Nat
  bandLen : Nat
  group : Option GroupId
  partner : Option CrossingId
  linkDelay : Nat
  recallInterval : Nat
  stuckThreshold : Nat
  walkPattern : Nat
  locatorMargin : Nat
  walkMargin : Nat
  minLevel : Nat
  maxLevel : Nat
  nightCap : Nat
deriving DecidableEq, Repr

/-- A slot of a bank (R23): its content, its present mark, and whether its check value agrees with its content.
The manual gives no function for the check value, and no rule reads more of it than this agreement (log entry 5). -/
structure Slot (α : Type) where
  content : Option α
  mark : Bool
  intact : Bool
deriving DecidableEq, Repr

/-- A slot as delivered: absent (section 2.1). -/
def Slot.empty {α : Type} : Slot α := { content := none, mark := false, intact := true }

/-- A plan bank: slot 0 and slots 1 to 8. -/
structure Bank where
  header : Slot Header
  records : Vector (Slot Record) 8
deriving DecidableEq, Repr

/-- A selection (R24). -/
structure Selection where
  base : BankId
  overlay : Option BankId
deriving DecidableEq, Repr

/-- The plan store (section 2.1). -/
structure PlanStore where
  banks : Vector Bank 4
  inForce : Option Selection
  pendingSelection : Option Selection
  stored : Option Selection
  deferral : Bool
deriving DecidableEq, Repr

/-! ### The corridor clock (section 1.1) -/

/-- The items of the corridor clock. -/
structure Clock where
  now : Time
  corridorTime : Nat
  cycle : Option Nat
  mode : Mode
  timeOfDay : Nat
  phase : Nat
  timeValid : Bool
  quiet : Bool
  correction : Int
  hold : Bool
  boundaryDue : Bool
  zeroSteps : Nat
  watchdog : Nat
deriving DecidableEq, Repr

/-! ### The call queue (section 3.1) -/

/-- A call record. -/
structure CallRecord where
  crossing : CrossingId
  registeredAt : Time
  sides : Sides
  origins : Origins
  accessible : Bool
  pressCount : Nat
  notBefore : Option Time
deriving DecidableEq, Repr

/-! ### The crossing controllers and the signal port (chapters 4, 6 and 7) -/

/-- The stage context (R68). -/
structure Stage where
  kind : StageKind
  group : Option GroupId
  admittedAt : Time
  registeredAt : Time
  sides : Sides
  origins : Origins
  accessible : Bool
  pressCount : Nat
  amber : Nat
  leadRed : Nat
  trailRed : Nat
  walk : Nat
  desiredWalk : Nat
  clearance : Nat
  walkFloor : Nat
  length : Nat
  accessibleSpeed : Nat
  margin : Nat
  walkExtra : Nat
  truncated : Bool
  upgraded : Bool
  extraWalk : Nat
deriving DecidableEq, Repr

/-- The green timer, present in VEH_GREEN only (R101). -/
structure GreenTimer where
  left : Nat
  expired : Bool
deriving DecidableEq, Repr

/-- A pending service change: the target (R109), and the cause of the event that set or last replaced it, which R119
gives to the notices of its execution. -/
structure PendingChange where
  target : Target
  cause : Cause
deriving DecidableEq, Repr

/-- One output of a crossing (section 7.1). -/
structure OutputLine where
  mode : OutputMode
  value : Bool
  settling : Bool
  proved : Bool
  mismatch : Nat
  sense : Option Sense
deriving DecidableEq, Repr

/-- The signal port and proving monitor of one crossing (section 7.1). `walkFailed` is the model's own field: WALK_FAIL has
been raised since the walk's mode last changed, and so in the WALK that runs (R132; log entry 41). -/
structure SignalPort where
  lines : Lamps OutputLine
  flash : FlashPhase
  conflict : Nat
  walkFailed : Bool
deriving DecidableEq, Repr

/-- The in-force record of a crossing with the bank that supplied it (R35, R45). -/
structure InForce where
  bank : BankId
  record : Record
deriving DecidableEq, Repr

/-- A crossing controller (R99), with the crossing's signal port (chapter 7), the sides the kerb link master last
told it to have a working button (R148), and the accessible mark the audible level block holds for it (R156). -/
structure Crossing where
  state : CrossingState
  timeInState : Nat
  timeLeft : Option Nat
  green : Option GreenTimer
  stage : Option Stage
  pendingChange : Option PendingChange
  closingAmber : Bool
  recallTimer : Option Time
  faults : FaultSet
  failRecall : Bool
  inForce : Option InForce
  retainedAmber : Nat
  route : Option Route
  waiting : Option WaitReason
  working : Sides
  accessibleMark : Bool
  port : SignalPort
deriving DecidableEq, Repr

/-! ### The group arbiter (R86) -/

/-- The group arbiter's record for one group. -/
structure Group where
  stageLimit : Nat
  spacing : Nat
  pairing : Nat
  active : Nat
  release : Time
  quietSince : Time
  spacingExpiry : Option Time
  pairingClose : Option Time
deriving DecidableEq, Repr

/-! ### Kerb units: unit table and audible level block (sections 8.2 and 9.1) -/

/-- The map part of a unit entry; the hearing set is kept in ascending order of address. -/
structure Mapping where
  crossing : CrossingId
  side : Side
  hearing : List UnitId
deriving DecidableEq, Repr

/-- The fields of a kerb command frame (R141). -/
structure KerbCommand where
  address : UnitId
  indication : Indication
  pattern : Nat
  locatorLevel : Nat
  walkLevel : Nat
  mute : Bool
  action : Option SampleAction
deriving DecidableEq, Repr

/-- Phase of a sample (section 9.1), with the start time once START has been delivered; a CLOSED sample also knows
whether a decisecond event has passed since it closed, which R164 asks of a completion reply. -/
inductive SamplePhase where
  | requested
  | measuring (start : Time)
  | closed (start : Time) (tickPassed : Bool)
deriving DecidableEq, Repr

/-- A sample record (section 9.1). -/
structure Sample where
  phase : SamplePhase
  earlyEnd : Bool
  muted : List UnitId
deriving DecidableEq, Repr

/-- The last sample report (section 9.1). -/
inductive SampleReport where
  | taken (level : Nat) (short : Bool) (earlyEnd : Bool)
  | abandoned
  | lost
deriving DecidableEq, Repr

/-- What the audible level block holds for one unit (section 9.1); the mute set names each sample by the address of
its sampled unit. -/
structure Audible where
  estimate : Option Nat
  stale : Bool
  lastStart : Option Time
  dueTime : Time
  sample : Option Sample
  muteSet : List UnitId
  locatorLevel : Nat
  walkLevel : Nat
  report : Option SampleReport
deriving DecidableEq, Repr

/-- One entry of the unit table (section 8.2). -/
structure KerbUnit where
  mapping : Option Mapping
  state : UnitState
  misses : Nat
  goods : Nat
  pressBaseline : Option Nat
  extendedBaseline : Option Nat
  heldNow : Bool
  heldTime : Nat
  stuck : Bool
  audioFault : Bool
  revivalPosition : Nat
  nextRevival : Option Time
  revivalDue : Bool
  sounding : Bool
  pendingAction : Option SampleAction
  lastCommand : Option KerbCommand
  audible : Audible
deriving DecidableEq, Repr

/-- A transaction in flight on the kerb link (R136): the command sent and its bytes, whether the reply window is
open, whether a UNIT MAP WRITE has made its outcome void (R151), whether the action it carries is still the unit's
pending action (R142), whether its crossing's walk has begun since the command was built (R150), and what R164 asks of a
completion reply: whether the unit's sample was CLOSED when the command was built, and whether a decisecond event had
passed since. -/
structure Transaction where
  command : KerbCommand
  bytes : List Byte
  windowOpen : Bool
  void : Bool
  actionLive : Bool
  beforeWalk : Bool
  builtClosed : Bool
  builtAfterTick : Bool
deriving DecidableEq, Repr

/-- The kerb link master: the address last polled in the round (R137), whether it rests until the next decisecond
event (R137), the transaction in flight, and the unit of the transaction that late bytes would follow (R136). -/
structure KerbLink where
  lastPolled : Option UnitId
  resting : Bool
  transaction : Option Transaction
  ended : Option UnitId
deriving DecidableEq, Repr

/-! ### The counter bank (chapter 10) -/

/-- A crossing block (section 10.1.1). -/
structure CrossingCounters where
  callsRegistered : Nat := 0
  presses : Nat := 0
  extendedPresses : Nat := 0
  stages : Nat := 0
  accessibleStages : Nat := 0
  upgrades : Nat := 0
  truncatedStages : Nat := 0
  recallStages : Nat := 0
  linkedPlaced : Nat := 0
  linkedDropped : Nat := 0
  faults : Nat := 0
  wait0 : Nat := 0
  wait150 : Nat := 0
  wait300 : Nat := 0
  wait450 : Nat := 0
  wait600 : Nat := 0
  wait900 : Nat := 0
  maxWait : Nat := 0
deriving DecidableEq, Repr

/-- A unit block (section 10.1.2). -/
structure UnitCounters where
  pollsMissed : Nat := 0
  badReplies : Nat := 0
  stuckEvents : Nat := 0
  samplesTaken : Nat := 0
  samplesAbandoned : Nat := 0
deriving DecidableEq, Repr

/-- The corridor block (section 10.1.3). -/
structure CorridorCounters where
  framesBad : Nat := 0
  framesDropped : Nat := 0
  noticesLost : Nat := 0
  syncAccepted : Nat := 0
  correctionsApplied : Nat := 0
  planAdoptions : Nat := 0
deriving DecidableEq, Repr

/-- The counter bank. -/
structure Counters where
  crossings : Vector CrossingCounters 8
  units : Vector UnitCounters 32
  corridor : CorridorCounters
deriving DecidableEq, Repr

/-! ### The host link port (chapter 11) -/

/-- A good request frame in the request queue (R178). -/
structure Frame where
  kind : Byte
  tag : Byte
  body : List Byte
deriving DecidableEq, Repr

/-- The content of one slot as PLAN WRITE carries it. -/
inductive SlotItem where
  | header (h : Header)
  | record (c : CrossingId) (r : Record)
deriving DecidableEq, Repr

/-- A PLAN WRITE in execution (R30): the slot being written with its new content, the records still to come, and what
the reply will report (R33). -/
structure WriteRun where
  tag : Byte
  bank : BankId
  count : Nat
  item : SlotItem
  rest : List (List Byte)
  written : Nat
  pruned : Nat
deriving DecidableEq, Repr

/-- The reported fields of a call record (R57, R64, table 3.1), times given relative to now. -/
structure CallReport where
  crossing : CrossingId
  sinceRegistration : Nat
  sides : Sides
  origins : Origins
  accessible : Bool
  pressCount : Nat
  notBeforeLeft : Option Nat
deriving DecidableEq, Repr

/-- The standing of a bank (R34). -/
structure Standing where
  inForceBase : Bool
  inForceOverlay : Bool
  pendingBase : Bool
  pendingOverlay : Bool
  stored : Bool
deriving DecidableEq, Repr

/-- A block of the counter bank as COUNTERS names it (R173). -/
inductive BlockName where
  | crossing (c : CrossingId)
  | unit (u : UnitId)
  | corridor
deriving DecidableEq, Repr

/-- A report filter entry (R184) in the bytes of section 12.2: family DEMAND 1 to ANY 5, or 0 for none in an invalid entry
(log entry 8), kind a notice's frame kind or 0 for ANY, crossing set with bit k - 1 for crossing k or 0 for ALL. -/
structure FilterEntry where
  valid : Bool
  family : Byte
  kind : Byte
  crossings : Byte
deriving DecidableEq, Repr

/-- Refusal reasons (R180). -/
inductive RefusalReason where
  | unknownKind | badLength | outOfRange | bankInUse
  | misfit (c : CrossingId) (reason : RecordReason)
  | notInService | notApplicable | noSuchUnit
deriving DecidableEq, Repr

/-- The body of a DONE reply. The three status reports are held as the bytes of their items. -/
inductive DoneBody where
  | report (items : List Byte)
  | planWrite (written notWritten : Nat) (stoppedAt : Option Nat) (reason : Option RecordReason) (pruned : Nat)
  | planRead (item : Option SlotItem) (standing : Standing)
  | planSelect (pending : Selection) (inForce : Option Selection)
  | sync (result : ClockResult) (mode : Mode) (corridorTime : Nat) (correction : Int)
  | call (outcome : OfferOutcome) (delay : Nat) (record : Option CallReport)
  | callCancel (kept : Option CallReport)
  | crossingControl (taken : Bool) (state : CrossingState) (pending : Option Target)
  | unitMap (items : List Byte)
  | counters (block : BlockName) (clear : Bool) (values : List Nat)
  | filter (entry : FilterEntry)
  | restart
deriving DecidableEq, Repr

/-- What a reply says (R180). -/
inductive ReplyContent where
  | done (body : DoneBody)
  | refused (reason : RefusalReason)
deriving DecidableEq, Repr

/-- A reply, with the request's tag. -/
structure Reply where
  tag : Byte
  content : ReplyContent
deriving DecidableEq, Repr

/-- The items of each notice kind (section 11.6), in the order the owning rule names them. -/
inductive NoticeBody where
  | callRegistered (c : CrossingId) (origins : Origins) (sides : Sides) (accessible : Bool) (notBeforeLeft : Option Nat)
  | callRemoved (c : CrossingId) (reason : RemovalReason) (origins : Origins) (sinceRegistration : Nat)
  | stageAdmitted (c : CrossingId) (route : Route) (start : Option GroupStart) (kind : StageKind) (accessible : Bool)
      (origins : Origins) (sides : Sides) (walk clearance duration : Nat) (truncated : Bool) (sinceRegistration : Nat)
  | stageTruncated (c : CrossingId) (walk desiredWalk : Nat) (cut : Cut)
  | walkBegin (c : CrossingId) (walk clearance : Nat) (accessible : Bool) (sinceRegistration : Nat)
  | stageUpgraded (c : CrossingId) (clearance extraWalk walk remaining : Nat)
  | stageEnd (c : CrossingId) (walk clearance : Nat) (upgraded : Bool) (elapsed : Nat)
  | crossingState (c : CrossingId) (state : CrossingState) (pending : Option Target) (inService : Bool) (cause : Cause)
  | modeChange (mode : Mode) (cause : ModeCause)
  | syncCorrection (step remainder : Int)
  | planAdopted (selection : Selection) (cycle : Nat) (label : List Byte) (cycleChanged afterDeferral : Bool)
  | adoptionDeferred (selection : Selection) (c : CrossingId) (remaining : Nat) (gap : Option Nat)
  | unitState (u : UnitId) (c : CrossingId) (side : Side) (before after : Option UnitState) (cause : UnitCause)
  | buttonStuck (u : UnitId) (c : CrossingId) (side : Side) (stuck : Bool) (heldTime : Nat)
  | audioFault (u : UnitId) (c : CrossingId) (side : Side) (fault : Bool)
  | ambientStale (u : UnitId) (c : CrossingId) (side : Side) (stale : Bool) (estimate : Nat) (sinceStart : Option Nat)
  | crossingFault (c : CrossingId) (cls : FaultClass) (lamp : Lamp) (before after : CrossingState)
      (pending : Option Target) (faults : FaultSet)
deriving DecidableEq, Repr

/-- A notice with the time of day and sub-second phase at which it was raised (R182). -/
structure Notice where
  timeOfDay : Nat
  phase : Nat
  body : NoticeBody
deriving DecidableEq, Repr

/-- A frame the transmitter sends. -/
inductive OutFrame where
  | reply (r : Reply)
  | notice (n : Notice)
deriving DecidableEq, Repr

/-- A frame on the line: what it says and its bytes. -/
structure Transmission where
  source : OutFrame
  bytes : List Byte
deriving DecidableEq, Repr

/-- The receiver's condition (R176). -/
inductive Receiver where
  | hunt | collecting
deriving DecidableEq, Repr

/-- The host link port (chapter 11). `transmission` is none while the transmitter is idle. -/
structure HostPort where
  receiver : Receiver
  requests : List Frame
  executing : Option WriteRun
  reply : Option Reply
  transmission : Option Transmission
  notices : List Notice
  noticesLost : Bool
  filter : Vector FilterEntry 16
  restartHold : Bool
deriving DecidableEq, Repr

/-! ### Events announced at a decisecond event -/

/-- An event that a decisecond event has announced and that has not been taken yet. The model's own bookkeeping (log
entry 2): which commands of the table are due. A fault event carries the class R126 gave it. -/
inductive Due where
  | secondAdvance
  | cycleBoundary
  | boundaryDue
  | watchdog
  | intervalEnd (c : CrossingId)
  | flashHalf (c : CrossingId)
  | mismatch (c : CrossingId) (lamp : Lamp) (cls : FaultClass)
  | conflict (c : CrossingId)
  | greenExpiry (c : CrossingId)
  | bandEnd (c : CrossingId)
  | notBefore (c : CrossingId)
  | recallExpiry (c : CrossingId)
  | spacing (g : GroupId)
  | pairing (g : GroupId)
  | revival (u : UnitId)
  | windowClose (u : UnitId)
  | stale (u : UnitId)
deriving DecidableEq, Repr

/-! ### The machine -/

/-- The KC812. `running` is false from a cold start or RESTART until the start-up completes; `due` holds the events
announced at the last decisecond event and not yet taken; `freeCount` indexes the free values; `pending` is the queue
of commands waiting, first in, first out. -/
structure State where
  running : Bool
  clock : Clock
  store : PlanStore
  calls : List CallRecord
  crossings : Vector Crossing 8
  groups : Vector Group 4
  units : Vector KerbUnit 32
  kerb : KerbLink
  counters : Counters
  host : HostPort
  due : List Due
  freeCount : Nat
  pending : List Instr
deriving DecidableEq, Repr

/-- The ways the machine stops with a fault. -/
inductive Fault where
  /-- Raised by the meanings of HOST_FRAME_RECEIVED, FRAME_ABANDON, GOOD_REPLY and BAD_REPLY when the operand given is
  not what the row's event carries (bytes that are no whole frame, a length byte of 240 or less). No such event
  reaches the part, so stopping is safe. -/
  | noSuchEvent
deriving DecidableEq, Repr

/-- The ways a command is refused by the model. -/
inductive Refusal where
  /-- Raised by exec for a row of the opcode table that has no meaning yet. Safe: the model stops. -/
  | notModelled (mnemonic : String)
deriving DecidableEq, Repr

/-! ### Values after reset -/

/-- The corridor clock after reset with no selection in force (R22). -/
def Clock.initial : Clock :=
  { now := 0, corridorTime := 0, cycle := none, mode := .free, timeOfDay := 0, phase := 0, timeValid := false,
    quiet := false, correction := 0, hold := false, boundaryDue := false, zeroSteps := 0, watchdog := 0 }

/-- An output after reset at a crossing whose outputs are all off: settling, proved off, no mismatch (R134). -/
def OutputLine.initial : OutputLine :=
  { mode := .off, value := false, settling := true, proved := false, mismatch := 0, sense := none }

/-- The signal port of an UNCONFIGURED crossing after reset (R134). -/
def SignalPort.initial : SignalPort :=
  { lines := { red := .initial, amber := .initial, green := .initial, walk := .initial, dontWalk := .initial },
    flash := .idle, conflict := 0, walkFailed := false }

/-- A crossing controller after reset with no record (R120). -/
def Crossing.initial : Crossing :=
  { state := .unconfigured, timeInState := 0, timeLeft := none, green := none, stage := none, pendingChange := none,
    closingAmber := false, recallTimer := none, faults := {}, failRecall := true, inForce := none, retainedAmber := 30,
    route := none, waiting := none, working := {}, accessibleMark := false, port := .initial }

/-- A group after reset with no selection in force (R95): r and q lie 600 ds before the moment start-up completes. -/
def Group.initial : Group :=
  { stageLimit := 0, spacing := 0, pairing := 0, active := 0, release := 0 - 600, quietSince := 0 - 600,
    spacingExpiry := none, pairingClose := none }

/-- The audible level block's items for a unit after reset, levels silent (R169). -/
def Audible.initial : Audible :=
  { estimate := none, stale := false, lastStart := none, dueTime := 0, sample := none, muteSet := [],
    locatorLevel := 0, walkLevel := 0, report := none }

/-- The working state of a unit entry after reset (section 8.2, R153), for the given map part. -/
def KerbUnit.initial (m : Option Mapping) : KerbUnit :=
  { mapping := m, state := .joining, misses := 0, goods := 0, pressBaseline := none, extendedBaseline := none,
    heldNow := false, heldTime := 0, stuck := false, audioFault := false, revivalPosition := 0, nextRevival := none,
    revivalDue := false, sounding := false, pendingAction := none, lastCommand := none, audible := .initial }

/-- The kerb link master after reset (R135, R153). -/
def KerbLink.initial : KerbLink :=
  { lastPolled := none, resting := false, transaction := none, ended := none }

/-- The counter bank after a cold start (R175). -/
def Counters.initial : Counters :=
  { crossings := Vector.replicate 8 {}, units := Vector.replicate 32 {}, corridor := {} }

/-- An invalid filter entry, as after a cold start (R188); its other fields are 0 (log entry 8). -/
def FilterEntry.invalid : FilterEntry := { valid := false, family := 0, kind := 0, crossings := 0 }

/-- The host link port after a cold start (R188). -/
def HostPort.initial : HostPort :=
  { receiver := .hunt, requests := [], executing := none, reply := none, transmission := none, notices := [],
    noticesLost := false, filter := Vector.replicate 16 .invalid, restartHold := false }

/-- A bank as delivered: headerless with all eight crossing slots absent (section 2.1). -/
def Bank.delivered : Bank := { header := .empty, records := Vector.replicate 8 .empty }

/-- The plan store as delivered (section 2.1, R44). -/
def PlanStore.delivered : PlanStore :=
  { banks := Vector.replicate 4 .delivered, inForce := none, pendingSelection := none, stored := none,
    deferral := false }

/-- The machine right after reset: a part as delivered (banks headerless, stored selection none, section 2.1; no unit
mapped, log entry 4) whose cold start has just completed its start-up. -/
def State.reset : State :=
  { running := true
    clock := .initial
    store := .delivered
    calls := []
    crossings := Vector.replicate 8 .initial
    groups := Vector.replicate 4 .initial
    units := Vector.replicate 32 (.initial none)
    kerb := .initial
    counters := .initial
    host := .initial
    due := []
    freeCount := 0
    pending := [] }

end Sys2Proof.Machine
end

