-- ==== Sys2Proof/Machine/Operands.lean ====
section
/-!
DEFINITION. Operand forms: comparisons of times, arithmetic modulo the cycle, field encodings, the frame check, and
the reading of plan records and of the small operand bytes of requests and kerb replies.
-/

namespace Sys2Proof.Machine

/-! ### Tables over the numbered parts -/

/-- The crossings in ascending order. -/
def allCrossings : List CrossingId := [0, 1, 2, 3, 4, 5, 6, 7]

/-- The groups in ascending order. -/
def allGroups : List GroupId := [0, 1, 2, 3]

/-- The kerb unit addresses in ascending order. -/
def allUnits : List UnitId :=
  [0, 1, 2, 3, 4, 5, 6, 7, 8, 9, 10, 11, 12, 13, 14, 15, 16, 17, 18, 19, 20, 21, 22, 23, 24, 25, 26, 27, 28, 29, 30, 31]

/-- The five outputs in the order of section 7.1. -/
def allLamps : List Lamp := [.red, .amber, .green, .walk, .dontWalk]

/-- A table rewritten entry by entry. -/
def rewrite {α β : Type} {n : Nat} (v : Vector α n) (f : Fin n → α → β) : Vector β n :=
  ⟨((List.finRange n).map fun i => f i v[i]).toArray, by simp⟩

/-- One entry of a table changed. -/
def change {α : Type} {n : Nat} (v : Vector α n) (i : Fin n) (f : α → α) : Vector α n := v.set i (f v[i])

/-- The entry of one output. -/
def lampAt {α : Type} (l : Lamps α) : Lamp → α
  | .red => l.red
  | .amber => l.amber
  | .green => l.green
  | .walk => l.walk
  | .dontWalk => l.dontWalk

/-- Five outputs rewritten output by output. -/
def rewriteLamps {α β : Type} (l : Lamps α) (f : Lamp → α → β) : Lamps β :=
  { red := f .red l.red, amber := f .amber l.amber, green := f .green l.green, walk := f .walk l.walk,
    dontWalk := f .dontWalk l.dontWalk }

/-! ### Times (R1) -/

/-- The difference of two times taken modulo 2^32 (R1): the deciseconds from `t` to `now`. -/
def since (now t : Time) : Nat := (now - t).toNat

/-- Whether `now` is at or after `t`, by their difference modulo 2^32, exact for intervals below 2^31 ds (R1). -/
def reached (now t : Time) : Bool := decide (since now t < 2147483648)

/-- The deciseconds from `now` to `t`, 0 once `t` is reached. -/
def untilTime (now t : Time) : Nat := if reached now t then 0 else since t now

/-- The time `d` deciseconds after `t`. -/
def later (t : Time) (d : Nat) : Time := t + BitVec.ofNat 32 d

/-- A count of deciseconds saturating at 65535. -/
def saturate (n : Nat) : Nat := min n 65535

/-- The deciseconds since a time, saturating at 65535, as the host sees them (R63, R97, R98). -/
def reportedSince (now t : Time) : Nat := saturate (since now t)

/-- The earlier of two times still to come or just arrived, by R1's comparison (R48). -/
def earlier (a b : Time) : Time := if reached a b then b else a

/-! ### Arithmetic -/

/-- a mod Y, in 0 to Y - 1 also for a negative `a` (section 6, Modulo). -/
def modY (a : Int) (y : Nat) : Nat := (a % (y : Int)).toNat

/-- ceil(a / b) on the exact quotient of whole numbers (section 6, Rounding). -/
def ceilDiv (a b : Nat) : Nat := (a + b - 1) / b

/-- A counter raised by `k`: the smaller of the sum and 65535 (R170). -/
def satAdd (a k : Nat) : Nat := min (a + k) 65535

/-- Local time t = (T - O) mod Y (R4). -/
def localTime (t o y : Nat) : Nat := modY ((t : Int) - o) y

/-- Whether local time `t` is in the record's band: (t - B_s) mod Y < B_len (R4). -/
def inBand (r : Record) (y t : Nat) : Bool := decide (modY ((t : Int) - r.bandStart) y < r.bandLen)

/-- Gap g from local time `t` to the next band start: (B_s - t) mod Y (R4). -/
def gapFrom (r : Record) (y t : Nat) : Nat := modY ((r.bandStart : Int) - t) y

/-- Band end E = (B_s + B_len) mod Y (R4). -/
def bandEnd (r : Record) (y : Nat) : Nat := (r.bandStart + r.bandLen) % y

/-- Time u from the last band end to local time `t`: (t - E) mod Y (R4). -/
def sinceBandEnd (r : Record) (y t : Nat) : Nat := modY ((t : Int) - bandEnd r y) y

/-! ### Sets -/

def Sides.union (x y : Sides) : Sides := { a := x.a || y.a, b := x.b || y.b }

/-- The set of one side. -/
def Sides.only : Side → Sides
  | .a => { a := true }
  | .b => { b := true }

def Origins.union (x y : Origins) : Origins :=
  { press := x.press || y.press, link := x.link || y.link, remote := x.remote || y.remote,
    recalled := x.recalled || y.recalled }

def Origins.none? (x : Origins) : Bool := !(x.press || x.link || x.remote || x.recalled)

/-- The origins are {LINK} alone (R55). -/
def Origins.linkAlone (x : Origins) : Bool := x.link && !(x.press || x.remote || x.recalled)

/-- The origins are {RECALL} alone (R97). -/
def Origins.recallAlone (x : Origins) : Bool := x.recalled && !(x.press || x.link || x.remote)

def FaultSet.has (f : FaultSet) : FaultClass → Bool
  | .conflict => f.conflict
  | .stuckOn => f.stuckOn
  | .redLoss => f.redLoss
  | .walkFail => f.walkFail
  | .lampOut => f.lampOut
  | .flashFail => f.flashFail

/-- A class added to the fault set; a class already present stays present once (R129). -/
def FaultSet.insert (f : FaultSet) : FaultClass → FaultSet
  | .conflict => { f with conflict := true }
  | .stuckOn => { f with stuckOn := true }
  | .redLoss => { f with redLoss := true }
  | .walkFail => { f with walkFail := true }
  | .lampOut => { f with lampOut := true }
  | .flashFail => { f with flashFail := true }

/-- The rank of a pending change's target, from UNCONFIGURED up to DARK (R109). -/
def Target.rank : Target → Nat
  | .unconfigured => 0
  | .cmdFlash => 1
  | .faultFlash => 2
  | .dark => 3

/-! ### Bytes (R189, section 12.2) -/

/-- One byte of a whole number. -/
def byte (n : Nat) : Byte := BitVec.ofNat 8 n

/-- Two bytes, most significant first (R189). -/
def two (n : Nat) : List Byte := [byte (n / 256), byte n]

/-- Four bytes, most significant first (R189). -/
def four (n : Nat) : List Byte := [byte (n / 16777216), byte (n / 65536), byte (n / 256), byte n]

/-- A signed value in two bytes, two's complement (R189). -/
def signedTwo (n : Int) : List Byte := two ((n % 65536).toNat)

/-- A yes/no byte (section 12.2). -/
def yesNo (b : Bool) : Byte := if b then 1 else 0

/-- The number of a crossing, group, unit, bank or entry. -/
def number {n : Nat} (i : Fin n) : Byte := byte (i.val + 1)

/-- The number, or 0 for none (section 12.2). -/
def numberOrNone {n : Nat} : Option (Fin n) → Byte
  | some i => number i
  | none => 0

/-- Two bytes for a duration, level or count that may be none; how none is encoded is open (log entry 7). -/
def twoOrNone : Option Nat → List Byte
  | some n => two n
  | none => two Config.absentWord.toNat

/-- A set of unit addresses: a one-byte count and the addresses (section 12.2). -/
def unitSet (l : List UnitId) : List Byte := byte l.length :: l.map number

/-- The two-byte value at an offset of a body. -/
def readTwo (l : List Byte) (i : Nat) : Nat := (l.getD i 0).toNat * 256 + (l.getD (i + 1) 0).toNat

/-- The one-byte value at an offset of a body. -/
def readOne (l : List Byte) (i : Nat) : Nat := (l.getD i 0).toNat

/-- The four-byte value at an offset of a body. -/
def readFour (l : List Byte) (i : Nat) : Nat := readTwo l i * 65536 + readTwo l (i + 2)

/-- The part of `n` numbered by a byte, 1 to n; none for any other byte. -/
def numbered (n : Nat) (b : Byte) : Option (Fin n) :=
  if h : 1 ≤ b.toNat ∧ b.toNat ≤ n then some ⟨b.toNat - 1, by omega⟩ else none

/-- A yes/no byte; none above 1 (R190). -/
def readYesNo (b : Byte) : Option Bool :=
  if b.toNat = 0 then some false else if b.toNat = 1 then some true else none

/-- One step of the frame check's register: a left shift, combined with 0x1021 where the top bit was 1 (R189). -/
def crcShift (r : BitVec 16) : BitVec 16 := if r.msb then (r <<< 1) ^^^ 0x1021#16 else r <<< 1

/-- The register after one more byte (R189). -/
def crcByte (r : BitVec 16) (b : Byte) : BitVec 16 :=
  crcShift (crcShift (crcShift (crcShift (crcShift (crcShift (crcShift (crcShift (r ^^^ (b.setWidth 16 <<< 8)))))))))

/-- The frame check over bytes in the order sent (R189). -/
def frameCheck (l : List Byte) : BitVec 16 := l.foldl crcByte 0xFFFF#16

/-- The frame check's two bytes, high byte first (R189). -/
def checkBytes (l : List Byte) : List Byte := two (frameCheck l).toNat

/-! ### Plan records (sections 12.3.2, 12.3.3) and their range checks (R25, R27, R190) -/

/-- Group g's parameters at their offsets in the corridor header. -/
def readGroupParams (l : List Byte) (g : GroupId) : GroupParams :=
  { stageLimit := readOne l (3 + 4 * g.val), spacing := readTwo l (4 + 4 * g.val), pairing := readOne l (6 + 4 * g.val) }

/-- The 33 bytes of a corridor header read as fields (section 12.3.2). -/
def readHeader (l : List Byte) : Header :=
  { cycle := readTwo l 0
    coordination := readOne l 2 == 1
    groups := rewrite (Vector.replicate 4 ()) fun g _ => readGroupParams l g
    quietStart := readTwo l 19
    quietEnd := readTwo l 21
    sampleInterval := readTwo l 23
    label := (l.drop 23).drop 2 }

/-- One group's ranges: K 0 to 4, H 0 to 600, P 0 to the smaller of H and 100 (R25). -/
def GroupParams.inRange (p : GroupParams) : Bool :=
  decide (p.stageLimit ≤ 4) && decide (p.spacing ≤ 600) && decide (p.pairing ≤ min p.spacing 100)

/-- Every field of the header in its range (R25). -/
def Header.inRange (h : Header) : Bool :=
  decide (400 ≤ h.cycle) && decide (h.cycle ≤ 2400) && allGroups.all (fun g => (h.groups[g]).inRange) &&
  decide (h.quietStart ≤ 1439) && decide (h.quietEnd ≤ 1439) &&
  decide (100 ≤ h.sampleInterval) && decide (h.sampleInterval ≤ 3000) &&
  h.label.all (fun b => decide (32 ≤ b.toNat) && decide (b.toNat ≤ 126))

/-- A corridor header offered in PLAN WRITE: read, and its ranges and its yes/no byte checked (R25, R190). -/
def offeredHeader (l : List Byte) : Option Header :=
  if (readYesNo (l.getD 2 0)).isSome && (readHeader l).inRange then some (readHeader l) else none

/-- The 35 bytes of a crossing record read as fields (section 12.3.3). -/
def readRecord (l : List Byte) : Record :=
  { length := readTwo l 0
    normalSpeed := readOne l 2
    accessibleSpeed := readOne l 3
    walk := readTwo l 4
    minWalk := readTwo l 6
    walkExtra := readOne l 8
    margin := readOne l 9
    amber := readOne l 10
    leadRed := readOne l 11
    trailRed := readOne l 12
    minGreen := readTwo l 13
    offset := readTwo l 15
    bandStart := readTwo l 17
    bandLen := readTwo l 19
    group := numbered 4 (l.getD 21 0)
    partner := numbered 8 (l.getD 22 0)
    linkDelay := readTwo l 23
    recallInterval := readTwo l 25
    stuckThreshold := readTwo l 27
    walkPattern := readOne l 29
    locatorMargin := readOne l 30
    walkMargin := readOne l 31
    minLevel := readOne l 32
    maxLevel := readOne l 33
    nightCap := readOne l 34 }

/-- The range checks that do not depend on a header (R27, table of section 2.3). -/
def Record.inRange (r : Record) : Bool :=
  decide (20 ≤ r.length) && decide (r.length ≤ 400) &&
  decide (90 ≤ r.normalSpeed) && decide (r.normalSpeed ≤ 150) &&
  decide (50 ≤ r.accessibleSpeed) && decide (r.accessibleSpeed ≤ r.normalSpeed) &&
  decide (40 ≤ r.walk) && decide (r.walk ≤ 300) &&
  decide (40 ≤ r.minWalk) && decide (r.minWalk ≤ r.walk) &&
  decide (r.walkExtra ≤ 200) && decide (r.margin ≤ 50) &&
  decide (30 ≤ r.amber) && decide (r.amber ≤ 60) &&
  decide (10 ≤ r.leadRed) && decide (r.leadRed ≤ 40) &&
  decide (10 ≤ r.trailRed) && decide (r.trailRed ≤ 40) &&
  decide (50 ≤ r.minGreen) && decide (r.minGreen ≤ 1200) &&
  decide (r.linkDelay ≤ 300) &&
  (decide (r.recallInterval = 0) || (decide (300 ≤ r.recallInterval) && decide (r.recallInterval ≤ 3000))) &&
  decide (300 ≤ r.stuckThreshold) && decide (r.stuckThreshold ≤ 2400) &&
  decide (r.walkPattern ≤ 7) && decide (r.locatorMargin ≤ 15) && decide (r.walkMargin ≤ 20) &&
  decide (40 ≤ r.minLevel) && decide (r.minLevel ≤ 70) &&
  decide (r.minLevel ≤ r.maxLevel) && decide (r.maxLevel ≤ 96) &&
  decide (r.minLevel ≤ r.nightCap) && decide (r.nightCap ≤ r.maxLevel)

/-- A crossing record offered in PLAN WRITE: read, and the ranges of R27 checked, among them a group byte of none or 1
to 4 and a link partner byte of none or 1 to 8 (R27, R190). -/
def offeredRecord (l : List Byte) : Option Record :=
  if decide (readOne l 21 ≤ 4) && decide (readOne l 22 ≤ 8) && (readRecord l).inRange then some (readRecord l) else none

/-- The bytes of one group's parameters (section 12.3.2). -/
def groupParamsBytes (p : GroupParams) : List Byte := byte p.stageLimit :: (two p.spacing ++ [byte p.pairing])

/-- The 33 bytes of a corridor header (section 12.3.2). -/
def headerBytes (h : Header) : List Byte :=
  two h.cycle ++ yesNo h.coordination :: (groupParamsBytes h.groups[0] ++ groupParamsBytes h.groups[1] ++
    groupParamsBytes h.groups[2] ++ groupParamsBytes h.groups[3] ++ two h.quietStart ++ two h.quietEnd ++
    two h.sampleInterval ++ h.label)

/-- The 35 bytes of a crossing record (section 12.3.3). -/
def recordBytes (r : Record) : List Byte :=
  two r.length ++ [byte r.normalSpeed, byte r.accessibleSpeed] ++ two r.walk ++ two r.minWalk ++
  [byte r.walkExtra, byte r.margin, byte r.amber, byte r.leadRed, byte r.trailRed] ++ two r.minGreen ++ two r.offset ++
  two r.bandStart ++ two r.bandLen ++ [numberOrNone r.group, numberOrNone r.partner] ++ two r.linkDelay ++
  two r.recallInterval ++ two r.stuckThreshold ++
  [byte r.walkPattern, byte r.locatorMargin, byte r.walkMargin, byte r.minLevel, byte r.maxLevel, byte r.nightCap]

/-- The bytes of a slot's content in PLAN WRITE's layout (R34). -/
def SlotItem.bytes : SlotItem → List Byte
  | .header h => headerBytes h
  | .record _ r => recordBytes r

/-- The slot number a content belongs to: 0, or the crossing's number. -/
def SlotItem.slot : SlotItem → Nat
  | .header _ => 0
  | .record c _ => c.val + 1

/-! ### Kerb reply fields (section 12.4, R143, R190) -/

/-- The fields of a kerb reply frame. -/
structure KerbReply where
  fresh : Bool
  presses : Nat
  extended : Nat
  heldNow : Bool
  heldTime : Nat
  speakerFail : Bool
  sample : Option (Nat × Bool)
deriving DecidableEq, Repr

/-- The sample level clamped to 30 to 110 dB (R143). -/
def clampSample (n : Nat) : Nat := max 30 (min n 110)

/-- The fields of the nine bytes of a reply; flag bits 5 to 7 are ignored, and the level and short bit are read only
with the sample-present bit set (R190). -/
def readKerbReply (l : List Byte) : KerbReply :=
  let flags := l.getD 2 0
  { fresh := flags.getLsbD 0
    presses := readOne l 3
    extended := readOne l 4
    heldNow := flags.getLsbD 1
    heldTime := readOne l 5
    speakerFail := flags.getLsbD 2
    sample := if flags.getLsbD 3 then some (clampSample (readOne l 6), flags.getLsbD 4) else none }

/-- Nine bytes that begin with the reply start byte 0xC3 (section 12.4). -/
def wholeKerbReply (l : List Byte) : Bool := decide (l.length = 9) && decide (l.getD 0 0 = 0xC3#8)

/-- The check over every byte after the start byte agrees with the two bytes carried (R189). -/
def kerbCheckGood (l : List Byte) : Bool := decide (checkBytes ((l.drop 1).take 6) = l.drop 7)

/-- A host frame's bytes after the start byte: a length of 0 to 240, a kind, a tag, that many body bytes, and two check
bytes (R176, section 12.3). -/
def wholeHostFrame (l : List Byte) : Bool :=
  decide ((l.getD 0 0).toNat ≤ 240) && decide (l.length = (l.getD 0 0).toNat + 5)

/-- The check over the length, kind, tag and body agrees with the two bytes carried (R177, R189). -/
def hostCheckGood (l : List Byte) : Bool := decide (checkBytes (l.take (l.length - 2)) = l.drop (l.length - 2))

/-- The kind, tag and body of a whole host frame. -/
def readHostFrame (l : List Byte) : Frame :=
  { kind := l.getD 1 0, tag := l.getD 2 0, body := (l.drop 3).take (l.length - 5) }

end Sys2Proof.Machine
end

