-- ==== Sys2Proof/Machine/Flags.lean ====
section
/-!
DEFINITION. Derived conditions and flags: service and registering states, presence of slots, effective records, the
quiet flag, stage times, the coordinated outcome, the upgrade's outcome, the fault class of a mismatch, sound levels,
indications, working buttons and filter matches. All are functions of the items the blocks hold.
-/

namespace Sys2Proof.Machine

/-! ### Crossing states (R99, R50, section 6.2) -/

/-- The states in which a crossing may be in service (R99). -/
def CrossingState.serving : CrossingState → Bool
  | .startupFlash | .startupRed | .vehGreen | .vehAmber | .leadRed | .walk | .clearance | .trailRed => true
  | .unconfigured | .cmdFlash | .faultFlash | .dark => false

/-- The registering states (R50). -/
def CrossingState.registering : CrossingState → Bool
  | .startupFlash | .startupRed | .vehGreen | .clearance | .trailRed => true
  | .unconfigured | .vehAmber | .leadRed | .walk | .cmdFlash | .faultFlash | .dark => false

/-- The states of a committed stage that absorb offers (R50). -/
def CrossingState.committed : CrossingState → Bool
  | .vehAmber | .leadRed | .walk => true
  | .unconfigured | .startupFlash | .startupRed | .vehGreen | .clearance | .trailRed | .cmdFlash | .faultFlash
  | .dark => false

/-- The five states of a stage (R104). -/
def CrossingState.ofStage : CrossingState → Bool
  | .vehAmber | .leadRed | .walk | .clearance | .trailRed => true
  | .unconfigured | .startupFlash | .startupRed | .vehGreen | .cmdFlash | .faultFlash | .dark => false

/-- The two states of the start-up (R102). -/
def CrossingState.startingUp : CrossingState → Bool
  | .startupFlash | .startupRed => true
  | .unconfigured | .vehGreen | .vehAmber | .leadRed | .walk | .clearance | .trailRed | .cmdFlash | .faultFlash | .dark => false

/-- The flashing states (R121). -/
def CrossingState.flashing : CrossingState → Bool
  | .startupFlash | .cmdFlash | .faultFlash => true
  | .unconfigured | .startupRed | .vehGreen | .vehAmber | .leadRed | .walk | .clearance | .trailRed | .dark => false

/-- The state a pending change's target names (R109). -/
def Target.state : Target → CrossingState
  | .cmdFlash => .cmdFlash
  | .unconfigured => .unconfigured
  | .faultFlash => .faultFlash
  | .dark => .dark

/-- In service: a serving state and no pending service change (R99). -/
def Crossing.inService (x : Crossing) : Bool := x.state.serving && x.pendingChange.isNone

/-- In VEH_AMBER, LEAD_RED or WALK of a stage (R50): a closing amber is no part of a stage (R111). -/
def Crossing.inCommittedStage (x : Crossing) : Bool := x.state.committed && !x.closingAmber

/-- The target of the pending change, if any. -/
def Crossing.pendingTarget (x : Crossing) : Option Target := x.pendingChange.map (·.target)

/-- A target ranks above the pending change, if any (R109). -/
def Crossing.outrankedBy (x : Crossing) (t : Target) : Bool :=
  match x.pendingChange with
  | none => true
  | some p => decide (p.target.rank < t.rank)

/-- The in-force record alone. -/
def Crossing.record (x : Crossing) : Option Record := x.inForce.map (·.record)

/-- The green timer has expired in VEH_GREEN (R53). -/
def Crossing.greenExpired (x : Crossing) : Bool :=
  decide (x.state = .vehGreen) && (match x.green with | some g => g.expired | none => false)

/-! ### Commanded modes (R121) -/

/-- The commanded mode of an output in a state (R121). -/
def commandedMode : CrossingState → Lamp → OutputMode
  | .unconfigured, _ | .dark, _ => .off
  | .startupFlash, .amber | .cmdFlash, .amber | .faultFlash, .amber => .flashing
  | .startupFlash, _ | .cmdFlash, _ | .faultFlash, _ => .off
  | .startupRed, .red | .leadRed, .red | .trailRed, .red => .on
  | .startupRed, .dontWalk | .leadRed, .dontWalk | .trailRed, .dontWalk => .on
  | .startupRed, _ | .leadRed, _ | .trailRed, _ => .off
  | .vehGreen, .green | .vehGreen, .dontWalk => .on
  | .vehGreen, _ => .off
  | .vehAmber, .amber | .vehAmber, .dontWalk => .on
  | .vehAmber, _ => .off
  | .walk, .red | .walk, .walk => .on
  | .walk, _ => .off
  | .clearance, .red => .on
  | .clearance, .dontWalk => .flashing
  | .clearance, _ => .off

/-- The fault class a mismatch timer raises at 5; for amber the mode its count was gathered in decides between
FLASH_FAIL (FLASHING) and LAMP_OUT (R126). -/
def faultClass (lamp : Lamp) (sense : Sense) (mode : OutputMode) : FaultClass :=
  match sense, lamp with
  | .onWhenOff, _ => .stuckOn
  | .offWhenOn, .red => .redLoss
  | .offWhenOn, .amber => if mode = .flashing then .flashFail else .lampOut
  | .offWhenOn, .green => .lampOut
  | .offWhenOn, .walk => .walkFail
  | .offWhenOn, .dontWalk => .lampOut

/-! ### Plan store (R23, R24, R34, R35, R28, R36) -/

/-- The content of a slot that is present: mark set and check value in agreement (R23). -/
def Slot.present {α : Type} (s : Slot α) : Option α := if s.mark && s.intact then s.content else none

/-- A slot made absent (R23, R32): its content is no longer read. -/
def Slot.absent {α : Type} (s : Slot α) : Slot α := { s with mark := false }

/-- A bank's header, if present. -/
def PlanStore.header (p : PlanStore) (b : BankId) : Option Header := (p.banks[b]).header.present

/-- A selection names the bank as base or overlay. -/
def Selection.names (s : Selection) (b : BankId) : Bool := decide (s.base = b) || decide (s.overlay = some b)

/-- A bank in use (R24). -/
def PlanStore.inUse (p : PlanStore) (b : BankId) : Bool :=
  p.inForce.any (·.names b) || p.pendingSelection.any (·.names b)

/-- The standing of a bank (R34). -/
def PlanStore.standing (p : PlanStore) (b : BankId) : Standing :=
  { inForceBase := p.inForce.any fun s => decide (s.base = b)
    inForceOverlay := p.inForce.any fun s => decide (s.overlay = some b)
    pendingBase := p.pendingSelection.any fun s => decide (s.base = b)
    pendingOverlay := p.pendingSelection.any fun s => decide (s.overlay = some b)
    stored := p.stored.any (·.names b) }

/-- The record of a bank for a crossing, if its slot is present. -/
def PlanStore.recordIn (p : PlanStore) (b : BankId) (c : CrossingId) : Option InForce :=
  ((p.banks[b]).records[c]).present.map fun r => { bank := b, record := r }

/-- The effective record of a crossing under a selection: the overlay's where present, else the base's (R35). -/
def PlanStore.effective (p : PlanStore) (s : Selection) (c : CrossingId) : Option InForce :=
  match s.overlay.bind fun o => p.recordIn o c with
  | some r => some r
  | none => p.recordIn s.base c

/-- The header of the base bank in force. -/
def PlanStore.headerInForce (p : PlanStore) : Option Header := p.inForce.bind fun s => p.header s.base

/-! ### Stage arithmetic (sections 4.1, 4.2) -/

/-- Clearance: ceil(100 × L / S) + M (R66). -/
def clearanceOf (length speed margin : Nat) : Nat := ceilDiv (100 * length) speed + margin

/-- The clearance of a stage of the record (R66). -/
def Record.clearance (r : Record) (accessible : Bool) : Nat :=
  clearanceOf r.length (if accessible then r.accessibleSpeed else r.normalSpeed) r.margin

/-- The desired walk w_d (R67). -/
def Record.desiredWalk (r : Record) (accessible : Bool) : Nat := if accessible then r.walk + r.walkExtra else r.walk

/-- The fixed part F_x (R67). -/
def Record.fixedPart (r : Record) (accessible : Bool) : Nat :=
  r.amber + r.leadRed + r.clearance accessible + r.trailRed

/-- The duration D(w) (R67). -/
def Record.duration (r : Record) (accessible : Bool) (w : Nat) : Nat := r.fixedPart accessible + w

/-- The fit test against a cycle length (R26). -/
def Record.fits (r : Record) (y : Nat) : Bool :=
  decide (r.bandLen = 0) || decide (r.fixedPart true + r.minWalk + r.bandLen ≤ y)

/-- O, B_s and B_len each lie in 0 to Y - 1 (R28, R36). -/
def Record.placed (r : Record) (y : Nat) : Bool :=
  decide (r.offset < y) && decide (r.bandStart < y) && decide (r.bandLen < y)

/-- The group, if named, has K of 1 or more in the header (R28, R36). -/
def Record.groupDefined (r : Record) (h : Header) : Bool :=
  match r.group with
  | none => true
  | some g => decide (1 ≤ (h.groups[g]).stageLimit)

/-- The checks of R28 against a bank's header, in the table's order; none when the record is valid. -/
def checkAtWrite (header : Option Header) (c : CrossingId) (r : Record) : Option RecordReason :=
  match header with
  | none => some .noHeader
  | some h =>
    if !r.placed h.cycle then some .range
    else if !r.groupDefined h then some .group
    else if r.partner = some c then some .partner
    else if !r.fits h.cycle then some .fit
    else none

/-- The checks of R36 step 3 against a selection's base header; none when the record passes. -/
def checkAtSelect (h : Header) (r : Record) : Option RecordReason :=
  if !r.placed h.cycle then some .range
  else if !r.groupDefined h then some .group
  else if !r.fits h.cycle then some .fit
  else none

/-- The first crossing whose effective record fails under a selection, with the reason (R36 step 3). -/
def PlanStore.misfit (p : PlanStore) (s : Selection) (h : Header) : Option (CrossingId × RecordReason) :=
  allCrossings.findSome? fun c =>
    (p.effective s c).bind fun r => (checkAtSelect h r.record).map fun reason => (c, reason)

/-! ### Quiet hours (R20) -/

/-- Whether quiet hours from S to F, minutes of day, apply at minute `m` (R20). -/
def quietAt (start stop m : Nat) : Bool :=
  if start < stop then decide (start ≤ m) && decide (m < stop)
  else if stop < start then decide (start ≤ m) || decide (m < stop)
  else false

/-- The quiet flag's value from the clock and the base header in force (R20). -/
def quietNow (k : Clock) (h : Option Header) : Bool :=
  match h with
  | some h => k.timeValid && quietAt h.quietStart h.quietEnd (k.timeOfDay / 60)
  | none => false

/-! ### The coordinated outcome (R71, R74, R83) -/

/-- The outcome of a call on the BAND route: admitted with a walk, and what cut it if truncated, or waiting. -/
inductive BandOutcome where
  | start (walk : Nat) (cut : Option Cut)
  | wait (reason : WaitReason)
deriving DecidableEq, Repr

/-- The outcome of R71 at local time `t`, or of R74 with the hold's limit Y - T (`held`); the waiting reasons are
R83's, and what cut the walk is R97's. -/
def bandOutcome (r : Record) (accessible : Bool) (y t : Nat) (held : Option Nat) : BandOutcome :=
  if inBand r y t then .wait .inBand
  else
    let g := gapFrom r y t
    let limit := match held with
      | none => g
      | some h => min g h
    if r.duration accessible (r.desiredWalk accessible) ≤ limit then .start (r.desiredWalk accessible) none
    else if r.duration accessible r.minWalk ≤ limit then
      .start (limit - r.fixedPart accessible) (some (if limit < g then .hold else .band))
    else if r.duration accessible r.minWalk ≤ g then .wait .hold
    else .wait .gap

/-! ### Stage context (R69, R76, R77) -/

/-- The lengths held in the context of the intervals after the one a state runs (R69). -/
def Stage.laterIntervals (k : Stage) : CrossingState → Nat
  | .vehAmber => k.leadRed + k.walk + k.clearance + k.trailRed
  | .leadRed => k.walk + k.clearance + k.trailRed
  | .walk => k.clearance + k.trailRed
  | .clearance => k.trailRed
  | .trailRed | .unconfigured | .startupFlash | .startupRed | .vehGreen | .cmdFlash | .faultFlash | .dark => 0

/-- The remaining time r of the stage a crossing runs (R69). -/
def Crossing.remaining (x : Crossing) (k : Stage) : Nat := x.timeLeft.getD 0 + k.laterIntervals x.state

/-- The elapsed time e of a stage (R69). -/
def Stage.elapsed (k : Stage) (now : Time) : Nat := since now k.admittedAt

/-- The coordinated stage in flight at a crossing with remaining time above 0, with that remaining time (R14, R38). -/
def Crossing.coordinatedInFlight (x : Crossing) : Option (Stage × Nat) :=
  match x.stage with
  | some k => if k.kind = .coordinated ∧ 0 < x.remaining k then some (k, x.remaining k) else none
  | none => none

/-- The outcome of an upgrade: the new context, the extra walk and the new remaining time where it fits (R76). -/
inductive UpgradeOutcome where
  | already
  | noFit
  | fits (stage : Stage) (extra remaining : Nat)
deriving DecidableEq, Repr

/-- The context after an upgrade with extra walk `x` (R77). -/
def Stage.upgradedBy (k : Stage) (clearance x : Nat) : Stage :=
  { k with clearance := clearance, walk := k.walk + x, accessible := true, upgraded := true, extraWalk := x }

/-- The upgrade computation (R76). `limit` is the band's and the hold's limit λ for a COORDINATED stage (none: no
bound), and `barred` says that its crossing is in band. -/
def upgradeOutcome (k : Stage) (remaining : Nat) (barred : Bool) (limit : Option Nat) : UpgradeOutcome :=
  let clearance := clearanceOf k.length k.accessibleSpeed k.margin
  let added := clearance - k.clearance
  let offered := if k.truncated then 0 else k.walkExtra
  if k.accessible then .already
  else
    match k.kind with
    | .free => .fits (k.upgradedBy clearance offered) offered (remaining + added + offered)
    | .coordinated =>
      if barred then .noFit
      else
        match limit with
        | none => .fits (k.upgradedBy clearance offered) offered (remaining + added + offered)
        | some l =>
          if l < remaining + added then .noFit
          else
            let x := min offered (l - remaining - added)
            .fits (k.upgradedBy clearance x) x (remaining + added + x)

/-! ### Routes (R80) -/

/-- The route of a crossing from the corridor mode and its in-force record (R80). -/
def routeOf (m : Mode) (r : Record) : Route :=
  if m = .coordinated ∧ 0 < r.bandLen then .band
  else
    match r.group with
    | some g => .group g
    | none => .direct

/-- The first condition of R82 that a call fails, as its waiting reason. -/
def ineligible (x : Crossing) (call : CallRecord) : Option WaitReason :=
  if call.notBefore.isSome then some .notBefore else if x.greenExpired then none else some .green

/-! ### The group arbiter's conditions (R86, R88) -/

/-- The pairing window is open (R86). -/
def Group.windowOpen (g : Group) (now : Time) : Bool :=
  decide (0 < g.active) && decide (since now g.release ≤ g.pairing)

/-- How a call may be admitted by the group now, if it may (R88). -/
def Group.mayStart (g : Group) (now : Time) : Option GroupStart :=
  if g.active < g.stageLimit then
    if g.active = 0 then (if g.spacing ≤ since now g.quietSince then some .release else none)
    else if since now g.release ≤ g.pairing then some .join else none
  else none

/-- The waiting reason the group gives a call it does not admit (R88). -/
def Group.reason (g : Group) : WaitReason :=
  if g.stageLimit ≤ g.active then .groupFull else if 0 < g.active then .pairingClosed else .spacing

/-- The group after admitting a stage (R88). -/
def Group.started (g : Group) (now : Time) : GroupStart → Group
  | .release =>
    { g with active := g.active + 1, release := now, pairingClose := some (later now (g.pairing + 1)),
             spacingExpiry := none }
  | .join => { g with active := g.active + 1 }

/-- The group after a stage counted in it ended (R90): with n at 0, q is now, the pairing close is disarmed, and the
spacing expiry is armed unless spacing is satisfied at once. -/
def Group.ended (g : Group) (now : Time) : Group :=
  if g.active ≤ 1 then
    { g with active := 0, quietSince := now, pairingClose := none,
             spacingExpiry := if g.spacing = 0 then none else some (later now g.spacing) }
  else { g with active := g.active - 1 }

/-- The group at an adoption (R93): K, H and P copied; each expiry re-armed where its moment is still to come. -/
def Group.adopt (g : Group) (now : Time) (p : GroupParams) : Group :=
  { g with
    stageLimit := p.stageLimit, spacing := p.spacing, pairing := p.pairing
    spacingExpiry :=
      if g.active = 0 ∧ since now g.quietSince < p.spacing then some (later g.quietSince p.spacing) else none
    pairingClose :=
      if 0 < g.active ∧ since now g.release < p.pairing + 1 then some (later g.release (p.pairing + 1)) else none }

/-! ### Kerb units (R148, R149, R155) -/

/-- A unit that is a working button (R148). -/
def KerbUnit.workingButton (u : KerbUnit) : Bool :=
  u.mapping.isSome && (decide (u.state = .online) || decide (u.state = .suspect)) && !u.stuck

/-- The unit is mapped to the crossing and side. -/
def KerbUnit.mappedTo (u : KerbUnit) (c : CrossingId) (side : Side) : Bool :=
  match u.mapping with
  | some m => decide (m.crossing = c) && decide (m.side = side)
  | none => false

/-- The crossing a unit is mapped to. -/
def KerbUnit.crossing (u : KerbUnit) : Option CrossingId := u.mapping.map (·.crossing)

/-- The indication a crossing gives its units (R149). -/
def indicationOf (x : Crossing) (hasCall : Bool) : Indication :=
  match x.state with
  | .vehGreen => if hasCall then .wait else .locate
  | .vehAmber => if x.closingAmber then .dark else .wait
  | .leadRed => .wait
  | .walk => .walk
  | .clearance => .clear
  | .trailRed => if x.pendingChange.isSome then .dark else if hasCall then .wait else .locate
  | .startupFlash | .startupRed | .cmdFlash | .faultFlash | .dark | .unconfigured => .dark

/-- Raised to the minimum level and lowered to the maximum level (R155). -/
def clampLevel (r : Record) (n : Nat) : Nat := min (max n r.minLevel) r.maxLevel

/-- The level a unit's levels are computed from: floor(A / 10), or 65 where the estimate is unset or stale (R155). -/
def Audible.base (a : Audible) : Nat :=
  match a.estimate with
  | some e => if a.stale then 65 else e / 10
  | none => 65

/-- The locator level (R155). -/
def locatorLevelOf (r : Option Record) (quiet : Bool) (a : Nat) : Nat :=
  match r with
  | none => 0
  | some r =>
    let l := clampLevel r (a + r.locatorMargin)
    if quiet then min l r.nightCap else l

/-- The walk level (R155). -/
def walkLevelOf (r : Option Record) (accessible quiet : Bool) (a : Nat) : Nat :=
  match r with
  | none => 0
  | some r =>
    if accessible then clampLevel r (a + r.walkMargin + 6)
    else
      let l := clampLevel r (a + r.walkMargin)
      if quiet then min l r.nightCap else l

/-- The estimate after a taken sample of level `s` (R154). -/
def nextEstimate (a : Audible) (s : Nat) : Nat :=
  match a.estimate with
  | none => 10 * s
  | some e =>
    if a.stale then 10 * s
    else if e < 10 * s then e + ceilDiv (10 * s - e) 4
    else e - ceilDiv (e - 10 * s) 16

/-! ### Notices: family, crossing and filter (R182, R184) -/

/-- Notice families (section 11.6). -/
inductive Family where
  | demand | service | corridor | units | fault
deriving DecidableEq, Repr

/-- The family of a notice (section 11.6). -/
def NoticeBody.family : NoticeBody → Family
  | .callRegistered .. | .callRemoved .. => .demand
  | .stageAdmitted .. | .stageTruncated .. | .walkBegin .. | .stageUpgraded .. | .stageEnd .. | .crossingState .. => .service
  | .modeChange .. | .syncCorrection .. | .planAdopted .. | .adoptionDeferred .. => .corridor
  | .unitState .. | .buttonStuck .. | .audioFault .. | .ambientStale .. => .units
  | .crossingFault .. => .fault

/-- The frame kind of a notice, 192 to 208 in the order of the table of section 11.6 (section 12.2). -/
def NoticeBody.kind : NoticeBody → Nat
  | .callRegistered .. => 192
  | .callRemoved .. => 193
  | .stageAdmitted .. => 194
  | .stageTruncated .. => 195
  | .walkBegin .. => 196
  | .stageUpgraded .. => 197
  | .stageEnd .. => 198
  | .crossingState .. => 199
  | .modeChange .. => 200
  | .syncCorrection .. => 201
  | .planAdopted .. => 202
  | .adoptionDeferred .. => 203
  | .unitState .. => 204
  | .buttonStuck .. => 205
  | .audioFault .. => 206
  | .ambientStale .. => 207
  | .crossingFault .. => 208

/-- The crossing a notice names, if any; a CORRIDOR notice names none (R184). -/
def NoticeBody.crossing : NoticeBody → Option CrossingId
  | .callRegistered c .. | .callRemoved c .. | .stageAdmitted c .. | .stageTruncated c .. | .walkBegin c ..
  | .stageUpgraded c .. | .stageEnd c .. | .crossingState c .. | .crossingFault c .. => some c
  | .modeChange .. | .syncCorrection .. | .planAdopted .. | .adoptionDeferred .. => none
  | .unitState _ c .. | .buttonStuck _ c .. | .audioFault _ c .. | .ambientStale _ c .. => some c

/-- The number of a family in a filter entry; FAULT is no filter family (section 12.2, R185). -/
def Family.number : Family → Nat
  | .demand => 1
  | .service => 2
  | .corridor => 3
  | .units => 4
  | .fault => 0

/-- A notice matches a report filter entry (R184). -/
def FilterEntry.covers (e : FilterEntry) (n : NoticeBody) : Bool :=
  e.valid && (decide (e.family.toNat = 5) || decide (e.family.toNat = n.family.number)) &&
  (decide (e.kind.toNat = 0) || decide (e.kind.toNat = n.kind)) &&
  (decide (e.crossings = 0) ||
    (match n.crossing with
    | some c => e.crossings.getLsbD c.val
    | none => false))

/-- The port accepts a notice: FAULT-family always, any other where an entry matches (R182). -/
def HostPort.accepts (p : HostPort) (n : NoticeBody) : Bool :=
  decide (n.family = .fault) || p.filter.toList.any (·.covers n)

/-- The kind of a filter entry is a kind of the family named (R185): the notice kinds of section 11.6. -/
def kindOfFamily (family kind : Nat) : Bool :=
  match family with
  | 1 => decide (192 ≤ kind) && decide (kind ≤ 193)
  | 2 => decide (194 ≤ kind) && decide (kind ≤ 199)
  | 3 => decide (200 ≤ kind) && decide (kind ≤ 203)
  | 4 => decide (204 ≤ kind) && decide (kind ≤ 207)
  | _ => false

/-- An entry FILTER WRITE may write (R185): with the valid mark no, the other fields are not checked. -/
def FilterEntry.acceptable (e : FilterEntry) : Bool :=
  !e.valid ||
  (decide (1 ≤ e.family.toNat) && decide (e.family.toNat ≤ 5) &&
    (decide (e.kind.toNat = 0) || kindOfFamily e.family.toNat e.kind.toNat))

/-- The entry as it is written: a family or kind byte with no meaning in its encoding is written as 0, so that the part
sends every field within its encoding (R185, R190). Only an invalid entry can bring such a byte (log entry 8). -/
def FilterEntry.encoded (e : FilterEntry) : FilterEntry :=
  { e with
    family := if e.family.toNat ≤ 5 then e.family else 0
    kind := if e.kind.toNat = 0 ∨ (192 ≤ e.kind.toNat ∧ e.kind.toNat ≤ 208) then e.kind else 0 }

end Sys2Proof.Machine
end

