-- ==== Sys2Proof/Machine/Frames.lean ====
section
/-!
DEFINITION. The frames the part sends: the numbers of enumerated values, the bodies of replies and notices, and the
envelopes of the host link and the kerb link (chapter 12). A body no section of chapter 12 lays out carries its owning
rule's items in the order listed (section 12.2; log entry 9).
-/

namespace Sys2Proof.Machine

/-! ### Enumerations: 1, 2, 3 … in the order of the table that first gives the values (section 12.2) -/

def Mode.code : Mode → Byte
  | .free => 1
  | .coordinated => 2

def CrossingState.code : CrossingState → Byte
  | .unconfigured => 1
  | .startupFlash => 2
  | .startupRed => 3
  | .vehGreen => 4
  | .vehAmber => 5
  | .leadRed => 6
  | .walk => 7
  | .clearance => 8
  | .trailRed => 9
  | .cmdFlash => 10
  | .faultFlash => 11
  | .dark => 12

/-- A pending change's target, 0 for none (R99's table of values). -/
def targetCode : Option Target → Byte
  | none => 0
  | some .cmdFlash => 1
  | some .unconfigured => 2
  | some .faultFlash => 3
  | some .dark => 4

def Cause.code : Cause → Byte
  | .startUp => 1
  | .restore => 2
  | .command => 3
  | .fault => 4
  | .plan => 5

def ModeCause.code : ModeCause → Byte
  | .sync => 1
  | .watchdog => 2
  | .plan => 3

def StageKind.code : StageKind → Byte
  | .coordinated => 1
  | .free => 2

def Route.code : Route → Byte
  | .band => 1
  | .group _ => 2
  | .direct => 3

/-- The group of a GROUP route, 0 for none: STAGE_ADMITTED carries this byte, and that of the release or join, on every
route (R97; log entry 9). -/
def Route.groupCode : Route → Byte
  | .group g => number g
  | .band | .direct => 0

def routeCode : Option Route → Byte
  | none => 0
  | some r => r.code

def waitCode : Option WaitReason → Byte
  | none => 0
  | some .notBefore => 1
  | some .green => 2
  | some .inBand => 3
  | some .gap => 4
  | some .hold => 5
  | some .groupFull => 6
  | some .pairingClosed => 7
  | some .spacing => 8

def RemovalReason.code : RemovalReason → Byte
  | .admitted => 1
  | .cancelled => 2
  | .outOfService => 3

def OutputMode.code : OutputMode → Byte
  | .off => 1
  | .on => 2
  | .flashing => 3

def senseCode : Option Sense → Byte
  | none => 0
  | some .onWhenOff => 1
  | some .offWhenOn => 2

def FaultClass.code : FaultClass → Byte
  | .conflict => 1
  | .stuckOn => 2
  | .redLoss => 3
  | .walkFail => 4
  | .lampOut => 5
  | .flashFail => 6

def lampCode : Lamp → Byte
  | .red => 1
  | .amber => 2
  | .green => 3
  | .walk => 4
  | .dontWalk => 5

def Side.code : Side → Byte
  | .a => 1
  | .b => 2

/-- A unit's state, with UNMAPPED after the four states of section 8.2 (R140; log entry 9). -/
def unitStateCode : Option UnitState → Byte
  | some .joining => 1
  | some .online => 2
  | some .suspect => 3
  | some .failed => 4
  | none => 5

def UnitCause.code : UnitCause → Byte
  | .good => 1
  | .miss => 2
  | .revival => 3
  | .map => 4

/-- Indications, as the command frame numbers them (section 12.4). -/
def Indication.code : Indication → Byte
  | .locate => 1
  | .wait => 2
  | .walk => 3
  | .clear => 4
  | .dark => 5

/-- Sample actions, as the command frame numbers them (section 12.4). -/
def actionCode : Option SampleAction → Byte
  | none => 0
  | some .start => 1
  | some .stop => 2
  | some .cancel => 3

/-- Record reasons RANGE 1 to FIT 5, 0 for none (section 12.2). -/
def recordReasonCode : Option RecordReason → Byte
  | none => 0
  | some .range => 1
  | some .noHeader => 2
  | some .group => 3
  | some .partner => 4
  | some .fit => 5

def ClockResult.code : ClockResult → Byte
  | .entered => 1
  | .set => 2
  | .notSet => 3
  | .timeOfDayOnly => 4
  | .inStep => 5
  | .pending => 6

/-- Outcomes of CALL in the order of R57; a CALL is never discarded. -/
def OfferOutcome.code : OfferOutcome → Byte
  | .registered => 1
  | .merged => 2
  | .absorbed => 3
  | .upgraded => 4
  | .discarded => 0

def Cut.code : Cut → Byte
  | .band => 1
  | .hold => 2

def startCode : Option GroupStart → Byte
  | none => 0
  | some .release => 1
  | some .join => 2

def SamplePhase.code : SamplePhase → Byte
  | .requested => 1
  | .measuring _ => 2
  | .closed _ _ => 3

/-- A set of sides: bit 0 A, bit 1 B (section 12.2). -/
def Sides.code (s : Sides) : Byte := byte ((if s.a then 1 else 0) + (if s.b then 2 else 0))

/-- A set of origins: bit 0 PRESS, 1 LINK, 2 REMOTE, 3 RECALL (section 12.2). -/
def Origins.code (o : Origins) : Byte :=
  byte ((if o.press then 1 else 0) + (if o.link then 2 else 0) + (if o.remote then 4 else 0) +
    (if o.recalled then 8 else 0))

/-- A fault set: bit 0 CONFLICT to bit 5 FLASH_FAIL (section 12.2). -/
def FaultSet.code (f : FaultSet) : Byte :=
  byte ((if f.conflict then 1 else 0) + (if f.stuckOn then 2 else 0) + (if f.redLoss then 4 else 0) +
    (if f.walkFail then 8 else 0) + (if f.lampOut then 16 else 0) + (if f.flashFail then 32 else 0))

/-- A flash phase: the half, then the deciseconds elapsed in it (section 12.2). -/
def FlashPhase.bytes : FlashPhase → List Byte
  | .idle => [0, 0]
  | .on e => [1, byte e]
  | .off e => [2, byte e]

/-- A selection as base and overlay, 0 for none. -/
def selectionBytes : Option Selection → List Byte
  | some s => [number s.base, numberOrNone s.overlay]
  | none => [0, 0]

/-! ### Notices (R182, section 12.3) -/

/-- The items of a notice, in the order its owning rule names them. On the BAND and DIRECT routes STAGE_ADMITTED carries
its group and its release or join mark as 0; the held time of BUTTON_STUCK takes two bytes (log entry 9). -/
def NoticeBody.items : NoticeBody → List Byte
  | .callRegistered c o s acc nb => [number c, o.code, s.code, yesNo acc] ++ twoOrNone nb
  | .callRemoved c r o t => [number c, r.code, o.code] ++ two t
  | .stageAdmitted c rt st k acc o s w cl d tr t =>
    [number c, rt.code, rt.groupCode, startCode st, k.code, yesNo acc, o.code, s.code] ++ two w ++ two cl ++ two d ++
      yesNo tr :: two t
  | .stageTruncated c w wd cut => number c :: (two w ++ two wd ++ [cut.code])
  | .walkBegin c w cl acc t => number c :: (two w ++ two cl ++ yesNo acc :: two t)
  | .stageUpgraded c cl x w r => number c :: (two cl ++ two x ++ two w ++ two r)
  | .stageEnd c w cl up e => number c :: (two w ++ two cl ++ yesNo up :: two e)
  | .crossingState c st p serving cause => [number c, st.code, targetCode p, yesNo serving, cause.code]
  | .modeChange m cause => [m.code, cause.code]
  | .syncCorrection d r => signedTwo d ++ signedTwo r
  | .planAdopted s y l ch af => selectionBytes (some s) ++ two y ++ l ++ [yesNo ch, yesNo af]
  | .adoptionDeferred s c r g =>
    selectionBytes (some s) ++ number c :: (two r ++ (match g with | some g => two g | none => two Config.inBandWord.toNat))
  | .unitState u c side b a cause => [number u, number c, side.code, unitStateCode b, unitStateCode a, cause.code]
  | .buttonStuck u c side st t => [number u, number c, side.code, if st then 1 else 2] ++ two t
  | .audioFault u c side f => [number u, number c, side.code, if f then 1 else 2]
  | .ambientStale u c side st e t => [number u, number c, side.code, if st then 1 else 2] ++ two e ++ twoOrNone t
  | .crossingFault c cls lamp b a p fs => [number c, cls.code, lampCode lamp, b.code, a.code, targetCode p, fs.code]

/-- A notice's body: the time of day, the sub-second phase, and its items (section 12.3). -/
def Notice.bodyBytes (n : Notice) : List Byte := four n.timeOfDay ++ byte n.phase :: n.body.items

/-! ### Replies (R180, section 12.3.1) -/

/-- Every field of a call record in the order of table 3.1 (R57, R58, R64). -/
def CallReport.bytes (r : CallReport) : List Byte :=
  number r.crossing :: two r.sinceRegistration ++ [r.sides.code, r.origins.code, yesNo r.accessible] ++ two r.pressCount ++
    twoOrNone r.notBeforeLeft

/-- The bytes of the call report a CALL reply ends with; where the crossing has no record the body ends before them, with
no presence byte (R57; the model's choice, log entry 9). -/
def callReportBytes : Option CallReport → List Byte
  | some r => r.bytes
  | none => []

/-- The standing of a bank as bits 0 to 4 (section 12.3.1). -/
def Standing.code (s : Standing) : Byte :=
  byte ((if s.inForceBase then 1 else 0) + (if s.inForceOverlay then 2 else 0) + (if s.pendingBase then 4 else 0) +
    (if s.pendingOverlay then 8 else 0) + (if s.stored then 16 else 0))

/-- A counter block's kind and number (section 12.3.1). -/
def BlockName.bytes : BlockName → List Byte
  | .crossing c => [1, number c]
  | .unit u => [2, number u]
  | .corridor => [3, 0]

/-- A report filter entry's fields. -/
def FilterEntry.bytes (e : FilterEntry) : List Byte := [yesNo e.valid, e.family, e.kind, e.crossings]

/-- The body of a DONE reply. -/
def DoneBody.bytes : DoneBody → List Byte
  | .report items => items
  | .planWrite w n st r p =>
    [byte w, byte n, (match st with | some s => byte s | none => 0xFF#8), recordReasonCode r, byte p]
  | .planRead item st =>
    match item with
    | some i => 1 :: st.code :: i.bytes
    | none => [0, st.code]
  | .planSelect p f => selectionBytes (some p) ++ selectionBytes f
  | .sync r m t p => [r.code, m.code] ++ two t ++ signedTwo p
  | .call o d r => o.code :: (two d ++ callReportBytes r)
  | .callCancel kept =>
    match kept with
    | none => [1]
    | some r => 2 :: r.bytes
  | .crossingControl taken st p => [if taken then 1 else 2, st.code, targetCode p]
  | .unitMap items => items
  | .counters b clear vs => b.bytes ++ yesNo clear :: vs.flatMap two
  | .filter e => e.bytes
  | .restart => []

/-- Refusal reasons 1 to 8 in the order of R180 (section 12.2); MISFIT also carries the crossing and the record
reason (section 12.3.1). -/
def RefusalReason.bytes : RefusalReason → List Byte
  | .unknownKind => [1]
  | .badLength => [2]
  | .outOfRange => [3]
  | .bankInUse => [4]
  | .misfit c r => [5, number c, recordReasonCode (some r)]
  | .notInService => [6]
  | .notApplicable => [7]
  | .noSuchUnit => [8]

/-- The kind byte of a reply: DONE 128, REFUSED 129 (section 12.2). -/
def ReplyContent.kind : ReplyContent → Byte
  | .done _ => 128
  | .refused _ => 129

def ReplyContent.bytes : ReplyContent → List Byte
  | .done b => b.bytes
  | .refused r => r.bytes

/-! ### Envelopes (sections 12.3, 12.4) -/

/-- A host frame: start byte 0xA5, length, kind, tag, body and the check over all but the start byte (R189). -/
def hostFrame (kind tag : Byte) (body : List Byte) : List Byte :=
  let covered := byte body.length :: kind :: tag :: body
  0xA5#8 :: (covered ++ checkBytes covered)

/-- The bytes of a frame the transmitter sends; a notice carries the tag 0 (R182). -/
def OutFrame.bytes : OutFrame → List Byte
  | .reply r => hostFrame r.content.kind r.tag r.content.bytes
  | .notice n => hostFrame (byte n.body.kind) 0 n.bodyBytes

/-- The nine bytes of a kerb command frame: start byte 0x5A, the fields, and the check over all but the start byte
(section 12.4, R189). -/
def KerbCommand.bytes (k : KerbCommand) : List Byte :=
  let covered := [number k.address, k.indication.code, byte k.pattern, byte k.locatorLevel, byte k.walkLevel,
    actionCode k.action + (if k.mute then 4 else 0)]
  0x5A#8 :: (covered ++ checkBytes covered)

end Sys2Proof.Machine
end

