-- ==== Sys2Proof/Machine/Ops.lean ====
section
/-!
DEFINITION. Operations every block shares: reading and changing the tables of State, counting, raising a notice,
placing a reply, starting the transmitter, and taking an announced event.
-/

namespace Sys2Proof.Machine

/-! ### Reading and changing the tables -/

/-- Crossing c's controller. -/
def State.crossing (s : State) (c : CrossingId) : Crossing := s.crossings[c]

/-- Crossing c's controller changed. -/
def State.changeCrossing (s : State) (c : CrossingId) (f : Crossing → Crossing) : State :=
  { s with crossings := change s.crossings c f }

/-- Group g's record. -/
def State.group (s : State) (g : GroupId) : Group := s.groups[g]

/-- Group g's record changed. -/
def State.changeGroup (s : State) (g : GroupId) (f : Group → Group) : State :=
  { s with groups := change s.groups g f }

/-- Unit u's entry. -/
def State.unit (s : State) (u : UnitId) : KerbUnit := s.units[u]

/-- Unit u's entry changed. -/
def State.changeUnit (s : State) (u : UnitId) (f : KerbUnit → KerbUnit) : State :=
  { s with units := change s.units u f }

/-- Unit u's audible items changed. -/
def State.changeAudible (s : State) (u : UnitId) (f : Audible → Audible) : State :=
  s.changeUnit u fun k => { k with audible := f k.audible }

/-- The call record of a crossing, if it has one. -/
def State.callOf (s : State) (c : CrossingId) : Option CallRecord := s.calls.find? fun r => decide (r.crossing = c)

/-- Local time of a record under the clock's T and Y (R4). -/
def State.localTimeOf (s : State) (r : Record) : Nat :=
  localTime s.clock.corridorTime r.offset (s.clock.cycle.getD 0)

/-- The boundary hold's limit Y - T, where the hold is set (R17, R75). While an announced cycle boundary has not been
taken, the next boundary is now, and the limit is 0. -/
def State.holdLimit (s : State) : Option Nat :=
  if s.clock.hold then
    some (if Due.cycleBoundary ∈ s.due then 0 else s.clock.cycle.getD 0 - s.clock.corridorTime)
  else none

/-- The sample interval of the base header in force (section 9.1). -/
def State.sampleInterval (s : State) : Nat :=
  match s.store.headerInForce with
  | some h => h.sampleInterval
  | none => 0

/-! ### Counting (R170) -/

def State.countCrossing (s : State) (c : CrossingId) (f : CrossingCounters → CrossingCounters) : State :=
  { s with counters := { s.counters with crossings := change s.counters.crossings c f } }

def State.countUnit (s : State) (u : UnitId) (f : UnitCounters → UnitCounters) : State :=
  { s with counters := { s.counters with units := change s.counters.units u f } }

def State.countCorridor (s : State) (f : CorridorCounters → CorridorCounters) : State :=
  { s with counters := { s.counters with corridor := f s.counters.corridor } }

/-! ### Notices (R182, R183) -/

/-- An accepted notice that finds 32 notices in the queue is lost (R183). -/
def HostPort.loses (p : HostPort) (n : NoticeBody) : Bool := p.accepts n && decide (32 ≤ p.notices.length)

/-- The port after a notice is raised: filtered out, queued, or lost with the notices-lost flag set (R182, R183). -/
def HostPort.raise (p : HostPort) (n : Notice) : HostPort :=
  if p.accepts n.body then
    if p.notices.length < 32 then { p with notices := p.notices ++ [n] } else { p with noticesLost := true }
  else p

/-- A notice raised with the time of day and sub-second phase of this moment (R182); a lost notice counts in
NOTICES_LOST (R183). -/
def State.raise (s : State) (n : NoticeBody) : State :=
  { s with
    host := s.host.raise { timeOfDay := s.clock.timeOfDay, phase := s.clock.phase, body := n }
    counters :=
      { s.counters with
        corridor :=
          { s.counters.corridor with
            noticesLost := satAdd s.counters.corridor.noticesLost (if s.host.loses n then 1 else 0) } } }

/-! ### Replies and the transmitter (R179, R181) -/

/-- A reply placed in the reply slot (R179). -/
def State.respond (s : State) (tag : Byte) (content : ReplyContent) : State :=
  { s with host := { s.host with reply := some { tag := tag, content := content } } }

def State.done (s : State) (tag : Byte) (b : DoneBody) : State := s.respond tag (.done b)

def State.refuse (s : State) (tag : Byte) (r : RefusalReason) : State := s.respond tag (.refused r)

/-- A frame put on the line. -/
def Transmission.of (f : OutFrame) : Transmission := { source := f, bytes := f.bytes }

/-- The transmitter's choice: when idle it takes a waiting reply, and otherwise the oldest notice (R181). -/
def HostPort.transmit (p : HostPort) : HostPort :=
  match p.transmission with
  | some _ => p
  | none =>
    match p.reply with
    | some r => { p with reply := none, transmission := some (.of (.reply r)) }
    | none =>
      match p.notices with
      | n :: rest => { p with notices := rest, transmission := some (.of (.notice n)) }
      | [] => p

/-- The transmitter looks for a frame at the end of each step (R181; log entry 10). -/
def State.transmit (s : State) : State := { s with host := s.host.transmit }

/-- A step of the running part: nothing happens between a reset and the completion of its start-up (R1, R134, R135,
R176), and the transmitter looks for a frame when the step has been taken. -/
def State.live (s : State) (f : State → State) : State := if s.running then (f s).transmit else s

/-! ### Announced events -/

/-- The announced events without those a time-step event replaces (R5): band-end events. -/
def withoutBandEnds (l : List Due) : List Due :=
  l.filter fun d => match d with
    | .bandEnd _ => false
    | _ => true

/-- The announced events without a cycle boundary: T has been set since its wrap, and the next boundary comes when T next
wraps (R10; log entry 22). -/
def withoutBoundary (l : List Due) : List Due := l.filter fun d => decide (d ≠ .cycleBoundary)

/-- An announced event taken: it leaves the list, and its work is done. An event that has not been announced does not
arise, and the command for it has no effect (log entry 2). -/
def State.take (s : State) (d : Due) (f : State → State) : State :=
  if d ∈ s.due then f { s with due := s.due.erase d } else s

/-! ### Requests (R178, R179) -/

/-- A request may begin execution: none is executing, the reply slot is empty, and no RESTART has executed (R179). -/
def HostPort.ready (p : HostPort) : Bool := p.executing.isNone && p.reply.isNone && !p.restartHold

/-- The request at the front leaves the queue and is executed by `f`, where one may begin and the row's condition `is`
holds of it; otherwise the row's request does not reach execution now, and nothing happens. -/
def State.serve (s : State) (is : Frame → Bool) (f : Frame → State → State) : State :=
  match s.host.requests with
  | fr :: rest =>
    if s.host.ready && is fr then f fr { s with host := { s.host with requests := rest } } else s
  | [] => s

/-- The frame is a request of this kind number (section 12.2). -/
def Frame.isKind (fr : Frame) (k : Nat) : Bool := decide (fr.kind.toNat = k)

end Sys2Proof.Machine
end

