-- ==== Sys2Proof/Machine/Signals.lean ====
section
/-!
DEFINITION. The signal port and the proving monitor (chapter 7): outputs at a state entry, the flash phase, the
judgement of a decisecond, and the entry of a crossing to a state.
-/

namespace Sys2Proof.Machine

/-- The commanded value of a mode under a flash phase (R121). -/
def valueOf (m : OutputMode) (f : FlashPhase) : Bool :=
  match m with
  | .on => true
  | .off => false
  | .flashing =>
    match f with
    | .on _ => true
    | .off _ | .idle => false

/-- Some output of the five is FLASHING. -/
def anyFlashing (l : Lamps OutputLine) : Bool := allLamps.any fun o => decide ((lampAt l o).mode = .flashing)

/-- The flash phase at an entry (R122): idle where no output flashes, running on where one flashed before, and
otherwise at the beginning of its ON half. -/
def flashAtEntry (before now : Bool) (f : FlashPhase) : FlashPhase :=
  if now then (if before then f else .on 0) else .idle

/-- One output at an entry: a change of mode sets the settling mark and clears the mismatch timer; an unchanged mode
changes nothing (R121, R123). -/
def OutputLine.enter (o : OutputLine) (m : OutputMode) (f : FlashPhase) : OutputLine :=
  if o.mode = m then o
  else { o with mode := m, value := valueOf m f, settling := true, mismatch := 0, sense := none }

/-- The port at the entry of its crossing to a state (R121 to R123). WALK_FAIL may be raised again once the walk's mode has
changed, which ends the WALK (R132). -/
def SignalPort.enter (p : SignalPort) (st : CrossingState) : SignalPort :=
  let flash := flashAtEntry (anyFlashing p.lines)
    (allLamps.any fun o => decide (commandedMode st o = .flashing)) p.flash
  { p with
    lines := rewriteLamps p.lines fun lamp o => o.enter (commandedMode st lamp) flash, flash := flash
    walkFailed := p.walkFailed && decide (p.lines.walk.mode = commandedMode st .walk) }

/-- One output at a change of half: a FLASHING output takes the half's value, and its settling mark is set; its
mismatch timer is not touched (R123). -/
def OutputLine.halfChange (o : OutputLine) (f : FlashPhase) : OutputLine :=
  if o.mode = .flashing then { o with value := valueOf .flashing f, settling := true } else o

/-- The half that follows a completed one (R122). -/
def FlashPhase.next : FlashPhase → FlashPhase
  | .idle => .idle
  | .on _ => .off 0
  | .off _ => .on 0

/-- 5 ds of the half are complete: four have elapsed and the fifth is ending (R122). -/
def FlashPhase.complete : FlashPhase → Bool
  | .idle => false
  | .on e => decide (4 ≤ e)
  | .off e => decide (4 ≤ e)

/-- One decisecond of a half that it does not complete. -/
def FlashPhase.advance : FlashPhase → FlashPhase
  | .idle => .idle
  | .on e => .on (min (e + 1) 4)
  | .off e => .off (min (e + 1) 4)

/-- The other half begins (R122, R123). -/
def SignalPort.halfChange (p : SignalPort) : SignalPort :=
  { p with lines := rewriteLamps p.lines fun _ o => o.halfChange p.flash.next, flash := p.flash.next }

/-- The mismatch timer after a judged decisecond with the sampled value (R125). -/
def OutputLine.count (o : OutputLine) (sampled : Bool) : OutputLine :=
  if sampled = o.value then
    match o.sense with
    | some .onWhenOff => if o.value then o else { o with mismatch := 0, sense := none }
    | some .offWhenOn => if o.value then { o with mismatch := 0, sense := none } else o
    | none => o
  else
    let sense : Sense := if o.value then .offWhenOn else .onWhenOff
    if o.mismatch = 0 ∨ o.sense = some sense then { o with mismatch := min (o.mismatch + 1) 5, sense := some sense }
    else { o with mismatch := 1, sense := some sense }

/-- The judgement of the decisecond just ended (R124): a settling decisecond is not judged and its mark is cleared, any
other is counted; the sample becomes the proved value. -/
def OutputLine.judge (o : OutputLine) (sampled : Bool) : OutputLine :=
  if o.settling then { o with settling := false, proved := sampled } else { o.count sampled with proved := sampled }

/-- The fault class that the timer's table gives a judgement: the count has reached 5 at it, with its sense (R125, R126). -/
def OutputLine.raised (o : OutputLine) (lamp : Lamp) (sampled : Bool) : Option FaultClass :=
  let o' := o.judge sampled
  if !o.settling && decide (sampled ≠ o.value) && decide (o'.mismatch = 5) &&
      !(decide (o.mismatch = 5) && decide (o.sense = o'.sense)) then
    o'.sense.map fun sense => faultClass lamp sense o.mode
  else none

/-- The fault class an output of the port raises: the one its timer gives, but for a second WALK_FAIL of one stage (R132;
log entry 41). -/
def SignalPort.raised (p : SignalPort) (lamp : Lamp) (sampled : Bool) : Option FaultClass :=
  ((lampAt p.lines lamp).raised lamp sampled).filter fun cls => !(decide (cls = .walkFail) && p.walkFailed)

/-- The fault that an output still shows at a judged decisecond, its timer at 5 with this sense before it: the monitor has
raised it, and by R125 its timer neither moves nor raises it again. -/
def OutputLine.standing (o : OutputLine) (lamp : Lamp) (sampled : Bool) : Option FaultClass :=
  let sense : Sense := if o.value then .offWhenOn else .onWhenOff
  if !o.settling && decide (sampled ≠ o.value) && decide (o.mismatch = 5) && decide (o.sense = some sense) then
    some (faultClass lamp sense o.mode)
  else none

/-- Walk proved on with green or amber proved on (R127). -/
def conflictSeen (inputs : Lamps Bool) : Bool := inputs.walk && (inputs.green || inputs.amber)

/-- The conflict timer at a decisecond event (R127). -/
def nextConflict (n : Nat) (seen : Bool) : Nat := if seen then min (n + 1) 2 else 0

/-- The port at a decisecond event: the samples judged, the flash half's decisecond elapsed (R122, R124, R127), a WALK_FAIL
that is raised remembered (R132). -/
def SignalPort.tick (p : SignalPort) (inputs : Lamps Bool) : SignalPort :=
  { lines := rewriteLamps p.lines fun lamp o => o.judge (lampAt inputs lamp)
    flash := p.flash.advance
    conflict := nextConflict p.conflict (conflictSeen inputs)
    walkFailed := p.walkFailed || decide (p.raised .walk inputs.walk = some .walkFail) }

/-- The fault detected again in the start-up (R117, R129): one that an output still shows, of a class that a RESTORE has
emptied out of the fault set. The timers stay as R125 has them (log entry 37). -/
def Crossing.detectsAgain (x : Crossing) (lamp : Lamp) (sampled : Bool) : Option FaultClass :=
  if x.state.startingUp then ((lampAt x.port.lines lamp).standing lamp sampled).filter fun cls => !x.faults.has cls else none

/-- The mismatch fault found at an output: raised by its timer (R126), or detected again in the start-up (R117). -/
def Crossing.mismatchFound (x : Crossing) (lamp : Lamp) (sampled : Bool) : Option FaultClass :=
  match x.port.raised lamp sampled with
  | some cls => some cls
  | none => x.detectsAgain lamp sampled

/-- A conflict is found: its timer reaches 2 (R127), or stands at 2 in the start-up with the condition still true and
CONFLICT emptied out of the fault set (R117, R129; log entry 37). -/
def Crossing.conflictFound (x : Crossing) (inputs : Lamps Bool) : Bool :=
  conflictSeen inputs &&
    (decide (x.port.conflict = 1) || (decide (2 ≤ x.port.conflict) && x.state.startingUp && !x.faults.has .conflict))

/-- The crossing entered a state with a time left: the time in state is 0, the outputs change with the state, the green
timer and the closing amber mark go (R100, R101, R121). -/
def Crossing.enter (x : Crossing) (st : CrossingState) (left : Option Nat) : Crossing :=
  { x with state := st, timeInState := 0, timeLeft := left, green := none, closingAmber := false,
           port := x.port.enter st }

/-- The crossing entered VEH_GREEN, with the green timer set from the in-force record (R101). -/
def Crossing.enterGreen (x : Crossing) : Crossing :=
  { x.enter .vehGreen none with
    green := some { left := (match x.record with | some r => r.minGreen | none => 0), expired := false } }

end Sys2Proof.Machine
end

