-- ==== Sys2Proof/Machine/AudibleOps.lean ====
section
/-!
DEFINITION. Operations of the audible level block (chapter 9): levels, sample actions, mutes, the grant of a sample and
its ends, and the onset of sounding.
-/

namespace Sys2Proof.Machine

/-! ### Levels (R155, R157) -/

/-- The levels of a unit's audible items under its crossing's record and mark (R155). -/
def Audible.relevel (a : Audible) (r : Option Record) (accessible quiet : Bool) : Audible :=
  { a with locatorLevel := locatorLevelOf r quiet a.base, walkLevel := walkLevelOf r accessible quiet a.base }

/-- A unit's levels computed by R155; an unmapped entry has none. -/
def relevelUnit (crossings : Vector Crossing 8) (quiet : Bool) (k : KerbUnit) : KerbUnit :=
  match k.mapping with
  | none => k
  | some m =>
    let x := crossings[m.crossing]
    { k with audible := k.audible.relevel x.record x.accessibleMark quiet }

/-- The levels of one unit recomputed (R157). -/
def State.relevel (s : State) (u : UnitId) : State :=
  s.changeUnit u (relevelUnit s.crossings s.clock.quiet)

/-- The levels of every mapped unit recomputed (R157). -/
def State.relevelAll (s : State) : State :=
  { s with units := rewrite s.units fun _ k => relevelUnit s.crossings s.clock.quiet k }

/-- The levels of every mapped unit of a crossing recomputed (R157). -/
def State.relevelCrossing (s : State) (c : CrossingId) : State :=
  { s with
    units := rewrite s.units fun _ k =>
      if k.crossing = some c then relevelUnit s.crossings s.clock.quiet k else k }

/-- A crossing's accessible mark set or cleared, and on a change the levels of its units recomputed (R156, R157). -/
def State.markAccessible (s : State) (c : CrossingId) (b : Bool) : State :=
  if (s.crossing c).accessibleMark = b then s
  else (s.changeCrossing c fun x => { x with accessibleMark := b }).relevelCrossing c

/-- The quiet flag re-evaluated; a new value recomputes the levels of every mapped unit (R20). -/
def State.reviewQuiet (s : State) : State :=
  let q := quietNow s.clock s.store.headerInForce
  if s.clock.quiet = q then s else ({ s with clock := { s.clock with quiet := q } }).relevelAll

/-! ### Sample actions and mutes (R142, R161) -/

/-- A transaction in flight with the unit no longer carries the pending action (R142). -/
def KerbLink.supersede (k : KerbLink) (u : UnitId) : KerbLink :=
  { k with
    transaction := k.transaction.map fun t =>
      if t.command.address = u then { t with actionLive := false } else t }

/-- A sample action asked for at a unit: it replaces an action still pending (R142). -/
def State.request (s : State) (u : UnitId) (a : SampleAction) : State :=
  { s.changeUnit u (fun k => { k with pendingAction := some a }) with kerb := s.kerb.supersede u }

/-- A sample's mutes lifted: it leaves the mute set of every unit (R161). -/
def State.liftMutes (s : State) (u : UnitId) : State :=
  { s with
    units := rewrite s.units fun _ k =>
      { k with audible := { k.audible with muteSet := k.audible.muteSet.filter fun v => decide (v ≠ u) } } }

/-- A sample ended with a report: the record is removed and its mutes are lifted. -/
def State.endSample (s : State) (u : UnitId) (r : SampleReport) : State :=
  (s.liftMutes u).changeAudible u fun a => { a with sample := none, report := some r }

/-- The unit's sample in progress, if any. -/
def State.sampleOf (s : State) (u : UnitId) : Option Sample := (s.unit u).audible.sample

/-- A sample lost, in whatever phase it stands, with CANCEL asked for where `cancel` (R166). -/
def State.loseSample (s : State) (u : UnitId) (cancel : Bool) : State :=
  match s.sampleOf u with
  | none => s
  | some _ => if cancel then (s.endSample u .lost).request u .cancel else s.endSample u .lost

/-- A sample abandoned (R163). -/
def State.abandonSample (s : State) (u : UnitId) : State :=
  ((s.endSample u .abandoned).request u .cancel).countUnit u fun n =>
    { n with samplesAbandoned := satAdd n.samplesAbandoned 1 }

/-- A MEASURING sample closed early: CLOSED with its early-end flag set, END asked for, the mutes lifted (R163). -/
def State.closeSampleEarly (s : State) (u : UnitId) (start : Time) : State :=
  ((s.liftMutes u).changeAudible u fun a =>
    { a with sample := a.sample.map fun k => { k with phase := .closed start false, earlyEnd := true } }).request u .stop

/-- A MEASURING sample closed by its window (R164). -/
def State.closeSampleWindow (s : State) (u : UnitId) (start : Time) : State :=
  (s.liftMutes u).changeAudible u fun a =>
    { a with sample := a.sample.map fun k => { k with phase := .closed start false, earlyEnd := false } }

/-- What an onset of sounding at unit `v` does to the sample of unit `u` (R163). -/
def State.onsetAt (v : UnitId) (s : State) (u : UnitId) : State :=
  match s.sampleOf u with
  | none => s
  | some k =>
    if v ∈ k.muted then
      match k.phase with
      | .requested => s.abandonSample u
      | .measuring start => if since s.clock.now start < 12 then s.abandonSample u else s.closeSampleEarly u start
      | .closed _ _ => s
    else s

/-- The onset of sounding at a unit acts on every sample whose muted units include it (R163). -/
def State.onset (s : State) (v : UnitId) : State := allUnits.foldl (State.onsetAt v) s

/-- A transaction in flight with the unit carries a command built before its crossing's walk began (R150). -/
def KerbLink.overtake (k : KerbLink) (u : UnitId) : KerbLink :=
  { k with
    transaction := k.transaction.map fun t =>
      if t.command.address = u then { t with beforeWalk := true } else t }

/-- A unit's sounding mark set at its crossing's walk begin, which a command still in flight will not end; the audible
level block is told where the mark becomes set (R150). -/
def State.soundUnit (c : CrossingId) (s : State) (u : UnitId) : State :=
  let k := s.unit u
  if k.crossing = some c ∧ k.state ≠ .failed then
    let s := { s with kerb := s.kerb.overtake u }
    if k.sounding then s else (s.changeUnit u fun k => { k with sounding := true }).onset u
  else s

/-- The sounding marks of a crossing's units set at walk begin, in ascending order of address (R150). -/
def State.soundCrossing (s : State) (c : CrossingId) : State := allUnits.foldl (State.soundUnit c) s

/-! ### Grants (R159, R160) -/

/-- The unit and the mapped members of its hearing set. -/
def State.neighbourhood (s : State) (u : UnitId) : List UnitId :=
  match (s.unit u).mapping with
  | none => []
  | some m => u :: m.hearing.filter fun v => (s.unit v).mapping.isSome

/-- The conditions of R160 for a sample at a unit, at this moment. -/
def State.mayGrant (s : State) (u : UnitId) : Bool :=
  decide ((s.unit u).state = .online) &&
  (s.neighbourhood u).all fun v =>
    !(s.unit v).sounding && (s.unit v).audible.sample.isNone && (s.unit v).audible.muteSet.isEmpty

/-- A sample granted at a unit (R160). -/
def State.grant (s : State) (u : UnitId) : State :=
  let near := s.neighbourhood u
  let s := { s with
    units := rewrite s.units fun v k =>
      if v ∈ near then { k with audible := { k.audible with muteSet := k.audible.muteSet ++ [u] } } else k }
  (s.changeAudible u fun a => { a with sample := some { phase := .requested, earlyEnd := false, muted := near } }).request u .start

/-- A unit considered for a grant in its turn (R160). -/
def State.considerGrant (s : State) (u : UnitId) : State := if s.mayGrant u then s.grant u else s

/-- A mapped unit with no sample in progress whose sample-due time has come (R159, R160). -/
def State.sampleDue (s : State) (u : UnitId) : Bool :=
  let k := s.unit u
  k.mapping.isSome && k.audible.sample.isNone && reached s.clock.now k.audible.dueTime

/-- A unit placed in the order of R160: after every unit that has been due as long or longer. -/
def placeDue (age : UnitId → Nat) (u : UnitId) : List UnitId → List UnitId
  | [] => [u]
  | v :: rest => if age v < age u then u :: v :: rest else v :: placeDue age u rest

/-- The due units, earliest sample-due time first and equal times in ascending order of address (R160). -/
def State.dueUnits (s : State) : List UnitId :=
  (allUnits.filter s.sampleDue).foldl
    (fun l u => placeDue (fun v => since s.clock.now (s.unit v).audible.dueTime) u l) []

/-- The grants of a decisecond event, while a selection is in force (R160). -/
def State.grantSamples (s : State) : State :=
  if s.store.inForce.isSome then s.dueUnits.foldl State.considerGrant s else s

end Sys2Proof.Machine
end

