-- ==== Sys2Proof/Machine/Admission.lean ====
section
/-!
DEFINITION. Admission and the group arbiter (chapter 5): removal of call records, the act of admission, evaluations on
the three routes, and the end of a counted stage.
-/

namespace Sys2Proof.Machine

/-! ### Removal of call records (R46, R61 to R63) -/

/-- The fields of a call record as the host sees them now (R64). -/
def CallRecord.report (r : CallRecord) (now : Time) : CallReport :=
  { crossing := r.crossing, sinceRegistration := reportedSince now r.registeredAt, sides := r.sides, origins := r.origins,
    accessible := r.accessible, pressCount := r.pressCount, notBeforeLeft := r.notBefore.map (untilTime now) }

/-- The call record of a crossing removed, its waiting reason cleared, and CALL_REMOVED sent (R46, R63, R82). -/
def State.removeCall (s : State) (c : CrossingId) (reason : RemovalReason) : State :=
  match s.callOf c with
  | none => s
  | some r =>
    ({ s with calls := s.calls.filter fun q => decide (q.crossing ≠ c) }.changeCrossing c fun x =>
      { x with waiting := none }).raise
      (.callRemoved c reason r.origins (reportedSince s.clock.now r.registeredAt))

/-- A waiting reason given to a crossing's call, with the route of the evaluation (R82, R98). -/
def State.await (s : State) (c : CrossingId) (route : Route) (reason : WaitReason) : State :=
  s.changeCrossing c fun x => { x with route := some route, waiting := some reason }

/-! ### The act of admission (R68, R96, R97) -/

/-- How a call is admitted: its route, the group admission's kind, the walk, and what cut it. -/
structure Admission where
  route : Route
  start : Option GroupStart
  walk : Nat
  cut : Option Cut
deriving DecidableEq, Repr

/-- The kind the route writes into the stage context (R80). -/
def Route.kind : Route → StageKind
  | .band => .coordinated
  | .group _ | .direct => .free

/-- The group counted the route writes into the stage context (R80). -/
def Route.counted : Route → Option GroupId
  | .group g => some g
  | .band | .direct => none

/-- The stage context filled at admission (R68). -/
def newStage (now : Time) (call : CallRecord) (r : Record) (a : Admission) : Stage :=
  { kind := a.route.kind, group := a.route.counted, admittedAt := now, registeredAt := call.registeredAt
    sides := call.sides, origins := call.origins, accessible := call.accessible, pressCount := call.pressCount
    amber := r.amber, leadRed := r.leadRed, trailRed := r.trailRed, walk := a.walk
    desiredWalk := r.desiredWalk call.accessible, clearance := r.clearance call.accessible, walkFloor := r.minWalk
    length := r.length, accessibleSpeed := r.accessibleSpeed, margin := r.margin, walkExtra := r.walkExtra
    truncated := a.cut.isSome, upgraded := false, extraWalk := 0 }

/-- The counters an admission raises (R97). -/
def CrossingCounters.admitted (n : CrossingCounters) (k : Stage) : CrossingCounters :=
  { n with
    stages := satAdd n.stages 1
    accessibleStages := satAdd n.accessibleStages (if k.accessible then 1 else 0)
    truncatedStages := satAdd n.truncatedStages (if k.truncated then 1 else 0)
    recallStages := satAdd n.recallStages (if k.origins.recallAlone then 1 else 0) }

/-- The crossing at admission: the context created, VEH_GREEN left for VEH_AMBER (R96, R104). -/
def Crossing.admitStage (x : Crossing) (k : Stage) (route : Route) : Crossing :=
  { x.enter .vehAmber (some k.amber) with stage := some k, route := some route, waiting := none }

/-- STAGE_ADMITTED (R97). -/
def admittedNotice (now : Time) (c : CrossingId) (k : Stage) (a : Admission) (duration : Nat) : NoticeBody :=
  .stageAdmitted c a.route a.start k.kind k.accessible k.origins k.sides k.walk k.clearance duration k.truncated
    (reportedSince now k.registeredAt)

/-- STAGE_TRUNCATED, where the admission was truncated (R97). -/
def State.raiseTruncated (s : State) (c : CrossingId) (k : Stage) : Option Cut → State
  | some cut => s.raise (.stageTruncated c k.walk k.desiredWalk cut)
  | none => s

/-- The act of admission (R96, R97): the record leaves the queue, its fields pass into the stage context, the crossing
enters VEH_AMBER, the accessible mark follows the context, and the notices and counters of R97 result. -/
def State.admitCall (s : State) (c : CrossingId) (call : CallRecord) (r : Record) (a : Admission) : State :=
  let k := newStage s.clock.now call r a
  let s := s.removeCall c .admitted
  let s := s.changeCrossing c fun x => x.admitStage k a.route
  let s := s.markAccessible c k.accessible
  let s := s.countCrossing c fun n => n.admitted k
  let s := s.raise (admittedNotice s.clock.now c k a (r.duration call.accessible a.walk))
  s.raiseTruncated c k a.cut

/-! ### Evaluations (R81 to R85, R88, R89) -/

/-- The BAND route (R83). -/
def State.evaluateBand (s : State) (c : CrossingId) (call : CallRecord) (r : Record) : State :=
  match bandOutcome r call.accessible (s.clock.cycle.getD 0) (s.localTimeOf r) s.holdLimit with
  | .start walk cut => s.admitCall c call r { route := .band, start := none, walk := walk, cut := cut }
  | .wait reason => s.await c .band reason

/-- The hold's limit lets a free stage of this duration begin (R75). -/
def State.withinHold (s : State) (duration : Nat) : Bool :=
  match s.holdLimit with
  | none => true
  | some l => decide (duration ≤ l)

/-- The free stage's admission (R73). -/
def freeAdmission (r : Record) (accessible : Bool) (route : Route) (start : Option GroupStart) : Admission :=
  { route := route, start := start, walk := r.desiredWalk accessible, cut := none }

/-- The duration of a free stage, D(w_d) (R73). -/
def Record.freeDuration (r : Record) (accessible : Bool) : Nat := r.duration accessible (r.desiredWalk accessible)

/-- The DIRECT route (R85). -/
def State.evaluateDirect (s : State) (c : CrossingId) (call : CallRecord) (r : Record) : State :=
  if s.withinHold (r.freeDuration call.accessible) then
    s.admitCall c call r (freeAdmission r call.accessible .direct none)
  else s.await c .direct .hold

/-- A call of a crossing of the group considered in its turn (R88, R89). -/
def State.considerInGroup (g : GroupId) (s : State) (c : CrossingId) (call : CallRecord) (r : Record) : State :=
  match ineligible (s.crossing c) call with
  | some reason => s.await c (.group g) reason
  | none =>
    match (s.group g).mayStart s.clock.now with
    | none => s.await c (.group g) (s.group g).reason
    | some start =>
      if s.withinHold (r.freeDuration call.accessible) then
        (s.changeGroup g fun q => q.started s.clock.now start).admitCall c call r
          (freeAdmission r call.accessible (.group g) (some start))
      else s.await c (.group g) .hold

/-- A crossing taken in the list order of a group evaluation: considered when its in-force record names the group and
its route is GROUP (R87). -/
def State.groupTurn (g : GroupId) (s : State) (c : CrossingId) : State :=
  match s.callOf c, (s.crossing c).record with
  | some call, some r =>
    if routeOf s.clock.mode r = .group g then State.considerInGroup g s c call r else s
  | _, _ => s

/-- A group evaluation: the group's calls in the order of the call queue's list (R54, R88). -/
def State.evaluateGroup (s : State) (g : GroupId) : State :=
  (s.calls.map (·.crossing)).foldl (State.groupTurn g) s

/-- An eligible call taken on by its route (R82): a GROUP route hands the whole group to the arbiter (R81, R88). -/
def State.evaluateOn (s : State) (c : CrossingId) (call : CallRecord) (r : Record) : Route → State
  | .band => s.evaluateBand c call r
  | .direct => s.evaluateDirect c call r
  | .group g => s.evaluateGroup g

/-- An evaluation of a crossing's call (R81, R82); with no record it does nothing. A call that is not eligible is given
its reason, and the evaluation ends there, whatever the route. -/
def State.evaluate (s : State) (c : CrossingId) : State :=
  match s.callOf c, (s.crossing c).record with
  | some call, some r =>
    match ineligible (s.crossing c) call with
    | some reason => s.await c (routeOf s.clock.mode r) reason
    | none => s.evaluateOn c call r (routeOf s.clock.mode r)
  | _, _ => s

/-- An event that reaches every crossing: each crossing's call evaluated, in ascending order (R81). -/
def State.evaluateAll (s : State) : State := allCrossings.foldl State.evaluate s

/-- A time-step event: band-end events announced and not yet taken give way to it, and every call is evaluated (R5,
R81). -/
def State.timeStep (s : State) : State := ({ s with due := withoutBandEnds s.due }).evaluateAll

/-! ### The end of a counted stage (R90) -/

/-- A stage leaves the active count of the group its context names (R90). -/
def State.uncount (s : State) : Option GroupId → State
  | some g => s.changeGroup g fun q => q.ended s.clock.now
  | none => s

/-- The evaluation that follows the end of a stage counted in a group (R90). -/
def State.evaluateAfterEnd (s : State) : Option GroupId → State
  | some g => s.evaluateGroup g
  | none => s

end Sys2Proof.Machine
end

