-- ==== Sys2Proof/Machine/Demand.lean ====
section
/-!
DEFINITION. Offers and where they go (chapter 3): registration and merging, the accessible upgrade of a running stage,
presses, linked placement and fail recall.
-/

namespace Sys2Proof.Machine

/-- An offer to the call queue (section 3.1). -/
structure Offer where
  sides : Sides
  origins : Origins
  accessible : Bool
  pressCount : Nat
  notBefore : Option Time
deriving DecidableEq, Repr

/-- now + delay, or absent when the delay is 0 (section 3.1). -/
def notBeforeOf (now : Time) (delay : Nat) : Option Time := if delay = 0 then none else some (later now delay)

/-- The offer of a press hand-over with `p` new presses and `x` new extended presses (section 3.1, R51). -/
def pressOffer (side : Side) (p x : Nat) : Offer :=
  { sides := Sides.only side, origins := { press := true }, accessible := decide (0 < x), pressCount := min (p + x) 255,
    notBefore := none }

/-- The offer of a linked placement (section 3.1, R55). -/
def linkOffer (now : Time) (delay : Nat) : Offer :=
  { sides := {}, origins := { link := true }, accessible := false, pressCount := 0, notBefore := notBeforeOf now delay }

/-- The offer of a CALL request (section 3.1, R56). -/
def remoteOffer (now : Time) (accessible : Bool) (delay : Nat) : Offer :=
  { sides := {}, origins := { remote := true }, accessible := accessible, pressCount := 0,
    notBefore := notBeforeOf now delay }

/-- The offer of the recall timer and of fail recall (section 3.1). -/
def recallOffer : Offer :=
  { sides := {}, origins := { recalled := true }, accessible := false, pressCount := 0, notBefore := none }

/-- The not-before after a merge (R48). -/
def mergeNotBefore : Option Time → Option Time → Option Time
  | some a, some b => some (earlier a b)
  | _, _ => none

/-- A record with an offer merged into it (R48). -/
def CallRecord.merge (r : CallRecord) (o : Offer) : CallRecord :=
  { r with
    sides := r.sides.union o.sides
    origins := r.origins.union o.origins
    accessible := r.accessible || o.accessible
    pressCount := min (r.pressCount + o.pressCount) 255
    notBefore := mergeNotBefore r.notBefore o.notBefore }

/-- The record an offer creates (R47). -/
def Offer.newRecord (o : Offer) (c : CrossingId) (now : Time) : CallRecord :=
  { crossing := c, registeredAt := now, sides := o.sides, origins := o.origins, accessible := o.accessible,
    pressCount := o.pressCount, notBefore := o.notBefore }

/-- CALL_REGISTERED (R47). Its not-before is given as the deciseconds still to run, as R64 gives it in CROSSING STATUS;
R47 does not say how (the model's choice, log entry 9). -/
def registeredNotice (c : CrossingId) (o : Offer) (now : Time) : NoticeBody :=
  .callRegistered c o.origins o.sides o.accessible (o.notBefore.map (untilTime now))

/-- A record created at the back of the list, counted and reported (R46, R47). -/
def State.registerCall (s : State) (c : CrossingId) (o : Offer) : State :=
  (({ s with calls := s.calls ++ [o.newRecord c s.clock.now] }).countCrossing c fun n =>
    { n with callsRegistered := satAdd n.callsRegistered 1 }).raise (registeredNotice c o s.clock.now)

/-- An offer merged into the crossing's record, which keeps its place (R46, R48). -/
def State.mergeCall (s : State) (c : CrossingId) (o : Offer) : State :=
  { s with calls := s.calls.map fun r => if r.crossing = c then r.merge o else r }

/-- An offer taken into the queue: a new record or a merge, either announced to the crossing controller (R47, R53). -/
def State.intoQueue (s : State) (c : CrossingId) (o : Offer) : OfferOutcome × State :=
  match s.callOf c with
  | none => (.registered, (s.registerCall c o).evaluate c)
  | some _ => (.merged, (s.mergeCall c o).evaluate c)

/-- The limit λ of an upgrade of the crossing's COORDINATED stage (R76): the gap to the next band start where the
in-force record has a band, lowered to the hold's limit where the hold is set. -/
def State.upgradeLimit (s : State) (c : CrossingId) : Option Nat :=
  let band := match (s.crossing c).record with
    | some r => if 0 < r.bandLen then some (gapFrom r (s.clock.cycle.getD 0) (s.localTimeOf r)) else none
    | none => none
  match band, s.holdLimit with
  | some g, some h => some (min g h)
  | some g, none => some g
  | none, held => held

/-- The crossing's in-force record has a band and its local time is in it (R76). -/
def State.upgradeBarred (s : State) (c : CrossingId) : Bool :=
  match (s.crossing c).record with
  | some r => decide (0 < r.bandLen) && inBand r (s.clock.cycle.getD 0) (s.localTimeOf r)
  | none => false

/-- The crossing after an upgrade that fits: the new context, and in WALK the time left grown by the extra walk (R77). -/
def Crossing.upgrade (x : Crossing) (k : Stage) (extra : Nat) : Crossing :=
  { x with stage := some k, timeLeft := if x.state = .walk then x.timeLeft.map (· + extra) else x.timeLeft }

/-- An upgrade that fits carried out (R77). -/
def State.upgradeStage (s : State) (c : CrossingId) (k : Stage) (extra remaining : Nat) : State :=
  let s := s.changeCrossing c fun x => x.upgrade k extra
  let s := s.countCrossing c fun n => { n with upgrades := satAdd n.upgrades 1 }
  let s := s.raise (.stageUpgraded c k.clearance extra k.walk remaining)
  s.markAccessible c true

/-- An extended press or accessible REMOTE offer that reaches a committed stage (R52). -/
def State.tryUpgrade (s : State) (c : CrossingId) (o : Offer) : OfferOutcome × State :=
  let x := s.crossing c
  match x.stage with
  | none => (.discarded, s)
  | some k =>
    match upgradeOutcome k (x.remaining k) (s.upgradeBarred c) (s.upgradeLimit c) with
    | .already => (.absorbed, s)
    | .fits k' extra remaining => (.upgraded, s.upgradeStage c k' extra remaining)
    | .noFit => if x.inService then s.intoQueue c o else (.discarded, s)

/-- An offer dealt with by its crossing's state and service (R50). -/
def State.offer (s : State) (c : CrossingId) (o : Offer) : OfferOutcome × State :=
  let x := s.crossing c
  if x.inService && x.state.registering then s.intoQueue c o
  else if x.inCommittedStage then (if o.accessible then s.tryUpgrade c o else (.absorbed, s))
  else (.discarded, s)

/-- A press hand-over: PRESSES and EXTENDED_PRESSES rise whatever the crossing's state, and one offer is made (R51). -/
def State.handOver (s : State) (c : CrossingId) (side : Side) (p x : Nat) : State :=
  ((s.countCrossing c fun n =>
    { n with presses := satAdd n.presses p, extendedPresses := satAdd n.extendedPresses x }).offer c
      (pressOffer side p x)).2

/-- Fail recall tested: a RECALL offer where the flag is set, the crossing is in service in a registering state, and it
has no record (R60). -/
def State.testFailRecall (s : State) (c : CrossingId) : State :=
  let x := s.crossing c
  if x.failRecall && x.inService && x.state.registering && (s.callOf c).isNone then (s.intoQueue c recallOffer).2 else s

/-- The linked call of a stage at its walk begin, if its origins and the in-force record call for one (R55). -/
def State.placeLink (s : State) (c : CrossingId) (k : Stage) : State :=
  match (s.crossing c).record with
  | none => s
  | some r =>
    match r.partner with
    | none => s
    | some p =>
      if k.origins.linkAlone then s
      else if (s.crossing p).inService then
        ((s.offer p (linkOffer s.clock.now r.linkDelay)).2).countCrossing c fun n =>
          { n with linkedPlaced := satAdd n.linkedPlaced 1 }
      else s.countCrossing c fun n => { n with linkedDropped := satAdd n.linkedDropped 1 }

/-- What the kerb link master tells a crossing controller of its two sides (R148): where it differs from what it last
told, the fail-recall flag follows, and fail recall is tested as the flag becomes set (R60). -/
def State.tellWorking (s : State) (c : CrossingId) (w : Sides) : State :=
  if (s.crossing c).working = w then s
  else
    (s.changeCrossing c fun x => { x with working := w, failRecall := !(w.a && w.b) }).testFailRecall c

/-- The sides of a crossing that have a working button (R148). -/
def State.workingSides (s : State) (c : CrossingId) : Sides :=
  { a := allUnits.any fun u => (s.unit u).workingButton && (s.unit u).mappedTo c .a
    b := allUnits.any fun u => (s.unit u).workingButton && (s.unit u).mappedTo c .b }

/-- The working buttons of a crossing recomputed (R148). -/
def State.reviewWorking (s : State) (c : CrossingId) : State := s.tellWorking c (s.workingSides c)

end Sys2Proof.Machine
end

