-- ==== Sys2Proof/Machine/Calls.lean ====
section
/-!
DEFINITION. The requests CALL and CALL CANCEL (section 3.7).
-/

namespace Sys2Proof.Machine

/-- The crossing's call record as the host sees it now (R57, R58, R64). -/
def State.callReport (s : State) (c : CrossingId) : Option CallReport := (s.callOf c).map fun r => r.report s.clock.now

/-- A CALL at a crossing, with its delay clamped to 600 (R56, R57). -/
def State.call (s : State) (tag : Byte) (c : CrossingId) (accessible : Bool) (delay : Nat) : State :=
  if (s.crossing c).inService then
    let applied := min delay 600
    let r := s.offer c (remoteOffer s.clock.now accessible applied)
    r.2.done tag (.call r.1 applied (r.2.callReport c))
  else s.refuse tag .notInService

/-- CALL: crossing, accessible flag, delay in two bytes (R56, section 12.3.1). -/
def executeCall (fr : Frame) (s : State) : State :=
  match fr.body with
  | [crossingByte, accessibleByte, _, _] =>
    match numbered 8 crossingByte, readYesNo accessibleByte with
    | some c, some accessible => s.call fr.tag c accessible (readTwo fr.body 2)
    | _, _ => s.refuse fr.tag .outOfRange
  | _ => s.refuse fr.tag .badLength

/-- REMOTE removed from a crossing's record, which keeps its place (R58). -/
def State.withdrawRemote (s : State) (c : CrossingId) : State :=
  { s with
    calls := s.calls.map fun (r : CallRecord) =>
      if r.crossing = c then { r with origins := { r.origins with remote := false } } else r }

/-- A CALL CANCEL at a crossing (R58): with no origin left the record is removed and fail recall is tested. -/
def State.cancel (s : State) (tag : Byte) (c : CrossingId) : State :=
  match s.callOf c with
  | none => s.refuse tag .notApplicable
  | some r =>
    if r.origins.remote then
      let s := s.withdrawRemote c
      if ({ r.origins with remote := false }).none? then
        ((s.removeCall c .cancelled).testFailRecall c).done tag (.callCancel none)
      else s.done tag (.callCancel (s.callReport c))
    else s.refuse tag .notApplicable

/-- CALL CANCEL: a crossing (R58). -/
def executeCancel (fr : Frame) (s : State) : State :=
  match fr.body with
  | [crossingByte] =>
    match numbered 8 crossingByte with
    | some c => s.cancel fr.tag c
    | none => s.refuse fr.tag .outOfRange
  | _ => s.refuse fr.tag .badLength

/-- CALL (R56). -/
def execCall (s : State) : Host.Outcome State Fault Refusal :=
  .next (s.live fun s => s.serve (Frame.isKind · 8) executeCall)

/-- CALL_CANCEL (R58). -/
def execCallCancel (s : State) : Host.Outcome State Fault Refusal :=
  .next (s.live fun s => s.serve (Frame.isKind · 9) executeCancel)

end Sys2Proof.Machine
end

