-- ==== Sys2Proof/Machine/Service.lean ====
section
/-!
DEFINITION. Changes of crossing state and service (chapter 6): entries, pending service changes, closing ambers, entry
to FAULT_FLASH, fault events, and the fate of a crossing at an adoption.
-/

namespace Sys2Proof.Machine

/-- CROSSING_STATE, with the crossing as it stands (R119). -/
def State.reportState (s : State) (c : CrossingId) (cause : Cause) : State :=
  let x := s.crossing c
  s.raise (.crossingState c x.state x.pendingTarget x.inService cause)

/-- Loss of service: the call record is removed with the reason OUT_OF_SERVICE, and the recall timer stops (R62,
R118). -/
def State.loseService (s : State) (c : CrossingId) : State :=
  (s.removeCall c .outOfService).changeCrossing c fun x => { x with recallTimer := none }

/-- The recall timer started at now plus the recall interval, where the crossing is in service and the interval is
above 0 (R118). -/
def Crossing.startRecall (x : Crossing) (now : Time) : Crossing :=
  match x.record with
  | some r => if x.inService && decide (0 < r.recallInterval) then { x with recallTimer := some (later now r.recallInterval) } else x
  | none => x

/-! ### Entries -/

/-- Entry to STARTUP_FLASH for 50 ds, with no stage and no pending change, reported, and fail recall tested (R102, R60,
R119). -/
def State.enterStartup (s : State) (c : CrossingId) (cause : Cause) : State :=
  ((s.changeCrossing c fun x =>
    { x.enter .startupFlash (some 50) with stage := none, pendingChange := none }).reportState c cause).testFailRecall c

/-- Entry to a state out of service that runs no interval, service lost where it was held, reported (R62, R110,
R119). -/
def State.enterUntimed (s : State) (c : CrossingId) (st : CrossingState) (cause : Cause) : State :=
  let was := (s.crossing c).inService
  let s := s.changeCrossing c fun x => { x.enter st none with pendingChange := none }
  let s := if was then s.loseService c else s
  s.reportState c cause

/-- Entry to UNCONFIGURED, followed in the same event by STARTUP_FLASH where the crossing has an in-force record
(R103). Both notices carry the cause given (log entry 39 for the second). -/
def State.enterUnconfigured (s : State) (c : CrossingId) (cause : Cause) : State :=
  let s := s.enterUntimed c .unconfigured cause
  if (s.crossing c).inForce.isSome then s.enterStartup c cause else s

/-- The stage of a crossing ended without STAGE_END: the context discarded, the accessible mark cleared (R114, R156). -/
def State.discardStage (s : State) (c : CrossingId) : State :=
  (s.changeCrossing c fun x => { x with stage := none }).markAccessible c false

/-- Entry to FAULT_FLASH (R114): the stage ends and leaves its group's count, the call record is removed, the timers,
the closing amber mark and the pending change go, and the group is evaluated. -/
def State.enterFaultFlash (s : State) (c : CrossingId) (cause : Cause) : State :=
  let group := (s.crossing c).stage.bind (·.group)
  let s := s.discardStage c
  let s := s.uncount group
  let s := s.loseService c
  let s := s.changeCrossing c fun x => { x.enter .faultFlash none with pendingChange := none }
  let s := s.reportState c cause
  s.evaluateAfterEnd group

/-- Entry to the target of a change (R110). -/
def State.enterTarget (s : State) (c : CrossingId) (t : Target) (cause : Cause) : State :=
  match t with
  | .cmdFlash => s.enterUntimed c .cmdFlash cause
  | .dark => s.enterUntimed c .dark cause
  | .unconfigured => s.enterUnconfigured c cause
  | .faultFlash => s.enterFaultFlash c cause

/-! ### Pending service changes (R109 to R111) -/

/-- A closing amber begins: VEH_AMBER with the mark set, for the in-force record's amber or the retained amber (R111). -/
def Crossing.beginClosing (x : Crossing) : Crossing :=
  { x.enter .vehAmber (some (match x.record with | some r => r.amber | none => x.retainedAmber)) with
    closingAmber := true }

/-- A pending change set or replaced by rank (R109): service is lost where it was held, CROSSING_STATE is sent, and in
VEH_GREEN a closing amber begins (R110). A target that ranks at or below the pending change leaves it as it stands. -/
def State.setPending (s : State) (c : CrossingId) (t : Target) (cause : Cause) : State :=
  let x := s.crossing c
  if x.outrankedBy t then
    let s := s.changeCrossing c fun x => { x with pendingChange := some { target := t, cause := cause } }
    let s := if x.inService then s.loseService c else s
    let s := s.reportState c cause
    if x.state = .vehGreen then (s.changeCrossing c Crossing.beginClosing).reportState c cause else s
  else s

/-- A change of service carried out or held according to the crossing's state (R110). In STARTUP_FLASH and STARTUP_RED
the change is never pending to be seen: the entry's CROSSING_STATE is the one notice (log entry 38). -/
def State.changeService (s : State) (c : CrossingId) (t : Target) (cause : Cause) : State :=
  match (s.crossing c).state with
  | .startupFlash | .startupRed => s.enterTarget c t cause
  | .vehGreen | .vehAmber | .leadRed | .walk | .clearance | .trailRed => s.setPending c t cause
  | .unconfigured | .cmdFlash | .faultFlash | .dark => s

/-! ### Fault events (R113, R128 to R130) -/

/-- What a fault event does to the crossing's state (R113). -/
def State.actOnFault (s : State) (c : CrossingId) (cls : FaultClass) : State :=
  match cls, (s.crossing c).state with
  | .conflict, .faultFlash | .conflict, .dark | .stuckOn, .faultFlash | .stuckOn, .dark | .redLoss, .faultFlash
  | .redLoss, .dark => s
  | .conflict, _ | .stuckOn, _ | .redLoss, _ => s.enterFaultFlash c .fault
  | .walkFail, _ => s.changeService c .faultFlash .fault
  | .flashFail, .startupFlash | .flashFail, .cmdFlash | .flashFail, .faultFlash => s.enterUntimed c .dark .fault
  | .flashFail, _ => s
  | .lampOut, _ => s

/-- A fault event (R128): the class joins the set (R129), the state changes by the class (R113), and where the class is
new or the state changed, FAULTS rises and CROSSING_FAULT is sent (R130), after all that the change of state raises (log
entry 20). -/
def State.faultEvent (s : State) (c : CrossingId) (lamp : Lamp) (cls : FaultClass) : State :=
  let before := s.crossing c
  let s := s.changeCrossing c fun x => { x with faults := x.faults.insert cls }
  let s := s.actOnFault c cls
  let after := s.crossing c
  if !before.faults.has cls || decide (after.state ≠ before.state) then
    (s.countCrossing c fun n => { n with faults := satAdd n.faults 1 }).raise
      (.crossingFault c cls lamp before.state after.state after.pendingTarget after.faults)
  else s

/-! ### A crossing at an adoption (R112) -/

/-- An in-force record, or its absence, handed to a crossing controller: the amber is retained, and the recall timer
stops where the record has no recall interval or is absent (R41, R99, R118). -/
def Crossing.receive (x : Crossing) (r : Option InForce) : Crossing :=
  match r with
  | some f =>
    { x with inForce := r, retainedAmber := f.record.amber,
             recallTimer := if f.record.recallInterval = 0 then none else x.recallTimer }
  | none => { x with inForce := none, recallTimer := none }

/-- What an adoption does to a crossing once it has its new record, or none (R103, R112). No call is admitted here: a
record that fail recall creates is created outside VEH_GREEN, and its evaluation gives it the reason GREEN (R82); the
evaluation that reads the boundary hold and T follows the boundary's work (R81, State.evaluateBoundary). -/
def State.settleAdoption (s : State) (c : CrossingId) : State :=
  let x := s.crossing c
  match x.inForce with
  | none => s.changeService c .unconfigured .plan
  | some _ =>
    if x.state = .unconfigured then s.enterStartup c .plan
    else if x.pendingTarget = some .unconfigured ∧ x.state.ofStage = true ∧ x.closingAmber = false then
      ((s.changeCrossing c fun x => { x with pendingChange := none }).reportState c .plan).testFailRecall c
    else s

end Sys2Proof.Machine
end

