-- ==== Sys2Proof/Machine/Sequence.lean ====
section
/-!
DEFINITION. The crossing sequence (chapter 6): the ends of intervals, walk begin, the stage end, the green timer's and
the recall timer's expiries, and CROSSING CONTROL.
-/

namespace Sys2Proof.Machine

/-! ### Walk begin (R105) and the stage end (R107) -/

/-- The counters of a wait filed at walk begin (R171). -/
def CrossingCounters.fileWait (n : CrossingCounters) (wait : Nat) : CrossingCounters :=
  let n := { n with maxWait := max n.maxWait wait }
  if wait < 150 then { n with wait0 := satAdd n.wait0 1 }
  else if wait < 300 then { n with wait150 := satAdd n.wait150 1 }
  else if wait < 450 then { n with wait300 := satAdd n.wait300 1 }
  else if wait < 600 then { n with wait450 := satAdd n.wait450 1 }
  else if wait < 900 then { n with wait600 := satAdd n.wait600 1 }
  else { n with wait900 := satAdd n.wait900 1 }

/-- Walk begin (R105): WALK is entered, the linked call placed, WALK_BEGIN sent, the wait filed, and the crossing's
units marked sounding. -/
def State.beginWalk (s : State) (c : CrossingId) (k : Stage) : State :=
  let s := s.changeCrossing c fun x => x.enter .walk (some k.walk)
  let s := s.placeLink c k
  let wait := reportedSince s.clock.now k.registeredAt
  let s := s.raise (.walkBegin c k.walk k.clearance k.accessible wait)
  let s := s.countCrossing c fun n => n.fileWait wait
  s.soundCrossing c

/-- Entry to VEH_GREEN at a stage end with no change pending (R101, R107). -/
def State.enterGreen (s : State) (c : CrossingId) : State :=
  (s.changeCrossing c Crossing.enterGreen).testFailRecall c

/-- The stage end (R107): the context discarded, the group's count lowered, the recall timer started, STAGE_END sent,
VEH_GREEN or the pending change's target entered, and the group evaluated (R90). -/
def State.endStage (s : State) (c : CrossingId) (k : Stage) : State :=
  let s := s.discardStage c
  let s := s.uncount k.group
  let s := s.changeCrossing c fun x => x.startRecall s.clock.now
  let s := s.raise (.stageEnd c k.walk k.clearance k.upgraded (saturate (k.elapsed s.clock.now)))
  let s := match (s.crossing c).pendingChange with
    | none => s.enterGreen c
    | some p => s.enterTarget c p.target p.cause
  s.evaluateAfterEnd k.group

/-- The end of STARTUP_RED: VEH_GREEN with its green timer, the recall timer started, and CROSSING_STATE with the cause
START_UP (R102, R118, R119). -/
def State.completeStartup (s : State) (c : CrossingId) : State :=
  ((s.changeCrossing c fun x => x.enterGreen.startRecall s.clock.now).reportState c .startUp).testFailRecall c

/-- The end of a closing amber: the target of the pending change is entered (R111). -/
def State.endClosing (s : State) (c : CrossingId) : State :=
  match (s.crossing c).pendingChange with
  | some p => s.enterTarget c p.target p.cause
  | none => s

/-- A timed state followed by another with this length; fail recall is tested where a registering state is entered
(R60, R100). -/
def State.follow (s : State) (c : CrossingId) (st : CrossingState) (left : Nat) : State :=
  (s.changeCrossing c fun x => x.enter st (some left)).testFailRecall c

/-- The end of a timed interval: the next state is entered with its own interval begun (R100). Where another event has
raised the time left above 0 the interval does not end (R100, R78). -/
def State.endInterval (c : CrossingId) (s : State) : State :=
  let x := s.crossing c
  if x.timeLeft = some 0 then
    match x.state with
    | .startupFlash => s.follow c .startupRed 30
    | .startupRed => s.completeStartup c
    | .vehAmber =>
      if x.closingAmber then s.endClosing c
      else
        match x.stage with
        | some k => s.follow c .leadRed k.leadRed
        | none => s
    | .leadRed =>
      match x.stage with
      | some k => s.beginWalk c k
      | none => s
    | .walk =>
      match x.stage with
      | some k => s.follow c .clearance k.clearance
      | none => s
    | .clearance =>
      match x.stage with
      | some k => s.follow c .trailRed k.trailRed
      | none => s
    | .trailRed =>
      match x.stage with
      | some k => s.endStage c k
      | none => s
    | .unconfigured | .vehGreen | .cmdFlash | .faultFlash | .dark => s
  else s

/-! ### Timers -/

/-- The green timer's expiry: the expired mark is set and the crossing's call is evaluated (R101, R81). -/
def State.expireGreen (c : CrossingId) (s : State) : State :=
  if (s.crossing c).green = some { left := 0, expired := false } then
    (s.changeCrossing c fun x => { x with green := some { left := 0, expired := true } }).evaluate c
  else s

/-- The recall timer's expiry: the timer stops and a timed RECALL offer is made (R118, R59). -/
def State.expireRecall (c : CrossingId) (s : State) : State :=
  match (s.crossing c).recallTimer with
  | some t =>
    if reached s.clock.now t then
      ((s.changeCrossing c fun x => { x with recallTimer := none }).offer c recallOffer).2
    else s
  | none => s

/-- The arrival of a call record's not-before: it becomes absent, and the record is announced (R49, R53). -/
def State.arriveNotBefore (c : CrossingId) (s : State) : State :=
  match (s.callOf c).bind (·.notBefore) with
  | some t =>
    if reached s.clock.now t then
      ({ s with calls := s.calls.map fun (r : CallRecord) => if r.crossing = c then { r with notBefore := none } else r }).evaluate c
    else s
  | none => s

/-- A change of flash half (R122). -/
def State.changeFlashHalf (c : CrossingId) (s : State) : State :=
  if (s.crossing c).port.flash.complete then s.changeCrossing c fun x => { x with port := x.port.halfChange } else s

/-- A group's spacing expiry: it is no longer armed, and the group is evaluated (R87). -/
def State.expireSpacing (g : GroupId) (s : State) : State :=
  match (s.group g).spacingExpiry with
  | some t =>
    if (s.group g).active = 0 ∧ reached s.clock.now t = true then
      (s.changeGroup g fun q => { q with spacingExpiry := none }).evaluateGroup g
    else s
  | none => s

/-- A group's pairing close: it is no longer armed, and the group is evaluated (R87). -/
def State.closePairing (g : GroupId) (s : State) : State :=
  match (s.group g).pairingClose with
  | some t =>
    if 0 < (s.group g).active ∧ reached s.clock.now t = true then
      (s.changeGroup g fun q => { q with pairingClose := none }).evaluateGroup g
    else s
  | none => s

/-! ### CROSSING CONTROL (R115 to R117) -/

/-- The actions of CROSSING CONTROL (R115). -/
inductive ControlAction where
  | serviceOff | dark | restore
deriving DecidableEq, Repr

/-- What the table of R115 says of an action at a crossing. -/
inductive ControlVerdict where
  | enterAtOnce | pend | restoreNow | notApplicable
deriving DecidableEq, Repr

/-- The target an action sets (R109). -/
def ControlAction.target : ControlAction → Target
  | .serviceOff => .cmdFlash
  | .dark | .restore => .dark

/-- The table of R115. -/
def controlVerdict (a : ControlAction) (x : Crossing) : ControlVerdict :=
  match a with
  | .restore =>
    match x.state with
    | .cmdFlash | .faultFlash | .dark => .restoreNow
    | .unconfigured | .startupFlash | .startupRed | .vehGreen | .vehAmber | .leadRed | .walk | .clearance | .trailRed =>
      .notApplicable
  | .serviceOff | .dark =>
    match x.state with
    | .startupFlash | .startupRed => .enterAtOnce
    | .vehGreen => .pend
    | .vehAmber | .leadRed | .walk | .clearance | .trailRed => if x.outrankedBy a.target then .pend else .notApplicable
    | .cmdFlash | .faultFlash => if a = .dark then .enterAtOnce else .notApplicable
    | .dark | .unconfigured => .notApplicable

/-- An accepted RESTORE: the fault set is cleared, and the crossing enters STARTUP_FLASH with a record and UNCONFIGURED
without one (R117). RESTORE touches no proving timer: only an output whose mode the entry changes starts its timer afresh
(R123, R125, R127). A fault still present is detected again by proving in the start-up: Crossing.detectsAgain and
Crossing.conflictFound (R117; log entry 37). -/
def State.restoreCrossing (s : State) (c : CrossingId) : State :=
  let s := s.changeCrossing c fun x => { x with faults := {}, recallTimer := none }
  if (s.crossing c).inForce.isSome then s.enterStartup c .restore else s.enterUntimed c .unconfigured .restore

/-- The reply to an accepted CROSSING CONTROL, with the crossing as it stands after the request (R116). -/
def State.controlDone (s : State) (tag : Byte) (c : CrossingId) (taken : Bool) : State :=
  s.done tag (.crossingControl taken (s.crossing c).state (s.crossing c).pendingTarget)

/-- A CROSSING CONTROL action taken or refused at a crossing (R115, R116). -/
def State.control (s : State) (tag : Byte) (c : CrossingId) (a : ControlAction) : State :=
  match controlVerdict a (s.crossing c) with
  | .enterAtOnce => (s.enterTarget c a.target .command).controlDone tag c true
  | .pend => (s.setPending c a.target .command).controlDone tag c false
  | .restoreNow => (s.restoreCrossing c).controlDone tag c true
  | .notApplicable => s.refuse tag .notApplicable

/-- The action byte of CROSSING CONTROL (section 12.3.1); none for any other byte (R190). -/
def readAction (b : Byte) : Option ControlAction :=
  if b.toNat = 1 then some .serviceOff else if b.toNat = 2 then some .dark else if b.toNat = 3 then some .restore else none

/-- A CROSSING CONTROL request: its length, its crossing and action, then the action (R115, R179, R190). -/
def executeControl (fr : Frame) (s : State) : State :=
  match fr.body with
  | [cb, ab] =>
    match numbered 8 cb, readAction ab with
    | some c, some a => s.control fr.tag c a
    | _, _ => s.refuse fr.tag .outOfRange
  | _ => s.refuse fr.tag .badLength

/-- The frame is a CROSSING CONTROL this row's action executes: its action is the row's, or it names none of the three
actions or has the wrong length, and is refused at whichever row is taken (log entry 3). -/
def isControl (a : ControlAction) (fr : Frame) : Bool :=
  fr.isKind 10 &&
  (match fr.body with
  | [_, ab] => decide (readAction ab = some a) || (readAction ab).isNone
  | _ => true)

/-! ### Meanings -/

/-- INTERVAL_END (R100). -/
def execIntervalEnd (c : CrossingId) (s : State) : Host.Outcome State Fault Refusal :=
  .next (s.live fun s => s.take (.intervalEnd c) (State.endInterval c))

/-- GREEN_TIMER_EXPIRY (R101). -/
def execGreenTimerExpiry (c : CrossingId) (s : State) : Host.Outcome State Fault Refusal :=
  .next (s.live fun s => s.take (.greenExpiry c) (State.expireGreen c))

/-- RECALL_TIMER_EXPIRY (R118). -/
def execRecallTimerExpiry (c : CrossingId) (s : State) : Host.Outcome State Fault Refusal :=
  .next (s.live fun s => s.take (.recallExpiry c) (State.expireRecall c))

/-- NOT_BEFORE_ARRIVAL (R49). -/
def execNotBeforeArrival (c : CrossingId) (s : State) : Host.Outcome State Fault Refusal :=
  .next (s.live fun s => s.take (.notBefore c) (State.arriveNotBefore c))

/-- FLASH_HALF_CHANGE (R122). -/
def execFlashHalfChange (c : CrossingId) (s : State) : Host.Outcome State Fault Refusal :=
  .next (s.live fun s => s.take (.flashHalf c) (State.changeFlashHalf c))

/-- SPACING_EXPIRY (R87). -/
def execSpacingExpiry (g : GroupId) (s : State) : Host.Outcome State Fault Refusal :=
  .next (s.live fun s => s.take (.spacing g) (State.expireSpacing g))

/-- PAIRING_CLOSE (R87). -/
def execPairingClose (g : GroupId) (s : State) : Host.Outcome State Fault Refusal :=
  .next (s.live fun s => s.take (.pairing g) (State.closePairing g))

/-- SERVICE_OFF: a CROSSING CONTROL request with the action SERVICE OFF (R115). -/
def execServiceOff (s : State) : Host.Outcome State Fault Refusal :=
  .next (s.live fun s => s.serve (isControl .serviceOff) executeControl)

/-- DARK: a CROSSING CONTROL request with the action DARK (R115). -/
def execDark (s : State) : Host.Outcome State Fault Refusal :=
  .next (s.live fun s => s.serve (isControl .dark) executeControl)

/-- RESTORE: a CROSSING CONTROL request with the action RESTORE (R117). -/
def execRestore (s : State) : Host.Outcome State Fault Refusal :=
  .next (s.live fun s => s.serve (isControl .restore) executeControl)

/-- The class a mismatch timer's limit has raised for an output, announced and not yet taken (R126). -/
def raisedClass (c : CrossingId) (lamp : Lamp) (l : List Due) : Option FaultClass :=
  l.findSome? fun d => match d with
    | .mismatch c' lamp' cls => if c' = c ∧ lamp' = lamp then some cls else none
    | _ => none

/-- MISMATCH_TIMER_LIMIT (R126, R128): the fault the judgement raised for the output is handed to the controller. -/
def execMismatchTimerLimit (c : CrossingId) (lamp : Lamp) (s : State) : Host.Outcome State Fault Refusal :=
  .next (s.live fun s =>
    match raisedClass c lamp s.due with
    | some cls => s.take (.mismatch c lamp cls) fun s => s.faultEvent c lamp cls
    | none => s)

/-- CONFLICT_TIMER_LIMIT (R127, R128): CONFLICT, with walk as the output. -/
def execConflictTimerLimit (c : CrossingId) (s : State) : Host.Outcome State Fault Refusal :=
  .next (s.live fun s => s.take (.conflict c) fun s => s.faultEvent c .walk .conflict)

end Sys2Proof.Machine
end

