-- ==== Sys2Proof/Machine/Corridor.lean ====
section
/-!
DEFINITION. The corridor clock's events (chapter 1) with the adoption of selections (sections 2.7, 5.4, 9.3): the cycle
boundary, the watchdog, the band end, the second's advance, and SYNC.
-/

namespace Sys2Proof.Machine

/-! ### Changes of mode (R6, R7) -/

/-- The corridor drops to FREE: the pending correction and the zero-step count go, and MODE_CHANGE is sent (R7, R21). -/
def State.dropToFree (s : State) (cause : ModeCause) : State :=
  ({ s with clock := { s.clock with mode := .free, correction := 0, zeroSteps := 0 } }).raise (.modeChange .free cause)

/-- A coordinated stage exists at some crossing (R6, R10). -/
def State.anyCoordinatedStage (s : State) : Bool :=
  allCrossings.any fun c => match (s.crossing c).stage with
    | some k => decide (k.kind = .coordinated)
    | none => false

/-! ### The stage test and the deferral (R38, R39) -/

/-- What the stage test says of one stage. -/
inductive StageTest where
  | passes
  | inBand
  | beyond (gap : Nat)
deriving DecidableEq, Repr

/-- The stage test of R39 for a stage with this remaining time under a record and cycle length, at T = 0. -/
def stageTest (r : Record) (y remaining : Nat) : StageTest :=
  let t := localTime 0 r.offset y
  if r.bandLen = 0 then .passes
  else if inBand r y t then .inBand
  else if remaining ≤ gapFrom r y t then .passes
  else .beyond (gapFrom r y t)

/-- A crossing that fails the stage test: its stage's remaining time, and its new gap unless in band (R39). -/
structure Failing where
  crossing : CrossingId
  remaining : Nat
  gap : Option Nat
deriving DecidableEq, Repr

/-- The stage test at one crossing under a selection with this base header (R39). -/
def State.failsAt (s : State) (sel : Selection) (h : Header) (c : CrossingId) : Option Failing :=
  match (s.crossing c).coordinatedInFlight, s.store.effective sel c with
  | some (_, r), some f =>
    match stageTest f.record h.cycle r with
    | .passes => none
    | .inBand => some { crossing := c, remaining := r, gap := none }
    | .beyond g => some { crossing := c, remaining := r, gap := some g }
  | _, _ => none

/-- The lowest-numbered crossing that fails the stage test (R39). -/
def State.failing (s : State) (sel : Selection) (h : Header) : Option Failing := allCrossings.findSome? (s.failsAt sel h)

/-- The adoption deferred: the mark and the boundary hold set, ADOPTION_DEFERRED sent (R39). -/
def State.deferAdoption (s : State) (sel : Selection) (f : Failing) : State :=
  ({ s with
    store := { s.store with deferral := true }
    clock := { s.clock with hold := true } }).raise (.adoptionDeferred sel f.crossing f.remaining f.gap)

/-! ### Adoption (R41, R42, R93, R157, R159) -/

/-- The clock under an adopted header (R18, R41): a changed Y restarts T from 0 and discards the pending correction. -/
def Clock.adopt (k : Clock) (h : Header) : Clock :=
  if k.cycle = some h.cycle then { k with boundaryDue := false }
  else { k with cycle := some h.cycle, corridorTime := 0, correction := 0, zeroSteps := 0, boundaryDue := false }

/-- The plan store under an adopted selection (R24, R41). -/
def PlanStore.adopt (p : PlanStore) (sel : Selection) : PlanStore :=
  { p with inForce := some sel, pendingSelection := none, stored := some sel, deferral := false }

/-- The groups under an adopted header (R93). -/
def adoptGroups (groups : Vector Group 4) (now : Time) (h : Header) : Vector Group 4 :=
  rewrite groups fun g q => q.adopt now (h.groups[g])

/-- The crossings handed their in-force records, or the absence of one (R41). -/
def handRecords (crossings : Vector Crossing 8) (p : PlanStore) (sel : Selection) : Vector Crossing 8 :=
  rewrite crossings fun c x => x.receive (p.effective sel c)

/-- The sample-due times at an adoption: last taken start plus the new interval (R159). -/
def rescheduled (interval : Nat) (k : KerbUnit) : KerbUnit :=
  match k.mapping, k.audible.lastStart with
  | some _, some t => { k with audible := { k.audible with dueTime := later t interval } }
  | _, _ => k

/-- Every block's items that an adoption replaces outright (R41, R93, R159). -/
def State.install (s : State) (sel : Selection) (h : Header) : State :=
  { s with
    clock := s.clock.adopt h
    store := s.store.adopt sel
    groups := adoptGroups s.groups s.clock.now h
    crossings := handRecords s.crossings s.store sel
    units := rewrite s.units fun _ k => rescheduled h.sampleInterval k }

/-- PLAN_ADOPTED sent and counted (R42). -/
def State.announceAdoption (s : State) (sel : Selection) (h : Header) (cycleChanged afterDeferral : Bool) : State :=
  (s.countCorridor fun n => { n with planAdoptions := satAdd n.planAdoptions 1 }).raise
    (.planAdopted sel h.cycle h.label cycleChanged afterDeferral)

/-- The drop to FREE of an adoption whose header does not allow coordination (R7, R18). -/
def State.dropIfDisallowed (s : State) (h : Header) : State :=
  if s.clock.mode = .coordinated ∧ h.coordination = false then s.dropToFree .plan else s

/-- The adoption of a selection with its base header (R41, R42). -/
def State.adopt (s : State) (sel : Selection) (h : Header) : State :=
  let installed := s.install sel h
  let announced := installed.announceAdoption sel h (decide (s.clock.cycle ≠ some h.cycle)) s.store.deferral
  (allCrossings.foldl State.settleAdoption (announced.dropIfDisallowed h)).reviewQuiet.relevelAll

/-! ### The correction step (R14 to R16) -/

/-- What one crossing's coordinated stage allows a step, at T = 0 (R14). -/
def State.allowance (s : State) (forward : Bool) (c : CrossingId) : Option Int :=
  match (s.crossing c).coordinatedInFlight, (s.crossing c).record with
  | some (k, r), some rec =>
    let y := s.clock.cycle.getD 0
    let t := localTime 0 rec.offset y
    if rec.bandLen = 0 then none
    else if forward then some ((gapFrom rec y t : Int) - r)
    else some ((sinceBandEnd rec y t : Int) - k.elapsed s.clock.now)
  | _, _ => none

/-- The bound b of R14, none where no stage limits the step. -/
def State.stepBound (s : State) (forward : Bool) : Option Nat :=
  (allCrossings.filterMap (s.allowance forward)).foldl
    (fun b a => match b with
      | none => some a.toNat
      | some b => some (min b a.toNat)) none

/-- The magnitude of the applied step (R15). -/
def stepSize (p : Int) (y : Nat) (bound : Option Nat) : Nat :=
  let m := min p.natAbs (y / 10)
  match bound with
  | none => m
  | some b => min m b

/-- The applied step δ, which has the sign of p (R15); 0 where an adoption was deferred at this boundary and p is below
0 (R18). -/
def State.step15 (s : State) (deferred : Bool) : Int :=
  let p := s.clock.correction
  let size := stepSize p (s.clock.cycle.getD 0) (s.stepBound (decide (0 < p)))
  if deferred = true ∧ p < 0 then 0 else if p < 0 then -(size : Int) else size

/-- The zero-step count and the hold after a boundary at which δ is 0 (R16). A count of 2 stands (log entry 13). -/
def Clock.countZeroStep (k : Clock) : Clock :=
  if k.correction = 0 then { k with zeroSteps := 0 }
  else if k.zeroSteps = 0 then { k with zeroSteps := 1 }
  else if k.zeroSteps = 1 then { k with zeroSteps := 2, hold := true }
  else k

/-- A step other than 0 applied to the clock (R15, R16). T is 0 at every boundary the machine reaches: a SYNC that sets T
withdraws a boundary still to be taken (log entry 22). -/
def Clock.applyStep (k : Clock) (d : Int) : Clock :=
  { k with corridorTime := modY d (k.cycle.getD 0), correction := k.correction - d, zeroSteps := 0 }

/-- A step other than 0: applied, counted and reported (R15). -/
def State.applyStep (s : State) (d : Int) : State :=
  (({ s with clock := s.clock.applyStep d }).countCorridor fun n =>
    { n with correctionsApplied := satAdd n.correctionsApplied 1 }).raise (.syncCorrection d (s.clock.correction - d))

/-- The step of R15 and the count of R16 at a boundary; answers whether T was moved. -/
def State.correct (s : State) (deferred : Bool) : Bool × State :=
  let d := s.step15 deferred
  if d = 0 then (false, { s with clock := s.clock.countZeroStep }) else (true, s.applyStep d)

/-! ### The cycle boundary (R18) -/

/-- What the plan store did at a boundary: nothing, an adoption, with whether Y changed, or a deferral. -/
inductive PlanOutcome where
  | nothing
  | adopted (cycleChanged : Bool)
  | deferred
deriving DecidableEq, Repr

/-- An adoption took place. -/
def PlanOutcome.isAdoption : PlanOutcome → Bool
  | .adopted _ => true
  | .nothing | .deferred => false

/-- An adoption that keeps Y, or no adoption, leaves the step of R15 to be drawn (R18 step 3). -/
def PlanOutcome.allowsStep : PlanOutcome → Bool
  | .adopted changed => !changed
  | .nothing | .deferred => true

/-- The plan store's handling of a boundary (R18 step 2, R38, R40): the pending selection adopted or deferred. -/
def State.planBoundary (s : State) : PlanOutcome × State :=
  match s.store.pendingSelection with
  | none => (.nothing, s)
  | some sel =>
    match s.store.header sel.base with
    | none => (.nothing, s)
    | some h =>
      let adopted := (PlanOutcome.adopted (decide (s.clock.cycle ≠ some h.cycle)), s.adopt sel h)
      if s.store.deferral then adopted
      else
        match s.failing sel h with
        | none => adopted
        | some f => (.deferred, s.deferAdoption sel f)

/-- The clock's own work after the plan store's (R18 steps 3 to 5); answers whether a step moved T. -/
def State.clockBoundary (s : State) (o : PlanOutcome) : Bool × State :=
  if s.clock.mode = .coordinated ∧ o.allowsStep = true then s.correct (decide (o = .deferred)) else (false, s)

/-- A group whose K, H or P an adoption changed is evaluated (R93). -/
def State.reviewGroup (before : Vector Group 4) (s : State) (g : GroupId) : State :=
  if (before[g]).stageLimit = (s.group g).stageLimit ∧ (before[g]).spacing = (s.group g).spacing ∧
      (before[g]).pairing = (s.group g).pairing then s
  else s.evaluateGroup g

/-- The evaluations that follow the work of a boundary (R5, R81, R93). R93 gives no order for several groups whose K, H or P
one adoption changed: the model takes them in ascending order, and before the crossings (DEDUCED: log entry 20). -/
def State.evaluateBoundary (s : State) (before : Vector Group 4) (timeStepped : Bool) : State :=
  let s := if timeStepped then { s with due := withoutBandEnds s.due } else s
  (allGroups.foldl (State.reviewGroup before) s).evaluateAll

/-- The work of a cycle boundary, in the order of R18. -/
def State.boundary (s : State) : State :=
  let plan := ({ s with clock := { s.clock with hold := false } }).planBoundary
  let clock := plan.2.clockBoundary plan.1
  clock.2.evaluateBoundary s.groups (plan.1.isAdoption || clock.1)

/-! ### The other clock events -/

/-- The watchdog's expiry (R13): in COORDINATED mode with the count at 3 × Y or more the corridor drops to FREE, which
is an evaluation event of its own (R81). -/
def State.expireWatchdog (s : State) : State :=
  if s.clock.mode = .coordinated ∧ 3 * s.clock.cycle.getD 0 ≤ s.clock.watchdog then
    (s.dropToFree .watchdog).evaluateAll
  else s

/-- The second's advance (R19): the phase returns to 0, the seconds advance, and the quiet flag is re-evaluated at a
change of minute (R20). -/
def State.advanceSecond (s : State) : State :=
  if s.clock.phase = 9 then
    let seconds := (s.clock.timeOfDay + 1) % 86400
    let s' := { s with clock := { s.clock with phase := 0, timeOfDay := seconds } }
    if seconds / 60 = s.clock.timeOfDay / 60 then s' else s'.reviewQuiet
  else s

/-- A band-end event in COORDINATED mode: the crossing's call is evaluated (R5, R81). -/
def State.bandEndEvent (c : CrossingId) (s : State) : State :=
  if s.clock.mode = .coordinated then s.evaluate c else s

/-! ### SYNC (R6, R8 to R11) -/

/-- The error e of a reference against T (R11): in -Y/2 < e ≤ Y/2. -/
def syncError (tref t y : Nat) : Int :=
  let e0 := modY ((tref : Int) - t) y
  if y < 2 * e0 then (e0 : Int) - y else e0

/-- Step 1 of R8: the time of day, and T_ref while a selection is in force, lie in range. -/
def State.syncInRange (s : State) (tref seconds : Nat) : Bool :=
  decide (seconds < 86400) && (s.store.inForce.isNone || decide (tref < s.clock.cycle.getD 0))

/-- What every accepted SYNC sets (R8, R12): the time of day and its flag, the watchdog, the count, the quiet flag. -/
def State.takeTimeOfDay (s : State) (seconds : Nat) : State :=
  (({ s with clock := { s.clock with timeOfDay := seconds, phase := 0, timeValid := true, watchdog := 0 } }).countCorridor
    fun n => { n with syncAccepted := satAdd n.syncAccepted 1 }).reviewQuiet

/-- T set by a SYNC. The next boundary comes when T next wraps: one announced at the last wrap and not yet taken is
withdrawn (R10; log entry 22). -/
def State.setTime (s : State) (tref : Nat) : State :=
  { s with clock := { s.clock with corridorTime := tref }, due := withoutBoundary s.due }

/-- Entry to COORDINATED (R6). -/
def State.enterCoordinated (s : State) (tref : Nat) : State :=
  let s := s.setTime tref
  (({ s with clock := { s.clock with mode := .coordinated, correction := 0, zeroSteps := 0 } }).raise
    (.modeChange .coordinated .sync)).timeStep

/-- T set in FREE mode (R10). -/
def State.setCorridorTime (s : State) (tref : Nat) : State := (s.setTime tref).timeStep

/-- An accepted SYNC's T_ref dealt with by mode (R9 to R11), with the clock result. -/
def State.takeReference (s : State) (tref : Nat) : ClockResult × State :=
  match s.clock.mode with
  | .free =>
    match s.store.headerInForce with
    | none => (.timeOfDayOnly, s)
    | some h =>
      if s.anyCoordinatedStage then (.notSet, s)
      else if h.coordination then (.entered, s.enterCoordinated tref)
      else (.set, s.setCorridorTime tref)
  | .coordinated =>
    let e := syncError tref s.clock.corridorTime (s.clock.cycle.getD 0)
    if e.natAbs ≤ 5 then (.inStep, { s with clock := { s.clock with correction := 0 } })
    else (.pending, { s with clock := { s.clock with correction := e } })

/-- An accepted SYNC and its reply (R8, R9). -/
def State.acceptSync (s : State) (tag : Byte) (tref seconds : Nat) : State :=
  let r := (s.takeTimeOfDay seconds).takeReference tref
  r.2.done tag (.sync r.1 r.2.clock.mode r.2.clock.corridorTime r.2.clock.correction)

/-- SYNC (R8): T_ref in two bytes and the time of day in four (section 12.3.1). -/
def executeSync (fr : Frame) (s : State) : State :=
  if fr.body.length = 6 then
    if s.syncInRange (readTwo fr.body 0) (readFour fr.body 2) then
      s.acceptSync fr.tag (readTwo fr.body 0) (readFour fr.body 2)
    else s.refuse fr.tag .outOfRange
  else s.refuse fr.tag .badLength

/-! ### Meanings -/

/-- SECOND_ADVANCE (R19). -/
def execSecondAdvance (s : State) : Host.Outcome State Fault Refusal :=
  .next (s.live fun s => s.take .secondAdvance State.advanceSecond)

/-- CYCLE_BOUNDARY (R18). -/
def execCycleBoundary (s : State) : Host.Outcome State Fault Refusal :=
  .next (s.live fun s => s.take .cycleBoundary State.boundary)

/-- BOUNDARY_DUE (R3): the boundary announced while no selection is in force, with T at 0. -/
def execBoundaryDue (s : State) : Host.Outcome State Fault Refusal :=
  .next (s.live fun s => s.take .boundaryDue State.boundary)

/-- BAND_END_EVENT (R5). -/
def execBandEndEvent (c : CrossingId) (s : State) : Host.Outcome State Fault Refusal :=
  .next (s.live fun s => s.take (.bandEnd c) (State.bandEndEvent c))

/-- WATCHDOG_EXPIRY (R13). -/
def execWatchdogExpiry (s : State) : Host.Outcome State Fault Refusal :=
  .next (s.live fun s => s.take .watchdog State.expireWatchdog)

/-- SYNC (R8). -/
def execSync (s : State) : Host.Outcome State Fault Refusal :=
  .next (s.live fun s => s.serve (Frame.isKind · 7) executeSync)

end Sys2Proof.Machine
end

