-- ==== Sys2Proof/Machine/CounterBank.lean ====
section
/-!
DEFINITION. The COUNTERS request (chapter 10): one block read whole, and cleared in the same event where asked.
-/

namespace Sys2Proof.Machine

/-- The counters of a crossing block in the order of section 10.1.1. -/
def CrossingCounters.values (n : CrossingCounters) : List Nat :=
  [n.callsRegistered, n.presses, n.extendedPresses, n.stages, n.accessibleStages, n.upgrades, n.truncatedStages,
   n.recallStages, n.linkedPlaced, n.linkedDropped, n.faults, n.wait0, n.wait150, n.wait300, n.wait450, n.wait600,
   n.wait900, n.maxWait]

/-- The counters of a unit block in the order of section 10.1.2. -/
def UnitCounters.values (n : UnitCounters) : List Nat :=
  [n.pollsMissed, n.badReplies, n.stuckEvents, n.samplesTaken, n.samplesAbandoned]

/-- The counters of the corridor block in the order of section 10.1.3. -/
def CorridorCounters.values (n : CorridorCounters) : List Nat :=
  [n.framesBad, n.framesDropped, n.noticesLost, n.syncAccepted, n.correctionsApplied, n.planAdoptions]

/-- The snapshot of a block (R174). -/
def Counters.snapshot (k : Counters) : BlockName → List Nat
  | .crossing c => (k.crossings[c]).values
  | .unit u => (k.units[u]).values
  | .corridor => k.corridor.values

/-- A block cleared whole (R174). -/
def Counters.clear (k : Counters) : BlockName → Counters
  | .crossing c => { k with crossings := change k.crossings c fun _ => {} }
  | .unit u => { k with units := change k.units u fun _ => {} }
  | .corridor => { k with corridor := {} }

/-- The block a request names, if in range (R173 step 1, section 12.3.1). The number given with CORRIDOR is not looked
at (log entry 16). -/
def readBlock (kindByte numberByte : Byte) : Option BlockName :=
  if kindByte.toNat = 1 then (numbered 8 numberByte).map .crossing
  else if kindByte.toNat = 2 then (numbered 32 numberByte).map .unit
  else if kindByte.toNat = 3 then some .corridor
  else none

/-- The block is a UNIT block whose address is unmapped (R173 step 2). -/
def State.lacksUnit (s : State) : BlockName → Bool
  | .unit u => (s.unit u).mapping.isNone
  | .crossing _ | .corridor => false

/-- A block read, and cleared where the flag says so (R174). -/
def State.readCounters (s : State) (tag : Byte) (b : BlockName) (clear : Bool) : State :=
  if s.lacksUnit b then s.refuse tag .noSuchUnit
  else
    ({ s with counters := if clear then s.counters.clear b else s.counters }).done tag
      (.counters b clear (s.counters.snapshot b))

/-- COUNTERS: block kind, number, clear flag (R173). A clear byte above 1 is refused with step 1, before NO_SUCH_UNIT: R173
makes no check of it, and R190 gives OUT_OF_RANGE and no place in the order (log entry 42). -/
def executeCounters (fr : Frame) (s : State) : State :=
  match fr.body with
  | [kindByte, numberByte, clearByte] =>
    match readBlock kindByte numberByte, readYesNo clearByte with
    | some b, some clear => s.readCounters fr.tag b clear
    | _, _ => s.refuse fr.tag .outOfRange
  | _ => s.refuse fr.tag .badLength

/-- COUNTERS (R173). -/
def execCounters (s : State) : Host.Outcome State Fault Refusal :=
  .next (s.live fun s => s.serve (Frame.isKind · 12) executeCounters)

end Sys2Proof.Machine
end

