-- ==== Sys2Proof/Machine/HostLink.lean ====
section
/-!
DEFINITION. The host link port's own events (chapter 11): the receiver, the request queue, requests of an unknown kind,
the report filter, RESTART, and the end of a frame on the line.
-/

namespace Sys2Proof.Machine

/-! ### The receiver (R176 to R178) -/

/-- A start byte arrives: in HUNT a frame begins; in COLLECTING the byte is data (R176). -/
def State.startFrame (s : State) : State := { s with host := { s.host with receiver := .collecting } }

/-- A bad frame: FRAMES_BAD rises (R176, R177). -/
def State.countBad (s : State) : State :=
  s.countCorridor fun n => { n with framesBad := satAdd n.framesBad 1 }

/-- The receiver back in HUNT. -/
def State.hunt (s : State) : State := { s with host := { s.host with receiver := .hunt } }

/-- A good frame offered to the request queue: it joins its back, or at a full queue is dropped and counted (R178). -/
def State.enqueue (s : State) (fr : Frame) : State :=
  if s.host.requests.length < 4 then { s with host := { s.host with requests := s.host.requests ++ [fr] } }
  else s.countCorridor fun n => { n with framesDropped := satAdd n.framesDropped 1 }

/-- The second check byte of a frame received (R176 to R178); bytes in HUNT are discarded. -/
def State.receiveFrame (bytes : List Byte) (s : State) : State :=
  match s.host.receiver with
  | .hunt => s
  | .collecting => if hostCheckGood bytes then s.hunt.enqueue (readHostFrame bytes) else s.hunt.countBad

/-- A frame abandoned (R176). -/
def State.abandonFrame (s : State) : State :=
  match s.host.receiver with
  | .hunt => s
  | .collecting => s.hunt.countBad

/-- The byte abandons a frame: a length above 240, or a missing stop bit (R176). -/
def abandons : AbandonCause → Bool
  | .lengthByte v => decide (240 < v.toNat)
  | .missingStopBit => true

/-! ### Requests the port executes itself (R179, R185, R187) -/

/-- The kind is none of the fourteen request kinds (R179, section 12.2). -/
def unknownKind (fr : Frame) : Bool := decide (fr.kind.toNat < 1) || decide (14 < fr.kind.toNat)

/-- A request of an unknown kind (R179). -/
def executeUnknown (fr : Frame) (s : State) : State := s.refuse fr.tag .unknownKind

/-- FILTER WRITE: index, valid mark, family, kind, crossing set; the entry written is the body of the reply (R185). -/
def executeFilterWrite (fr : Frame) (s : State) : State :=
  match fr.body with
  | [indexByte, validByte, family, kind, crossings] =>
    match numbered 16 indexByte, readYesNo validByte with
    | some i, some valid =>
      let e : FilterEntry := { valid := valid, family := family, kind := kind, crossings := crossings }
      if e.acceptable then
        ({ s with host := { s.host with filter := change s.host.filter i fun _ => e.encoded } }).done fr.tag
          (.filter e.encoded)
      else s.refuse fr.tag .outOfRange
    | _, _ => s.refuse fr.tag .outOfRange
  | _ => s.refuse fr.tag .badLength

/-- RESTART: an empty body; the reply is placed and the port enters restart hold (R187). -/
def executeRestart (fr : Frame) (s : State) : State :=
  match fr.body with
  | [] => ({ s with host := { s.host with restartHold := true } }).done fr.tag .restart
  | _ => s.refuse fr.tag .badLength

/-! ### The transmitter (R181, R187) -/

/-- The frame on the line is the RESTART reply. -/
def Transmission.isRestart (t : Transmission) : Bool :=
  match t.source with
  | .reply { content := .done .restart, .. } => true
  | _ => false

/-- In restart hold the RESTART reply is on the line: its end begins the restart (R187). -/
def HostPort.restarting (p : HostPort) : Bool := p.restartHold && p.transmission.any Transmission.isRestart

/-- The last byte of a frame has left the line (R181); the end of the RESTART reply is the row RESTART_BEGIN. -/
def State.endTransmission (s : State) : State :=
  if s.host.restarting then s else { s with host := { s.host with transmission := none } }

/-! ### Meanings -/

/-- HOST_FRAME_START (R176). -/
def execHostFrameStart (s : State) : Host.Outcome State Fault Refusal := .next (s.live State.startFrame)

/-- HOST_FRAME_RECEIVED (R177, R178): a whole frame, from its length byte to its second check byte. -/
def execHostFrameReceived (bytes : List Byte) (s : State) : Host.Outcome State Fault Refusal :=
  if wholeHostFrame bytes then .next (s.live (State.receiveFrame bytes)) else .fault .noSuchEvent

/-- FRAME_ABANDON (R176). -/
def execFrameAbandon (cause : AbandonCause) (s : State) : Host.Outcome State Fault Refusal :=
  if abandons cause then .next (s.live State.abandonFrame) else .fault .noSuchEvent

/-- FRAME_GAP_TIMEOUT (R176). -/
def execFrameGapTimeout (s : State) : Host.Outcome State Fault Refusal := .next (s.live State.abandonFrame)

/-- UNKNOWN_KIND (R179). -/
def execUnknownKind (s : State) : Host.Outcome State Fault Refusal :=
  .next (s.live fun s => s.serve unknownKind executeUnknown)

/-- FILTER_WRITE (R185). -/
def execFilterWrite (s : State) : Host.Outcome State Fault Refusal :=
  .next (s.live fun s => s.serve (Frame.isKind · 13) executeFilterWrite)

/-- RESTART (R187). -/
def execRestart (s : State) : Host.Outcome State Fault Refusal :=
  .next (s.live fun s => s.serve (Frame.isKind · 14) executeRestart)

/-- TRANSMIT_END (R181). -/
def execTransmitEnd (s : State) : Host.Outcome State Fault Refusal := .next (s.live State.endTransmission)

end Sys2Proof.Machine
end

