-- ==== Sys2Proof/Machine/Kerb.lean ====
section
/-!
DEFINITION. The kerb link master (chapter 8) with what its events tell the audible level block (chapter 9): polls,
replies and misses, unit states, press accounting, revival, samples delivered and taken, stale estimates.
-/

namespace Sys2Proof.Machine

/-! ### Polls (R136, R137, R141) -/

/-- The round visits the unit: mapped and not FAILED, or FAILED with its revival due (R137). -/
def KerbUnit.visited (k : KerbUnit) : Bool :=
  k.mapping.isSome && (decide (k.state ≠ .failed) || k.revivalDue)

/-- The unit the master polls next (R137): the lowest visited address above the one last polled, and otherwise the
lowest visited address. -/
def State.nextUnit (s : State) : Option UnitId :=
  let above := match s.kerb.lastPolled with
    | some p => allUnits.find? fun u => decide (p < u) && (s.unit u).visited
    | none => none
  match above with
  | some u => some u
  | none => allUnits.find? fun u => (s.unit u).visited

/-- The command frame to a unit of a crossing, from values as they stand (R141). -/
def State.buildCommand (s : State) (u : UnitId) (c : CrossingId) : KerbCommand :=
  let k := s.unit u
  let x := s.crossing c
  let indication := indicationOf x (s.callOf c).isSome
  { address := u, indication := indication
    pattern := match x.record with
      | some r => r.walkPattern
      | none => 0
    locatorLevel := if indication = .dark then 0 else k.audible.locatorLevel
    walkLevel := if indication = .dark then 0 else k.audible.walkLevel
    mute := !k.audible.muteSet.isEmpty
    action := k.pendingAction }

/-- A transaction begun with a command: what R164 will ask of its reply is noted as the command is built. -/
def Transaction.begin (k : KerbCommand) (sample : Option Sample) : Transaction :=
  { command := k, bytes := k.bytes, windowOpen := false, void := false, actionLive := k.action.isSome, beforeWalk := false
    builtClosed := match sample with
      | some { phase := .closed _ _, .. } => true
      | _ => false
    builtAfterTick := match sample with
      | some { phase := .closed _ passed, .. } => passed
      | _ => false }

/-- A unit polled: its revival is no longer due, and the command sent is held as its last (R139, R141). -/
def State.pollUnit (s : State) (u : UnitId) (c : CrossingId) : State :=
  let k := s.buildCommand u c
  { s.changeUnit u (fun e => { e with lastCommand := some k, revivalDue := false }) with
    kerb := { s.kerb with lastPolled := some u, transaction := some (.begin k (s.sampleOf u)), ended := none } }

/-- The master's choice and the command it begins to send; with no unit to visit the round has ended, and the master
rests until the next decisecond event (R137). -/
def State.poll (s : State) : State :=
  if s.kerb.transaction.isSome || s.kerb.resting then s
  else
    match s.nextUnit with
    | none => { s with kerb := { s.kerb with lastPolled := none, resting := true } }
    | some u =>
      match (s.unit u).crossing with
      | none => s
      | some c => s.pollUnit u c

/-- The reply window opens as the command's last byte has been sent (R136). -/
def State.openWindow (s : State) : State :=
  { s with kerb := { s.kerb with transaction := s.kerb.transaction.map fun t => { t with windowOpen := true } } }

/-! ### Changes of unit state (R138 to R140) -/

/-- UNIT_STATE, with the unit's crossing and side (R140). -/
def State.raiseUnitState (s : State) (u : UnitId) (m : Mapping) (before after : Option UnitState) (cause : UnitCause) : State :=
  s.raise (.unitState u m.crossing m.side before after cause)

/-- What follows a change of a unit's state: UNIT_STATE, and the loss of its sample where it leaves ONLINE, in whatever
phase (R140, R166). A miss in place of the reply that completes a CLOSED sample takes the unit out of ONLINE, and so
loses the sample as R166 says, though R164 says that such a miss leaves it CLOSED (log entry 43). The working buttons
follow at the end of the event (R148). -/
def State.reportUnit (s : State) (u : UnitId) (m : Mapping) (before : UnitState) (cause : UnitCause) : State :=
  let after := (s.unit u).state
  if after = before then s
  else
    let s := s.raiseUnitState u m (some before) (some after) cause
    if before = .online then s.loseSample u (decide (after ≠ .failed)) else s

/-- The revival schedule cleared (R139). -/
def KerbUnit.clearRevival (k : KerbUnit) : KerbUnit :=
  { k with revivalPosition := 0, nextRevival := none, revivalDue := false }

/-- A good reply's change of state and counts (R138). -/
def KerbUnit.good (k : KerbUnit) : KerbUnit :=
  match k.state with
  | .joining =>
    { k with goods := k.goods + 1, misses := 0, state := if 3 ≤ k.goods + 1 then .online else .joining }
  | .online => { k with goods := min (k.goods + 1) 3, misses := 0 }
  | .suspect => { k with goods := 1, misses := 0, state := .online }
  | .failed => { k.clearRevival with goods := 1, misses := 0, state := .joining }

/-- The cause UNIT_STATE gives a change made by a good reply (R140). -/
def goodCause : UnitState → UnitCause
  | .failed => .revival
  | .joining | .online | .suspect => .good

/-- Entry to FAILED (R138, R139, R142, R150): the counts become 0, the held-now report is taken as false, the sounding
mark and the pending action go, and the revival schedule starts. -/
def KerbUnit.fail (k : KerbUnit) (now : Time) : KerbUnit :=
  { k with
    state := .failed, misses := 0, goods := 0, heldNow := false, heldTime := 0, sounding := false, pendingAction := none
    revivalPosition := 0, nextRevival := some (later now 10), revivalDue := false }

/-- The deciseconds from the revival time at a position to the one after it (R139). -/
def revivalStep : Nat → Nat
  | 0 => 10
  | 1 => 20
  | 2 => 40
  | 3 => 80
  | _ => 160

/-- A miss on a revival poll: the position advances, and a successor whose time has passed is due at once (R139). -/
def KerbUnit.reviveLater (k : KerbUnit) (now : Time) : KerbUnit :=
  match k.nextRevival with
  | none => k
  | some t =>
    let next := later t (revivalStep k.revivalPosition)
    { k with revivalPosition := min (k.revivalPosition + 1) 5, nextRevival := some next, revivalDue := reached now next }

/-- A miss's change of state and counts (R138). -/
def KerbUnit.miss (k : KerbUnit) (now : Time) : KerbUnit :=
  match k.state with
  | .joining =>
    if 6 ≤ k.misses + 1 then k.fail now else { k with misses := k.misses + 1, goods := 0 }
  | .online => { k with misses := 1, goods := 0, state := .suspect }
  | .suspect => if 6 ≤ k.misses + 1 then k.fail now else { k with misses := k.misses + 1 }
  | .failed => k.reviveLater now

/-- A miss of the unit polled (R136, R138): counted by its class, its state and counts changed, and its crossing's
working buttons recomputed where its state changed. -/
def State.missUnit (s : State) (u : UnitId) (badReply : Bool) : State :=
  let s := s.countUnit u fun n =>
    { n with pollsMissed := satAdd n.pollsMissed 1, badReplies := satAdd n.badReplies (if badReply then 1 else 0) }
  let k := s.unit u
  match k.mapping with
  | none => s
  | some m =>
    let s := s.changeUnit u fun e => e.miss s.clock.now
    if (s.unit u).state = k.state then s else (s.reportUnit u m k.state .miss).reviewWorking m.crossing

/-! ### Samples (R162, R164, R165) -/

/-- A sample taken at a unit (R165): the estimate, the last taken start and the sample-due time, the report, and the
record's removal. -/
def Audible.take (a : Audible) (start : Time) (interval level : Nat) (short earlyEnd : Bool) : Audible :=
  { a with
    estimate := some (nextEstimate a level), stale := false, lastStart := some start, dueTime := later start interval
    report := some (.taken level short earlyEnd), sample := none }

/-- AMBIENT_STALE, with the estimate and the time since the last taken start as they stand (R167). -/
def State.raiseStale (s : State) (u : UnitId) (stale : Bool) : State :=
  let k := s.unit u
  match k.mapping, k.audible.estimate with
  | some m, some e =>
    s.raise (.ambientStale u m.crossing m.side stale e (k.audible.lastStart.map (reportedSince s.clock.now)))
  | _, _ => s

/-- A sample taken (R165), reported as a recovery where the estimate was stale (R167). -/
def State.takeSample (s : State) (u : UnitId) (start : Time) (level : Nat) (short earlyEnd : Bool) : State :=
  let wasStale := (s.unit u).audible.stale
  let s := (s.changeAudible u fun a => a.take start s.sampleInterval level short earlyEnd).relevel u
  let s := s.countUnit u fun n => { n with samplesTaken := satAdd n.samplesTaken 1 }
  if wasStale then s.raiseStale u false else s

/-- The reply completes a CLOSED sample (R164). -/
def Transaction.completes (t : Transaction) (k : Sample) (r : KerbReply) : Bool :=
  t.builtClosed && (k.earlyEnd || r.sample.isSome || t.builtAfterTick)

/-- What a good reply's ambient sample and FRESH mark do at the unit's sample (R143 step 5, R164, R166). -/
def State.sampleReply (s : State) (u : UnitId) (t : Transaction) (r : KerbReply) : State :=
  match s.sampleOf u with
  | none => s
  | some k =>
    match k.phase with
    | .requested => s
    | .measuring _ => if r.fresh then s.loseSample u true else s
    | .closed start _ =>
      if r.fresh then s.loseSample u true
      else if t.completes k r then
        match r.sample with
        | some (level, short) => s.takeSample u start level short k.earlyEnd
        | none => s.loseSample u false
      else s

/-- An action delivered: START moves a REQUESTED sample to MEASURING (R162); END and CANCEL change nothing more. -/
def State.delivered (s : State) (u : UnitId) (a : SampleAction) : State :=
  match a, s.sampleOf u with
  | .start, some { phase := .requested, .. } =>
    s.changeAudible u fun q => { q with sample := q.sample.map fun k => { k with phase := .measuring s.clock.now } }
  | _, _ => s

/-- The pending action the command carried is delivered, unless it has been replaced since (R142, R143 step 6). -/
def State.deliver (s : State) (u : UnitId) : State :=
  match s.kerb.transaction with
  | some t =>
    match t.command.action with
    | some a =>
      if t.actionLive then (s.changeUnit u fun k => { k with pendingAction := none }).delivered u a else s
    | none => s
  | none => s

/-! ### Stuck buttons, speaker checks and presses (R144 to R147) -/

/-- The stuck flag after a good reply (R146). -/
def stuckAfter (r : Option Record) (stuck : Bool) (p : KerbReply) : Bool :=
  if stuck then p.heldNow
  else
    match r with
    | some r => p.heldNow && decide (r.stuckThreshold ≤ 10 * p.heldTime)
    | none => false

/-- The stuck flag judged, with what was last reported of the button (R143 step 2, R146). -/
def State.judgeStuck (s : State) (u : UnitId) (m : Mapping) (p : KerbReply) : State :=
  let before := (s.unit u).stuck
  let after := stuckAfter (s.crossing m.crossing).record before p
  let s := s.changeUnit u fun k => { k with heldNow := p.heldNow, heldTime := p.heldTime, stuck := after }
  if after = before then s
  else
    (s.countUnit u fun n => { n with stuckEvents := satAdd n.stuckEvents (if after then 1 else 0) }).raise
      (.buttonStuck u m.crossing m.side after p.heldTime)

/-- The audio-fault flag set from the speaker check (R143 step 3, R147). -/
def State.judgeAudio (s : State) (u : UnitId) (m : Mapping) (p : KerbReply) : State :=
  if (s.unit u).audioFault = p.speakerFail then s
  else
    (s.changeUnit u fun k => { k with audioFault := p.speakerFail }).raise
      (.audioFault u m.crossing m.side p.speakerFail)

/-- The new presses of a counter (R144). -/
def newPresses (baseline : Option Nat) (fresh : Bool) (reported : Nat) : Nat :=
  match baseline with
  | none => 0
  | some b => if fresh then reported else modY ((reported : Int) - b) 256

/-- The counters accounted, and new presses handed over where R145 allows (R143 step 4). `found` is the entry as the
reply found it. -/
def State.accountPresses (s : State) (u : UnitId) (m : Mapping) (found : KerbUnit) (r : KerbReply) : State :=
  let p := newPresses found.pressBaseline r.fresh r.presses
  let x := newPresses found.extendedBaseline r.fresh r.extended
  let stuckNow := (s.unit u).stuck
  let s := s.changeUnit u fun k => { k with pressBaseline := some r.presses, extendedBaseline := some r.extended }
  if (found.state = .online ∨ found.state = .suspect) ∧ found.stuck = false ∧ stuckNow = false ∧ (0 < p ∨ 0 < x) then
    s.handOver m.crossing m.side p x
  else s

/-! ### The outcome of a transaction (R136, R143) -/

/-- A good reply to the command ends the unit's sounding: the command carried an indication other than WALK, and was not
built before the walk that the crossing has begun since (R150). -/
def Transaction.endsSounding (t : Transaction) : Bool := decide (t.command.indication ≠ .walk) && !t.beforeWalk

/-- The handling of a good reply from a mapped unit, in the order of R143. -/
def State.goodReply (s : State) (u : UnitId) (m : Mapping) (t : Transaction) (r : KerbReply) : State :=
  let found := s.unit u
  let s := (s.changeUnit u KerbUnit.good).reportUnit u m found.state (goodCause found.state)
  let s := s.judgeStuck u m r
  let s := s.judgeAudio u m r
  let s := s.accountPresses u m found r
  let s := s.sampleReply u t r
  let s := s.deliver u
  let s := if t.endsSounding then s.changeUnit u fun k => { k with sounding := false } else s
  if (s.unit u).state = found.state ∧ (s.unit u).stuck = found.stuck then s else s.reviewWorking m.crossing

/-- The transaction in flight is over; `ended` is its unit where late bytes would count against it (R136). -/
def State.endTransaction (s : State) (ended : Option UnitId) : State :=
  { s with kerb := { s.kerb with transaction := none, ended := ended } }

/-- The transaction whose reply window is open, if any. -/
def State.awaiting (s : State) : Option Transaction :=
  match s.kerb.transaction with
  | some t => if t.windowOpen then some t else none
  | none => none

/-- The address byte of a reply is that of the unit polled. -/
def Transaction.answeredBy (t : Transaction) (frame : List Byte) : Bool :=
  decide (frame.getD 1 0 = number t.command.address)

/-- A miss ends the transaction; a void one is discarded and counted nowhere (R136, R151). -/
def State.endInMiss (s : State) (t : Transaction) (badReply counted : Bool) : State :=
  let u := t.command.address
  if t.void then s.endTransaction none
  else (s.missUnit u badReply).endTransaction (if counted then some u else none)

/-- A complete good reply within the window (R136, R143). -/
def State.receiveGood (frame : List Byte) (s : State) : State :=
  match s.awaiting with
  | none => s
  | some t =>
    let u := t.command.address
    if t.answeredBy frame then
      if t.void then s.endTransaction none
      else
        match (s.unit u).mapping with
        | none => s.endTransaction none
        | some m => (s.goodReply u m t (readKerbReply frame)).endTransaction (some u)
    else s

/-- A complete reply within the window whose check or address is wrong (R136). -/
def State.receiveBad (frame : List Byte) (s : State) : State :=
  match s.awaiting with
  | none => s
  | some t => if kerbCheckGood frame && t.answeredBy frame then s else s.endInMiss t true true

/-- The reply window closes without a complete frame (R136). -/
def State.closeWindow (w : WindowContent) (s : State) : State :=
  match s.awaiting with
  | none => s
  | some t => s.endInMiss t (decide (w ≠ .nothing)) (decide (w ≠ .arriving))

/-- Late bytes after the end of a transaction, before the next command (R136). -/
def State.lateBytes (s : State) : State :=
  match s.kerb.transaction, s.kerb.ended with
  | none, some u =>
    { s.countUnit u (fun n => { n with badReplies := satAdd n.badReplies 1 }) with kerb := { s.kerb with ended := none } }
  | _, _ => s

/-- A FAILED unit's revival falls due (R139). -/
def State.reviveUnit (u : UnitId) (s : State) : State :=
  let k := s.unit u
  match k.nextRevival with
  | some t =>
    if k.state = .failed ∧ reached s.clock.now t = true then s.changeUnit u fun k => { k with revivalDue := true } else s
  | none => s

/-! ### Sample windows and stale estimates (R164, R167) -/

/-- The window of a MEASURING sample closes at 20 ds (R164). -/
def State.closeSample (u : UnitId) (s : State) : State :=
  match s.sampleOf u with
  | some { phase := .measuring start, .. } =>
    if 20 ≤ since s.clock.now start then s.closeSampleWindow u start else s
  | _ => s

/-- The stale test of a unit, while a selection is in force (R167). -/
def State.isStale (s : State) (u : UnitId) : Bool :=
  let a := (s.unit u).audible
  s.store.inForce.isSome && a.estimate.isSome && !a.stale &&
  (match a.lastStart with
  | some t => decide (3 * s.sampleInterval ≤ since s.clock.now t)
  | none => false)

/-- A unit's estimate becomes stale: its levels are recomputed and AMBIENT_STALE is sent (R167). -/
def State.becomeStale (u : UnitId) (s : State) : State :=
  if s.isStale u then ((s.changeAudible u fun a => { a with stale := true }).relevel u).raiseStale u true else s

/-! ### Meanings -/

/-- POLL_COMMAND (R137). -/
def execPollCommand (s : State) : Host.Outcome State Fault Refusal := .next (s.live State.poll)

/-- REPLY_WINDOW_OPEN (R136). -/
def execReplyWindowOpen (s : State) : Host.Outcome State Fault Refusal := .next (s.live State.openWindow)

/-- GOOD_REPLY (R143): nine bytes whose check agrees. -/
def execGoodReply (frame : List Byte) (s : State) : Host.Outcome State Fault Refusal :=
  if wholeKerbReply frame && kerbCheckGood frame then .next (s.live (State.receiveGood frame)) else .fault .noSuchEvent

/-- BAD_REPLY (R136): nine bytes whose check or address is wrong. -/
def execBadReply (frame : List Byte) (s : State) : Host.Outcome State Fault Refusal :=
  if wholeKerbReply frame then .next (s.live (State.receiveBad frame)) else .fault .noSuchEvent

/-- REPLY_WINDOW_CLOSE (R136). -/
def execReplyWindowClose (w : WindowContent) (s : State) : Host.Outcome State Fault Refusal :=
  .next (s.live (State.closeWindow w))

/-- LATE_BYTES (R136). -/
def execLateBytes (s : State) : Host.Outcome State Fault Refusal := .next (s.live State.lateBytes)

/-- REVIVAL_DUE (R139). -/
def execRevivalDue (u : UnitId) (s : State) : Host.Outcome State Fault Refusal :=
  .next (s.live fun s => s.take (.revival u) (State.reviveUnit u))

/-- SAMPLE_WINDOW_CLOSE (R164). -/
def execSampleWindowClose (u : UnitId) (s : State) : Host.Outcome State Fault Refusal :=
  .next (s.live fun s => s.take (.windowClose u) (State.closeSample u))

/-- AMBIENT_STALE (R167). -/
def execAmbientStale (u : UnitId) (s : State) : Host.Outcome State Fault Refusal :=
  .next (s.live fun s => s.take (.stale u) (State.becomeStale u))

end Sys2Proof.Machine
end

