-- ==== Sys2Proof/Machine/Plans.lean ====
section
/-!
DEFINITION. The plan store's requests (chapter 2): PLAN WRITE with its slot writes and header re-check, PLAN READ and
PLAN SELECT.
-/

namespace Sys2Proof.Machine

/-! ### Slot writes (R25 to R32) -/

/-- What validation says of an offered record (R30). -/
inductive Validated where
  | valid (item : SlotItem)
  | refused (reason : RecordReason)
deriving DecidableEq, Repr

/-- A crossing record offered for slot c, checked by R27 and then against its bank's header by R28. -/
def validateRecord (header : Option Header) (c : CrossingId) (l : List Byte) : Validated :=
  match offeredRecord l with
  | none => .refused .range
  | some r =>
    match checkAtWrite header c r with
    | some reason => .refused reason
    | none => .valid (.record c r)

/-- The content offered for a slot of a bank, validated against the bank's header as it stands (R25, R27, R28, R30). -/
def PlanStore.validate (p : PlanStore) (b : BankId) (slot : Nat) (l : List Byte) : Validated :=
  match numbered 8 (byte slot) with
  | some c => validateRecord (p.header b) c l
  | none =>
    match offeredHeader l with
    | some h => .valid (.header h)
    | none => .refused .range

/-- One bank changed. -/
def PlanStore.changeBank (p : PlanStore) (b : BankId) (f : Bank → Bank) : PlanStore :=
  { p with banks := change p.banks b f }

/-- The slot of a content in a bank made absent, as its write begins (R31). -/
def Bank.beginSlot (k : Bank) : SlotItem → Bank
  | .header _ => { k with header := k.header.absent }
  | .record c _ => { k with records := change k.records c Slot.absent }

/-- A slot holding a written content: its mark set and its check value in agreement (R31). -/
def Slot.written {α : Type} (a : α) : Slot α := { content := some a, mark := true, intact := true }

/-- A present crossing record that fails R28 against a header is made absent (R32). -/
def prunedSlot (h : Header) (c : CrossingId) (s : Slot Record) : Slot Record :=
  match s.present with
  | some r => if (checkAtWrite (some h) c r).isSome then s.absent else s
  | none => s

/-- The header re-check makes this slot absent (R32). -/
def prunes (h : Header) (c : CrossingId) (s : Slot Record) : Bool :=
  match s.present with
  | some r => (checkAtWrite (some h) c r).isSome
  | none => false

/-- The end of a slot's write: the content stands with its mark set, and a header's re-check has been made (R31,
R32). -/
def Bank.finishSlot (k : Bank) : SlotItem → Bank
  | .header h => { header := .written h, records := rewrite k.records fun c s => prunedSlot h c s }
  | .record c r => { k with records := change k.records c fun _ => .written r }

/-- The number of crossing records a content's re-check makes absent; none where it is no header (R32, R33). -/
def Bank.pruneCount (k : Bank) : SlotItem → Nat
  | .header h => (allCrossings.filter fun c => prunes h c (k.records[c])).length
  | .record _ _ => 0

/-- The reply to a PLAN WRITE that passed R29 (R33); its execution ends. -/
def State.planWriteDone (s : State) (w : WriteRun) (stoppedAt : Option Nat) (reason : Option RecordReason) : State :=
  ({ s with host := { s.host with executing := none } }).done w.tag
    (.planWrite w.written (w.count - w.written) stoppedAt reason w.pruned)

/-- The turn of the record for a slot: it is validated, and its 8 ms write begins with its mark cleared, or the
transfer stops; with no record left the reply is made (R30, R31, R33). `w` carries what has been written so far. -/
def State.nextRecord (s : State) (w : WriteRun) (slot : Nat) : State :=
  match w.rest with
  | [] => s.planWriteDone w none none
  | l :: rest =>
    match s.store.validate w.bank slot l with
    | .refused reason => s.planWriteDone w (some slot) (some reason)
    | .valid item =>
      { s with
        store := s.store.changeBank w.bank fun k => k.beginSlot item
        host := { s.host with executing := some { w with item := item, rest := rest } } }

/-- The end of a slot's write, then the next record's turn (R30 to R33). -/
def State.slotWriteDone (s : State) : State :=
  match s.host.executing with
  | none => s
  | some w =>
    let pruned := ((s.store.banks)[w.bank]).pruneCount w.item
    ({ s with store := s.store.changeBank w.bank fun k => k.finishSlot w.item }).nextRecord
      { w with written := w.written + 1, pruned := w.pruned + pruned } (w.item.slot + 1)

/-- The bytes of the records for slots from `first` on (section 12.3.1): 33 for a header, 35 for a crossing record. -/
def slotSize (slot : Nat) : Nat := if slot = 0 then 33 else 35

/-- The length of `n` records for the slots from `first` on (R29). -/
def recordsLength : Nat → Nat → Nat
  | _, 0 => 0
  | first, n + 1 => slotSize first + recordsLength (first + 1) n

/-- The bytes of a PLAN WRITE's records, record by record. -/
def cutRecords : Nat → Nat → List Byte → List (List Byte)
  | _, 0, _ => []
  | first, n + 1, l => l.take (slotSize first) :: cutRecords (first + 1) n (l.drop (slotSize first))

/-- Step 1 of R29: the first slot is 0 to 8, the count 1 to 9, and the last slot at most 8. -/
def slotsInRange (first n : Nat) : Bool := decide (first ≤ 8) && decide (1 ≤ n) && decide (n ≤ 9) && decide (first + n ≤ 9)

/-- A content that stands in a write run until its first record has been validated. -/
def WriteRun.start (tag : Byte) (bank : BankId) (h : SlotItem) (records : List (List Byte)) : WriteRun :=
  { tag := tag, bank := bank, count := records.length, item := h, rest := records, written := 0, pruned := 0 }

/-- A content with every field 0, read from no bytes; it is replaced before a write run is held. -/
def SlotItem.blank : SlotItem := .header (readHeader [])

/-- PLAN WRITE (R29, R30). -/
def executePlanWrite (fr : Frame) (s : State) : State :=
  match fr.body with
  | bankByte :: firstByte :: countByte :: records =>
    match numbered 4 bankByte with
    | none => s.refuse fr.tag .outOfRange
    | some bank =>
      if !slotsInRange firstByte.toNat countByte.toNat then s.refuse fr.tag .outOfRange
      else if records.length ≠ recordsLength firstByte.toNat countByte.toNat then s.refuse fr.tag .badLength
      else if s.store.inUse bank then s.refuse fr.tag .bankInUse
      else
        s.nextRecord (.start fr.tag bank .blank (cutRecords firstByte.toNat countByte.toNat records)) firstByte.toNat
  | _ => s.refuse fr.tag .badLength

/-! ### PLAN READ (R34) -/

/-- The content of a slot of a bank, if present (R23, R34). -/
def PlanStore.slotContent (p : PlanStore) (b : BankId) (slot : Nat) : Option SlotItem :=
  match numbered 8 (byte slot) with
  | some c => ((p.banks[b]).records[c]).present.map (.record c)
  | none => (p.header b).map .header

/-- PLAN READ (R34). -/
def executePlanRead (fr : Frame) (s : State) : State :=
  match fr.body with
  | [bankByte, slotByte] =>
    match numbered 4 bankByte with
    | none => s.refuse fr.tag .outOfRange
    | some bank =>
      if 8 < slotByte.toNat then s.refuse fr.tag .outOfRange
      else s.done fr.tag (.planRead (s.store.slotContent bank slotByte.toNat) (s.store.standing bank))
  | _ => s.refuse fr.tag .badLength

/-! ### PLAN SELECT (R36, R37) -/

/-- The selection two bytes name, if in range (R36 step 1, R24). -/
def readSelection (baseByte overlayByte : Byte) : Option Selection :=
  match numbered 4 baseByte with
  | none => none
  | some base =>
    if overlayByte.toNat = 0 then some { base := base, overlay := none }
    else
      match numbered 4 overlayByte with
      | none => none
      | some overlay => if overlay = base then none else some { base := base, overlay := some overlay }

/-- An accepted selection becomes pending; with none in force the clock's boundary-due flag is set (R37, R3). -/
def State.acceptSelection (s : State) (sel : Selection) : State :=
  { s with
    store := { s.store with pendingSelection := some sel }
    clock := { s.clock with boundaryDue := s.clock.boundaryDue || s.store.inForce.isNone } }

/-- A selection in range checked against its base header, and accepted or refused (R36, R37). -/
def State.select (s : State) (tag : Byte) (sel : Selection) : State :=
  match s.store.header sel.base with
  | none => s.refuse tag .notApplicable
  | some h =>
    match s.store.misfit sel h with
    | some (c, reason) => s.refuse tag (.misfit c reason)
    | none => (s.acceptSelection sel).done tag (.planSelect sel s.store.inForce)

/-- PLAN SELECT (R36, R37). -/
def executePlanSelect (fr : Frame) (s : State) : State :=
  match fr.body with
  | [baseByte, overlayByte] =>
    match readSelection baseByte overlayByte with
    | none => s.refuse fr.tag .outOfRange
    | some sel => s.select fr.tag sel
  | _ => s.refuse fr.tag .badLength

/-! ### Meanings -/

/-- PLAN_WRITE (R29). -/
def execPlanWrite (s : State) : Host.Outcome State Fault Refusal :=
  .next (s.live fun s => s.serve (Frame.isKind · 4) executePlanWrite)

/-- SLOT_WRITE_DONE (R31). -/
def execSlotWriteDone (s : State) : Host.Outcome State Fault Refusal := .next (s.live State.slotWriteDone)

/-- PLAN_READ (R34). -/
def execPlanRead (s : State) : Host.Outcome State Fault Refusal :=
  .next (s.live fun s => s.serve (Frame.isKind · 5) executePlanRead)

/-- PLAN_SELECT (R36). -/
def execPlanSelect (s : State) : Host.Outcome State Fault Refusal :=
  .next (s.live fun s => s.serve (Frame.isKind · 6) executePlanSelect)

end Sys2Proof.Machine
end

