-- ==== Sys2Proof/Machine/Reports.lean ====
section
/-!
DEFINITION. The three status reports (R186, R119 with R133, R152 with R168): their items, in the order the owning rules
list them, and the requests STATUS, CROSSING STATUS and UNIT STATUS.
-/

namespace Sys2Proof.Machine

/-! ### STATUS (R21, R45, R98, R186) -/

/-- The clock's values (R21). -/
def Clock.items (k : Clock) : List Byte :=
  k.mode.code :: (two k.corridorTime ++ twoOrNone k.cycle ++ four k.timeOfDay ++ yesNo k.timeValid ::
    (signedTwo k.correction ++ yesNo k.hold :: two k.watchdog))

/-- The selections and the deferral mark (R45). -/
def PlanStore.items (p : PlanStore) : List Byte :=
  selectionBytes p.inForce ++ selectionBytes p.pendingSelection ++ [yesNo p.deferral]

/-- A group's values (R98). K and P take two bytes each, although section 12.3.2 lays each out in one byte of a header (log
entry 9). -/
def Group.items (g : Group) (now : Time) : List Byte :=
  two g.stageLimit ++ two g.spacing ++ two g.pairing ++ two g.active ++ two (reportedSince now g.release) ++
    two (reportedSince now g.quietSince) ++ yesNo (g.windowOpen now) :: twoOrNone (g.spacingExpiry.map (untilTime now))

/-- The items of STATUS (R186). -/
def State.statusItems (s : State) : List Byte :=
  s.clock.items ++ s.store.items ++ (allGroups.flatMap fun g => (s.group g).items s.clock.now) ++
    two s.host.notices.length ++ (s.host.filter.toList.flatMap FilterEntry.bytes) ++ [yesNo s.host.noticesLost]

/-- STATUS: an empty body; the notices-lost flag is reported and cleared (R186). -/
def executeStatus (fr : Frame) (s : State) : State :=
  match fr.body with
  | [] => ({ s with host := { s.host with noticesLost := false } }).done fr.tag (.report s.statusItems)
  | _ => s.refuse fr.tag .badLength

/-! ### CROSSING STATUS (R45, R64, R79, R98, R119, R133, R168) -/

/-- A green timer with its expired mark, where the crossing is in VEH_GREEN (R119). -/
def greenItems : Option GreenTimer → List Byte
  | some g => two g.left ++ [yesNo g.expired]
  | none => []

/-- The slack of a coordinated stage: the gap to the next band start less the remaining time; none where the crossing
has no band (R69, R79). -/
def State.slack (s : State) (x : Crossing) (k : Stage) : Option Int :=
  match k.kind, x.record with
  | .coordinated, some r =>
    if 0 < r.bandLen then
      some ((gapFrom r (s.clock.cycle.getD 0) (s.localTimeOf r) : Int) - x.remaining k)
    else none
  | _, _ => none

/-- The fields of a stage context as they are reported (R79). The length L and the accessible speed S_a, for which section
12.2 has no row, take two bytes each, as every other number of the context does (the model's choice, log entry 9). -/
def Stage.items (k : Stage) (now : Time) : List Byte :=
  [k.kind.code, numberOrNone k.group] ++ two (saturate (k.elapsed now)) ++ two (reportedSince now k.registeredAt) ++
  [k.sides.code, k.origins.code, yesNo k.accessible] ++ two k.pressCount ++ two k.amber ++ two k.leadRed ++
  two k.trailRed ++ two k.walk ++ two k.desiredWalk ++ two k.clearance ++ two k.walkFloor ++ two k.length ++
  two k.accessibleSpeed ++ two k.margin ++ two k.walkExtra ++ [yesNo k.truncated, yesNo k.upgraded] ++ two k.extraWalk

/-- The report on a crossing's stage context: whether there is one, its fields, the remaining time, the current
interval with its time left, and the slack of a coordinated stage that has a band (R79). The current interval is given
by the number of its crossing state, VEH_AMBER 5 to TRAIL_RED 9, and the slack, for which section 12.2 has no row, is sent
signed in two bytes, as a step is (both the model's choice, log entry 9). -/
def State.stageItems (s : State) (x : Crossing) : List Byte :=
  match x.stage with
  | none => [0]
  | some k =>
    1 :: (k.items s.clock.now ++ two (x.remaining k) ++ x.state.code :: (twoOrNone x.timeLeft ++
      (match s.slack x k with
      | some d => signedTwo d
      | none => [])))

/-- The place of a crossing's record in the list, from 1 (R64). -/
def State.placeOf (s : State) (c : CrossingId) : Nat := (s.calls.findIdx fun r => decide (r.crossing = c)) + 1

/-- The report on a crossing's call record: whether there is one, its place and every field of it (R64). The place, for
which section 12.2 has no row, takes one byte (log entry 9). -/
def State.callItems (s : State) (c : CrossingId) : List Byte :=
  match s.callOf c with
  | none => [0]
  | some r => 1 :: byte (s.placeOf c) :: (r.report s.clock.now).bytes

/-- An output's commanded mode, commanded value and proved value (R133); the two values are sent as a yes/no is, on 1 and
off 0 (the model's choice, log entry 9). -/
def OutputLine.items (o : OutputLine) : List Byte := [o.mode.code, yesNo o.value, yesNo o.proved]

/-- A mismatch timer's count and sense (R133). -/
def OutputLine.timerItems (o : OutputLine) : List Byte := two o.mismatch ++ [senseCode o.sense]

/-- The signal port's values (R133). -/
def SignalPort.items (p : SignalPort) : List Byte :=
  (allLamps.flatMap fun l => (lampAt p.lines l).items) ++ p.flash.bytes ++
    (allLamps.flatMap fun l => (lampAt p.lines l).timerItems) ++ two p.conflict

/-- Whether a crossing has an in-force record and which bank supplied it (R45). -/
def recordItems : Option InForce → List Byte
  | some f => [1, number f.bank]
  | none => [0, 0]

/-- The items of CROSSING STATUS (R119, R133, R168). No rule says where the accessible mark of R168 stands beside the items
of R133: it is sent after the stage context and before them (the model's choice, log entry 9). -/
def State.crossingItems (s : State) (c : CrossingId) : List Byte :=
  let x := s.crossing c
  x.state.code :: (two x.timeInState ++ twoOrNone x.timeLeft ++ greenItems x.green ++
    [yesNo x.closingAmber, targetCode x.pendingTarget, yesNo x.inService] ++
    twoOrNone (x.recallTimer.map (untilTime s.clock.now)) ++ [x.faults.code, yesNo x.failRecall] ++
    recordItems x.inForce ++ [routeCode x.route, waitCode x.waiting] ++ s.callItems c ++ s.stageItems x ++
    [yesNo x.accessibleMark] ++ x.port.items)

/-- CROSSING STATUS: a crossing (R119, R180). -/
def executeCrossingStatus (fr : Frame) (s : State) : State :=
  match fr.body with
  | [crossingByte] =>
    match numbered 8 crossingByte with
    | some c => s.done fr.tag (.report (s.crossingItems c))
    | none => s.refuse fr.tag .outOfRange
  | _ => s.refuse fr.tag .badLength

/-! ### UNIT STATUS (R152, R168) -/

/-- A set of addresses in ascending order (section 12.2). -/
def ascending (l : List UnitId) : List UnitId := allUnits.filter fun u => decide (u ∈ l)

/-- A baseline with its set flag (R152). -/
def baselineItems (b : Option Nat) : List Byte := twoOrNone b ++ [yesNo b.isSome]

/-- The indication, levels, locator mute and sample action of the last command sent (R152). Where none has been sent, the
locator mute is sent as no (log entry 9). -/
def commandItems : Option KerbCommand → List Byte
  | some k => k.indication.code :: (two k.locatorLevel ++ two k.walkLevel ++ [yesNo k.mute, actionCode k.action])
  | none => 0 :: (twoOrNone none ++ twoOrNone none ++ [0, 0])

/-- The revival position and the deciseconds to the next revival, where the unit is FAILED (R152). The position takes two
bytes (log entry 9). -/
def KerbUnit.revivalItems (k : KerbUnit) (now : Time) : List Byte :=
  if k.state = .failed then two k.revivalPosition ++ twoOrNone (k.nextRevival.map (untilTime now)) else []

/-- The unit table's items of a mapped entry (R152). The held time in seconds takes two bytes (log entry 9). -/
def KerbUnit.entryItems (k : KerbUnit) (m : Mapping) (now : Time) : List Byte :=
  [number m.crossing, m.side.code] ++ unitSet (ascending m.hearing) ++ unitStateCode (some k.state) ::
    (two k.misses ++ two k.goods ++ baselineItems k.pressBaseline ++ baselineItems k.extendedBaseline ++
    yesNo k.heldNow :: (two k.heldTime ++ [yesNo k.stuck, yesNo k.audioFault] ++ k.revivalItems now ++
    [yesNo k.sounding] ++ commandItems k.lastCommand ++ [actionCode k.pendingAction]))

/-- A sample in progress: its phase, the elapsed time where MEASURING, the early-end flag and the muted units (R168). -/
def sampleItems (now : Time) : Option Sample → List Byte
  | none => [0]
  | some k =>
    k.phase.code ::
      ((match k.phase with
      | .measuring start => two (reportedSince now start)
      | .requested | .closed _ _ => []) ++ yesNo k.earlyEnd :: unitSet (ascending k.muted))

/-- The last sample report: TAKEN 1 with its level and marks, ABANDONED 2, LOST 3, none 0 (R168). -/
def sampleReportItems : Option SampleReport → List Byte
  | none => [0]
  | some (.taken level short earlyEnd) => 1 :: (two level ++ [yesNo short, yesNo earlyEnd])
  | some .abandoned => [2]
  | some .lost => [3]

/-- The audible level block's items of a unit (R168). -/
def Audible.items (a : Audible) (now : Time) : List Byte :=
  twoOrNone a.estimate ++ yesNo a.stale :: (two (untilTime now a.dueTime) ++
    twoOrNone (a.lastStart.map (reportedSince now)) ++ sampleItems now a.sample ++ unitSet (ascending a.muteSet) ++
    two a.locatorLevel ++ two a.walkLevel ++ sampleReportItems a.report)

/-- UNIT STATUS: an address (R152). -/
def executeUnitStatus (fr : Frame) (s : State) : State :=
  match fr.body with
  | [addressByte] =>
    match numbered 32 addressByte with
    | none => s.refuse fr.tag .outOfRange
    | some u =>
      match (s.unit u).mapping with
      | none => s.refuse fr.tag .noSuchUnit
      | some m =>
        s.done fr.tag (.report ((s.unit u).entryItems m s.clock.now ++ (s.unit u).audible.items s.clock.now))
  | _ => s.refuse fr.tag .badLength

/-! ### Meanings -/

/-- STATUS (R186). -/
def execStatus (s : State) : Host.Outcome State Fault Refusal :=
  .next (s.live fun s => s.serve (Frame.isKind · 1) executeStatus)

/-- CROSSING_STATUS (R119). -/
def execCrossingStatus (s : State) : Host.Outcome State Fault Refusal :=
  .next (s.live fun s => s.serve (Frame.isKind · 2) executeCrossingStatus)

/-- UNIT_STATUS (R152). -/
def execUnitStatus (s : State) : Host.Outcome State Fault Refusal :=
  .next (s.live fun s => s.serve (Frame.isKind · 3) executeUnitStatus)

end Sys2Proof.Machine
end

