-- ==== Sys2Proof/Machine/Reset.lean ====
section
/-!
DEFINITION. Cold start, RESTART's restart, and the completion of start-up (R22, R23, R43, R44, R65, R95, R120, R134,
R153, R169, R175, R188).
-/

namespace Sys2Proof.Machine

/-! ### The plan store through a reset (R23, R31, R32, R44) -/

/-- A slot whose check value does not agree with its content is made absent (R23). -/
def Slot.checked {α : Type} (s : Slot α) : Slot α := if s.intact then s else s.absent

/-- Every slot of a bank checked (R23). -/
def Bank.checked (k : Bank) : Bank :=
  { header := k.header.checked, records := rewrite k.records fun _ s => s.checked }

/-- Every slot of every bank checked (R23). -/
def PlanStore.checked (p : PlanStore) : PlanStore := { p with banks := rewrite p.banks fun _ k => k.checked }

/-- The bank of an interrupted header write: each record that fails the new header is absent or as it was, as a free
value decides (R32; log entry 6). `n` indexes the free values. -/
def Bank.torn (k : Bank) (h : Header) (n : Nat) : Bank :=
  { k with
    records := rewrite k.records fun c s => if Config.recheckReached (n + c.val) then prunedSlot h c s else s }

/-- What an interrupted PLAN WRITE leaves: the slot being written is absent since its write began (R31), and a header's
re-check may have begun (R32). -/
def PlanStore.torn (p : PlanStore) (w : WriteRun) (n : Nat) : PlanStore :=
  match w.item with
  | .header h => p.changeBank w.bank fun k => k.torn h n
  | .record _ _ => p

/-- The plan store as a reset leaves it before start-up: banks and stored selection kept (R44). -/
def PlanStore.afterReset (p : PlanStore) (w : Option WriteRun) (n : Nat) : PlanStore :=
  let p := match w with
    | some w => p.torn w n
    | none => p
  { p.checked with inForce := none, pendingSelection := none, deferral := false }

/-- The free values an interrupted header write uses. -/
def freeUsed : Option WriteRun → Nat
  | some { item := .header _, .. } => 8
  | _ => 0

/-! ### The reset (R22, R65, R95, R120, R134, R153, R169, R175, R188) -/

/-- Every block at its values after reset, with every output off and nothing running; what the banks, the stored
selection and the unit map hold is kept. -/
def State.shutDown (s : State) (counters : Counters) (filter : Vector FilterEntry 16) : State :=
  { running := false
    clock := .initial
    store := s.store.afterReset s.host.executing s.freeCount
    calls := []
    crossings := Vector.replicate 8 .initial
    groups := Vector.replicate 4 .initial
    units := rewrite s.units fun _ k => .initial k.mapping
    kerb := .initial
    counters := counters
    host := { HostPort.initial with filter := filter }
    due := []
    freeCount := s.freeCount + freeUsed s.host.executing
    pending := s.pending }

/-! ### The completion of start-up (R43, R95, R102, R120, R134, R169) -/

/-- The stored selection with its base header, where R43 re-adopts it. -/
def PlanStore.readoption (p : PlanStore) : Option (Selection × Header) :=
  match p.stored with
  | none => none
  | some sel =>
    match p.header sel.base with
    | none => none
    | some h => if (p.misfit sel h).isNone then some (sel, h) else none

/-- A crossing as the start-up completes, with the record the re-adopted selection gives it (R120, R134). -/
def Crossing.startUp : Option InForce → Crossing
  | some f =>
    { Crossing.initial with
      state := .startupFlash, timeLeft := some 50, inForce := some f, retainedAmber := f.record.amber,
      port := SignalPort.initial.enter .startupFlash }
  | none => .initial

/-- A group as the start-up completes under a header (R95). -/
def Group.startUp (p : GroupParams) : Group :=
  { Group.initial with stageLimit := p.stageLimit, spacing := p.spacing, pairing := p.pairing }

/-- The part started up under the re-adopted selection (R43). -/
def State.startUnder (s : State) (sel : Selection) (h : Header) : State :=
  { s with
    store := { s.store with inForce := some sel }
    clock := { s.clock with cycle := some h.cycle }
    groups := rewrite s.groups fun g _ => .startUp (h.groups[g])
    crossings := rewrite s.crossings fun c _ => .startUp (s.store.effective sel c) }

/-- The part started up with no selection in force: the stored selection is set to none (R43). -/
def State.startEmpty (s : State) : State := { s with store := { s.store with stored := none } }

/-- The completion of start-up (R43, R60, R102, R157): slots checked, the stored selection re-adopted or set to none,
levels computed, and fail recall tested at each crossing. -/
def State.startUp (s : State) : State :=
  if s.running then s
  else
    let s := { s with store := s.store.checked, running := true }
    let s := match s.store.readoption with
      | some (sel, h) => s.startUnder sel h
      | none => s.startEmpty
    allCrossings.foldl State.testFailRecall s.relevelAll

/-! ### Meanings -/

/-- COLD_START (R22). -/
def execColdStart (s : State) : Host.Outcome State Fault Refusal :=
  .next (s.shutDown .initial (Vector.replicate 16 .invalid))

/-- RESTART_BEGIN (R187): as the last byte of the RESTART reply leaves the line the part restarts, keeping the counters
and the report filter. -/
def execRestartBegin (s : State) : Host.Outcome State Fault Refusal :=
  .next (if s.host.restarting then s.shutDown s.counters s.host.filter else s)

/-- START_UP_COMPLETE (R102). -/
def execStartUpComplete (s : State) : Host.Outcome State Fault Refusal := .next s.startUp.transmit

end Sys2Proof.Machine
end

