-- ==== Sys2Proof/Machine/Tick.lean ====
section
/-!
DEFINITION. The decisecond event (R1): the time base's advance, the events it announces, and the settling of the events
that the last decisecond event announced and no command has taken.
-/

namespace Sys2Proof.Machine

/-! ### Settling (log entry 2) -/

/-- The work of an announced event. -/
def runDue : Due → State → State
  | .secondAdvance => State.advanceSecond
  | .cycleBoundary => State.boundary
  | .boundaryDue => State.boundary
  | .watchdog => State.expireWatchdog
  | .intervalEnd c => State.endInterval c
  | .flashHalf c => State.changeFlashHalf c
  | .mismatch c lamp cls => fun s => s.faultEvent c lamp cls
  | .conflict c => fun s => s.faultEvent c .walk .conflict
  | .greenExpiry c => State.expireGreen c
  | .bandEnd c => State.bandEndEvent c
  | .notBefore c => State.arriveNotBefore c
  | .recallExpiry c => State.expireRecall c
  | .spacing g => State.expireSpacing g
  | .pairing g => State.closePairing g
  | .revival u => State.reviveUnit u
  | .windowClose u => State.closeSample u
  | .stale u => State.becomeStale u

/-- One announced event taken, if it still stands. -/
def State.settleOne (s : State) (d : Due) : State := (s.take d (runDue d)).transmit

/-- Every announced event that still stands taken, in the order announced. -/
def State.settle (s : State) : State := { s.due.foldl State.settleOne s with due := [] }

/-! ### The advance of the clock (R1, R2, R3, R12, R19) -/

/-- The clock one decisecond on; `inForce` says whether a selection is in force. The sub-second phase waits at 9 for the
second's advance. -/
def Clock.tick (k : Clock) (inForce : Bool) : Clock :=
  { k with
    now := k.now + 1
    corridorTime := if inForce then (if k.cycle.getD 0 ≤ k.corridorTime + 1 then 0 else k.corridorTime + 1) else k.corridorTime
    phase := min (k.phase + 1) 9
    boundaryDue := k.boundaryDue && inForce
    watchdog := saturate (k.watchdog + 1) }

/-- What the clock announces at a decisecond event: the second (R19), the boundary (R2, R3), the watchdog (R13). `k` is
the clock before it and `k'` after it. -/
def Clock.announce (k k' : Clock) (inForce : Bool) : List Due :=
  (if 9 ≤ k.phase then [.secondAdvance] else []) ++
  (if inForce = true ∧ k.cycle.getD 0 ≤ k.corridorTime + 1 then [.cycleBoundary] else []) ++
  (if inForce = false ∧ k.boundaryDue = true then [.boundaryDue] else []) ++
  (if k'.mode = .coordinated ∧ 3 * k'.cycle.getD 0 ≤ k'.watchdog then [.watchdog] else [])

/-! ### The crossings (R5, R49, R100, R101, R118, R122, R124, R127) -/

/-- The green timer one decisecond on. -/
def GreenTimer.tick (g : GreenTimer) : GreenTimer := { g with left := g.left - 1 }

/-- A crossing one decisecond on, its proving inputs sampled. -/
def Crossing.tick (x : Crossing) (inputs : Lamps Bool) : Crossing :=
  { x with
    timeInState := saturate (x.timeInState + 1), timeLeft := x.timeLeft.map (· - 1), green := x.green.map GreenTimer.tick
    port := x.port.tick inputs }

/-- The faults proving finds at a crossing (R117, R126, R127, R132). -/
def announceFaults (c : CrossingId) (x : Crossing) (inputs : Lamps Bool) : List Due :=
  (allLamps.filterMap fun l => (x.mismatchFound l (lampAt inputs l)).map (Due.mismatch c l)) ++
  (if x.conflictFound inputs then [.conflict c] else [])

/-- The timers of a crossing that reach their end (R100, R101, R118, R122). `x` is the crossing before and `x'` after. -/
def announceTimers (now : Time) (c : CrossingId) (x x' : Crossing) : List Due :=
  (if x'.timeLeft = some 0 then [.intervalEnd c] else []) ++
  (if x.port.flash.complete then [.flashHalf c] else []) ++
  (if x'.green = some { left := 0, expired := false } then [.greenExpiry c] else []) ++
  (if x.recallTimer.any (reached now) then [.recallExpiry c] else [])

/-- The band end and the not-before of a crossing's call (R5, R49), in the state after the advance. -/
def State.announceCalls (s : State) (c : CrossingId) : List Due :=
  (match (s.crossing c).record with
  | some r =>
    if s.clock.mode = .coordinated ∧ 0 < r.bandLen ∧ s.localTimeOf r = bandEnd r (s.clock.cycle.getD 0) then [.bandEnd c]
    else []
  | none => []) ++
  (if ((s.callOf c).bind (·.notBefore)).any (reached s.clock.now) then [.notBefore c] else [])

/-- What one crossing announces; `s` is the state before the advance and `s'` after it. -/
def announceCrossing (s s' : State) (inputs : ProvingInputs) (c : CrossingId) : List Due :=
  announceFaults c (s.crossing c) (inputs[c]) ++ announceTimers s'.clock.now c (s.crossing c) (s'.crossing c) ++
    s'.announceCalls c

/-! ### Groups and units (R87, R139, R164, R167) -/

/-- A group's expiries that arrive (R87). -/
def announceGroup (now : Time) (g : GroupId) (q : Group) : List Due :=
  (if q.active = 0 ∧ q.spacingExpiry.any (reached now) = true then [.spacing g] else []) ++
  (if 0 < q.active ∧ q.pairingClose.any (reached now) = true then [.pairing g] else [])

/-- A MEASURING sample whose window has run (R164). -/
def Sample.windowRun (k : Sample) (now : Time) : Bool :=
  match k.phase with
  | .measuring start => decide (20 ≤ since now start)
  | .requested | .closed _ _ => false

/-- A unit's revival, sample window and stale test (R139, R164, R167), in the state after the advance. -/
def State.announceUnit (s : State) (u : UnitId) : List Due :=
  let k := s.unit u
  (if k.mapping.isSome = true ∧ k.state = .failed ∧ k.revivalDue = false ∧ k.nextRevival.any (reached s.clock.now) = true then
    [.revival u] else []) ++
  (if k.audible.sample.any (·.windowRun s.clock.now) then [.windowClose u] else []) ++
  (if k.mapping.isSome = true ∧ s.isStale u = true then [.stale u] else [])

/-- A CLOSED sample knows that a decisecond event has passed since it closed (R164). -/
def Sample.tick (k : Sample) : Sample :=
  match k.phase with
  | .closed start _ => { k with phase := .closed start true }
  | .requested | .measuring _ => k

/-- A unit one decisecond on. -/
def KerbUnit.tick (k : KerbUnit) : KerbUnit :=
  { k with audible := { k.audible with sample := k.audible.sample.map Sample.tick } }

/-! ### The decisecond event -/

/-- Everything a decisecond event advances (R1). -/
def State.advance (s : State) (inputs : ProvingInputs) : State :=
  { s with
    clock := s.clock.tick s.store.inForce.isSome
    crossings := rewrite s.crossings fun c x => x.tick (inputs[c])
    units := rewrite s.units fun _ k => k.tick
    kerb := { s.kerb with resting := false } }

/-- Every event a decisecond event announces; `s` is the state before the advance and `s'` after it. -/
def announced (s s' : State) (inputs : ProvingInputs) : List Due :=
  s.clock.announce s'.clock s.store.inForce.isSome ++
  allCrossings.flatMap (announceCrossing s s' inputs) ++
  allGroups.flatMap (fun g => announceGroup s'.clock.now g (s'.group g)) ++
  allUnits.flatMap s'.announceUnit

/-- The decisecond event: what the last one announced is settled, the time base advances, events are announced, and
samples are granted (R1, R160). -/
def State.tick (s : State) (inputs : ProvingInputs) : State :=
  let s := s.settle
  let s' := s.advance inputs
  ({ s' with due := announced s s' inputs }).grantSamples

/-- DECISECOND_EVENT (R1). -/
def execDecisecondEvent (inputs : ProvingInputs) (s : State) : Host.Outcome State Fault Refusal :=
  .next (s.live fun s => s.tick inputs)

end Sys2Proof.Machine
end

