-- ==== Sys2Proof/Machine/UnitMap.lean ====
section
/-!
DEFINITION. UNIT MAP WRITE (R151): setting and clearing one entry of the unit map.
-/

namespace Sys2Proof.Machine

/-- The actions of UNIT MAP WRITE, SET 1 and CLEAR 2 (R151, section 12.2). -/
inductive MapAction where
  | set | clear
deriving DecidableEq, Repr

/-- What a UNIT MAP WRITE asks for. -/
inductive MapRequest where
  | set (u : UnitId) (m : Mapping)
  | clear (u : UnitId)
  | badLength
  | outOfRange
deriving DecidableEq, Repr

/-- The action byte; none for any other byte (R190). -/
def readMapAction (b : Byte) : Option MapAction :=
  if b.toNat = 1 then some .set else if b.toNat = 2 then some .clear else none

/-- The side byte, A 1 and B 2. -/
def readSide (b : Byte) : Option Side := if b.toNat = 1 then some .a else if b.toNat = 2 then some .b else none

/-- The members of a hearing set: each an address, none the unit's own, none named twice (R151). -/
def readHearing (u : UnitId) : List Byte → Option (List UnitId)
  | [] => some []
  | b :: rest =>
    match numbered 32 b, readHearing u rest with
    | some v, some l => if v = u ∨ v ∈ l then none else some (v :: l)
    | _, _ => none

/-- The fields of a SET: crossing, side, a count of 0 to 6 and the members (R151; log entry 14). -/
def readMapSet (addressByte : Byte) : List Byte → MapRequest
  | crossingByte :: sideByte :: countByte :: members =>
    if 6 < countByte.toNat then .outOfRange
    else if members.length ≠ countByte.toNat then .badLength
    else
      match numbered 32 addressByte, numbered 8 crossingByte, readSide sideByte with
      | some u, some c, some side =>
        match readHearing u members with
        | some l => .set u { crossing := c, side := side, hearing := ascending l }
        | none => .outOfRange
      | _, _, _ => .outOfRange
  | _ => .badLength

/-- A UNIT MAP WRITE body: address, action, and the fields of a SET (R151). -/
def readMapRequest : List Byte → MapRequest
  | addressByte :: actionByte :: rest =>
    match readMapAction actionByte with
    | none => .outOfRange
    | some .set => readMapSet addressByte rest
    | some .clear =>
      match rest with
      | [] =>
        match numbered 32 addressByte with
        | some u => .clear u
        | none => .outOfRange
      | _ => .badLength
  | _ => .badLength

/-- The entry written or cleared by a map write leaves every sample's muted units (R161). -/
def State.leaveMuted (s : State) (u : UnitId) : State :=
  { s with
    units := rewrite s.units fun _ k =>
      { k with
        audible := { k.audible with
          sample := k.audible.sample.map fun q => { q with muted := q.muted.filter fun v => decide (v ≠ u) } } } }

/-- The last sample report of an entry that a map write starts afresh: LOST where a sample was in progress (R166; log
entry 15). -/
def freshReport (k : KerbUnit) : Option SampleReport := if k.audible.sample.isSome then some .lost else none

/-- The entry of a unit mapped afresh at `now` (R151, R159). -/
def KerbUnit.mapped (k : KerbUnit) (m : Mapping) (now : Time) : KerbUnit :=
  { KerbUnit.initial (some m) with audible := { Audible.initial with dueTime := now, report := freshReport k } }

/-- A transaction in flight with the unit is made void (R151), and late bytes of a cleared unit count nowhere (R172). -/
def KerbLink.rewritten (k : KerbLink) (u : UnitId) (cleared : Bool) : KerbLink :=
  { k with
    transaction := k.transaction.map fun t => if t.command.address = u then { t with void := true } else t
    ended := if cleared = true ∧ k.ended = some u then none else k.ended }

/-- The old entry's sample and mutes ended for a unit whose entry is rewritten, and its transaction made void (R151,
R161, R166). -/
def State.detachUnit (s : State) (u : UnitId) (cleared : Bool) : State :=
  let s := (s.loseSample u false).leaveMuted u
  { s with kerb := s.kerb.rewritten u cleared }

/-- The state UNIT_STATE names for an entry, none while unmapped (R140). -/
def KerbUnit.reportedState (k : KerbUnit) : Option UnitState := if k.mapping.isSome then some k.state else none

/-- The working buttons of the crossings a map write concerns, the old and the new (R148, R151). -/
def State.reviewConcerned (s : State) (old new : Option CrossingId) : State :=
  let s := match old with
    | some c => s.reviewWorking c
    | none => s
  match new with
  | some c => if old = some c then s else s.reviewWorking c
  | none => s

/-- UNIT_STATE with cause MAP (R140). -/
def State.raiseMapped (s : State) (u : UnitId) (m : Mapping) (before after : Option UnitState) : State :=
  s.raise (.unitState u m.crossing m.side before after .map)

/-- The reply of an accepted UNIT MAP WRITE, with the entry as it stands (R151; log entry 9). -/
def State.mapDone (s : State) (tag : Byte) (u : UnitId) : State :=
  let k := s.unit u
  s.done tag (.unitMap (number u :: (match k.mapping with
    | some m => 1 :: k.entryItems m s.clock.now
    | none => [0])))

/-- An accepted SET (R151). Its UNIT_STATE carries the new crossing and side (log entry 40). -/
def State.mapUnit (s : State) (u : UnitId) (m : Mapping) : State :=
  let k := s.unit u
  let s := s.detachUnit u false
  let s := (s.changeUnit u fun _ => k.mapped m s.clock.now).relevel u
  (s.raiseMapped u m k.reportedState (some .joining)).reviewConcerned k.crossing (some m.crossing)

/-- An accepted CLEAR of a mapped address (R151). -/
def State.unmapUnit (s : State) (u : UnitId) (m : Mapping) : State :=
  let k := s.unit u
  let s := (s.detachUnit u true).changeUnit u fun _ => .initial none
  (s.raiseMapped u m (some k.state) none).reviewConcerned (some m.crossing) none

/-- UNIT MAP WRITE (R151). -/
def executeMap (fr : Frame) (s : State) : State :=
  match readMapRequest fr.body with
  | .badLength => s.refuse fr.tag .badLength
  | .outOfRange => s.refuse fr.tag .outOfRange
  | .set u m => (s.mapUnit u m).mapDone fr.tag u
  | .clear u =>
    match (s.unit u).mapping with
    | none => s.refuse fr.tag .noSuchUnit
    | some m => (s.unmapUnit u m).mapDone fr.tag u

/-- The frame is a UNIT MAP WRITE this row's action executes: its action is the row's, or it names neither action or
has no action byte, and is refused at whichever row is taken (log entry 3). -/
def isMap (a : MapAction) (fr : Frame) : Bool :=
  fr.isKind 11 &&
  (match fr.body with
  | _ :: ab :: _ => decide (readMapAction ab = some a) || (readMapAction ab).isNone
  | _ => true)

/-- UNIT_MAP_SET: a UNIT MAP WRITE with the action SET (R151). -/
def execUnitMapSet (s : State) : Host.Outcome State Fault Refusal :=
  .next (s.live fun s => s.serve (isMap .set) executeMap)

/-- UNIT_MAP_CLEAR: a UNIT MAP WRITE with the action CLEAR (R151). -/
def execUnitMapClear (s : State) : Host.Outcome State Fault Refusal :=
  .next (s.live fun s => s.serve (isMap .clear) executeMap)

end Sys2Proof.Machine
end

