-- ==== Sys2Proof/Machine/Dispatch.lean ====
section
/-!
DEFINITION. The dispatch of a command to its meaning: one arm per row of the opcode table.
-/

namespace Sys2Proof.Machine

/-- The effect of a command on everything but the queue of waiting commands. -/
def exec (i : Instr) (s : State) : Host.Outcome State Fault Refusal :=
  match i with
  | .coldStart => Sys2Proof.Machine.execColdStart s
  | .startUpComplete => Sys2Proof.Machine.execStartUpComplete s
  | .decisecondEvent inputs => Sys2Proof.Machine.execDecisecondEvent inputs s
  | .secondAdvance => Sys2Proof.Machine.execSecondAdvance s
  | .cycleBoundary => Sys2Proof.Machine.execCycleBoundary s
  | .boundaryDue => Sys2Proof.Machine.execBoundaryDue s
  | .bandEndEvent c => Sys2Proof.Machine.execBandEndEvent c s
  | .watchdogExpiry => Sys2Proof.Machine.execWatchdogExpiry s
  | .sync => Sys2Proof.Machine.execSync s
  | .planWrite => Sys2Proof.Machine.execPlanWrite s
  | .slotWriteDone => Sys2Proof.Machine.execSlotWriteDone s
  | .planRead => Sys2Proof.Machine.execPlanRead s
  | .planSelect => Sys2Proof.Machine.execPlanSelect s
  | .notBeforeArrival c => Sys2Proof.Machine.execNotBeforeArrival c s
  | .call => Sys2Proof.Machine.execCall s
  | .callCancel => Sys2Proof.Machine.execCallCancel s
  | .recallTimerExpiry c => Sys2Proof.Machine.execRecallTimerExpiry c s
  | .greenTimerExpiry c => Sys2Proof.Machine.execGreenTimerExpiry c s
  | .spacingExpiry g => Sys2Proof.Machine.execSpacingExpiry g s
  | .pairingClose g => Sys2Proof.Machine.execPairingClose g s
  | .intervalEnd c => Sys2Proof.Machine.execIntervalEnd c s
  | .serviceOff => Sys2Proof.Machine.execServiceOff s
  | .dark => Sys2Proof.Machine.execDark s
  | .restore => Sys2Proof.Machine.execRestore s
  | .flashHalfChange c => Sys2Proof.Machine.execFlashHalfChange c s
  | .mismatchTimerLimit c lamp => Sys2Proof.Machine.execMismatchTimerLimit c lamp s
  | .conflictTimerLimit c => Sys2Proof.Machine.execConflictTimerLimit c s
  | .pollCommand => Sys2Proof.Machine.execPollCommand s
  | .goodReply frame => Sys2Proof.Machine.execGoodReply frame s
  | .badReply frame => Sys2Proof.Machine.execBadReply frame s
  | .replyWindowClose content => Sys2Proof.Machine.execReplyWindowClose content s
  | .lateBytes => Sys2Proof.Machine.execLateBytes s
  | .revivalDue u => Sys2Proof.Machine.execRevivalDue u s
  | .unitMapSet => Sys2Proof.Machine.execUnitMapSet s
  | .unitMapClear => Sys2Proof.Machine.execUnitMapClear s
  | .unitStatus => Sys2Proof.Machine.execUnitStatus s
  | .sampleWindowClose u => Sys2Proof.Machine.execSampleWindowClose u s
  | .ambientStale u => Sys2Proof.Machine.execAmbientStale u s
  | .counters => Sys2Proof.Machine.execCounters s
  | .hostFrameReceived bytes => Sys2Proof.Machine.execHostFrameReceived bytes s
  | .frameAbandon cause => Sys2Proof.Machine.execFrameAbandon cause s
  | .frameGapTimeout => Sys2Proof.Machine.execFrameGapTimeout s
  | .unknownKind => Sys2Proof.Machine.execUnknownKind s
  | .status => Sys2Proof.Machine.execStatus s
  | .crossingStatus => Sys2Proof.Machine.execCrossingStatus s
  | .filterWrite => Sys2Proof.Machine.execFilterWrite s
  | .restart => Sys2Proof.Machine.execRestart s
  | .restartBegin => Sys2Proof.Machine.execRestartBegin s
  | .transmitEnd => Sys2Proof.Machine.execTransmitEnd s
  | .hostFrameStart => Sys2Proof.Machine.execHostFrameStart s
  | .replyWindowOpen => Sys2Proof.Machine.execReplyWindowOpen s

end Sys2Proof.Machine
end

