-- ==== Sys2Proof/Safety.lean ====
section
/-!
DEFINITION. What a safe run of the KC812 is, and the words the statements are written in: a request at its turn, an
event that is due, an answer given, what a command leaves undisturbed, and the laws of the state that every step keeps.
-/

namespace Sys2Proof.Machine

/-! ### A command whose turn has come -/

/-- A request frame stands at the front of the queue of a running part, and a request may begin execution (R179). -/
def State.AtTurn (s : State) (fr : Frame) (rest : List Frame) : Prop :=
  s.running = true ∧ s.host.ready = true ∧ s.host.requests = fr :: rest

/-- The part runs and the event has been announced and not yet taken (log entry 2). -/
def State.IsDue (s : State) (d : Due) : Prop := s.running = true ∧ d ∈ s.due

/-- The state with its front request taken from the queue (R179). -/
def State.taking (s : State) (rest : List Frame) : State := { s with host := { s.host with requests := rest } }

/-- The state with an announced event taken. -/
def State.without (s : State) (d : Due) : State := { s with due := s.due.erase d }

/-! ### Answers -/

/-- From `s` to `t` a request with this tag has been answered: the reply went on the line where the transmitter was
idle, and stands in the reply slot where it was not (R179, R181). -/
def Answered (s t : State) (tag : Byte) (content : ReplyContent) : Prop :=
  (s.host.transmission = none ∧ t.host.reply = none ∧
    t.host.transmission = some (.of (.reply { tag := tag, content := content }))) ∨
  (s.host.transmission.isSome = true ∧ t.host.reply = some { tag := tag, content := content } ∧
    t.host.transmission = s.host.transmission)

/-- The state after a request answered with no other effect: it has left the queue, its reply is in the slot, and the
transmitter has looked for a frame. -/
def State.answering (s : State) (rest : List Frame) (tag : Byte) (content : ReplyContent) : State :=
  ((s.taking rest).respond tag content).transmit

/-! ### What a command leaves undisturbed -/

/-- A unit's entry but for its audible items, its pending sample action and its sounding mark. -/
def KerbUnit.link (k : KerbUnit) : KerbUnit := { k with audible := .initial, pendingAction := none, sounding := false }

/-- The corridor's block of counters but for NOTICES_LOST. -/
def CorridorCounters.work (n : CorridorCounters) : CorridorCounters := { n with noticesLost := 0 }

/-- The corridor side is as it was: the clock, the plan store, every in-force record, the corridor's counters but for
NOTICES_LOST, the free-value counter and the waiting commands. -/
structure CorridorKept (s t : State) : Prop where
  running : t.running = s.running
  clock : t.clock = s.clock
  store : t.store = s.store
  records : ∀ c, (t.crossing c).inForce = (s.crossing c).inForce
  corridorCounters : t.counters.corridor.work = s.counters.corridor.work
  freeCount : t.freeCount = s.freeCount
  pending : t.pending = s.pending

/-- The kerb link is as it was: every unit's entry but for its audible items, pending sample action and sounding mark,
and the kerb link master but for whether the action on the line is still the unit's pending action and whether the
crossing's walk has begun since the command was built. -/
structure KerbKept (s t : State) : Prop where
  links : ∀ u, (t.unit u).link = (s.unit u).link
  lastPolled : t.kerb.lastPolled = s.kerb.lastPolled
  resting : t.kerb.resting = s.kerb.resting
  ended : t.kerb.ended = s.kerb.ended
  transaction : t.kerb.transaction.map (fun x => { x with actionLive := false, beforeWalk := false }) =
    s.kerb.transaction.map fun x => { x with actionLive := false, beforeWalk := false }

/-- The host port is as it was but for its reply slot, its transmitter and its notices: the receiver, the request
queue, the write in execution, the report filter and the restart hold. -/
structure PortKept (s t : State) : Prop where
  receiver : t.host.receiver = s.host.receiver
  requests : t.host.requests = s.host.requests
  executing : t.host.executing = s.host.executing
  filter : t.host.filter = s.host.filter
  restartHold : t.host.restartHold = s.host.restartHold

/-- What the work of crossings, calls, groups and audible aids leaves as it was; the announced events too. -/
structure Undisturbed (s t : State) : Prop where
  corridor : CorridorKept s t
  kerb : KerbKept s t
  port : PortKept s t
  due : t.due = s.due

/-- Two crossings are taken by one group: both have records whose routes are GROUP of the same group (R80, R87). -/
def State.shareGroup (s : State) (c c' : CrossingId) : Prop :=
  ∃ r r' g, (s.crossing c).record = some r ∧ (s.crossing c').record = some r' ∧
    routeOf s.clock.mode r = .group g ∧ routeOf s.clock.mode r' = .group g

/-- What the work of one crossing leaves of the others: a crossing not taken by the same group keeps its controller, its
call record and its counters. -/
def OthersKept (s t : State) (c : CrossingId) : Prop :=
  ∀ c', c' ≠ c → ¬ s.shareGroup c c' →
    t.crossing c' = s.crossing c' ∧ t.callOf c' = s.callOf c' ∧ t.counters.crossings[c'] = s.counters.crossings[c']

/-! ### The step of a boundary (R14, R15) -/

/-- What a crossing's COORDINATED stage allows a step at a boundary, in the direction of the pending correction (R14): with
r its remaining time, above 0, and e its elapsed time, under an in-force record with a band, g - r forward and u - e
backward, with g the gap to the next band start and u the time since the last band end, both from the local time at T = 0.
No other crossing sets a bound. -/
def State.stepAllowed (s : State) (y : Nat) (c : CrossingId) : Option Int :=
  let x := s.crossing c
  match x.stage, x.record with
  | some k, some r =>
    let left : Nat := x.timeLeft.getD 0 + (match x.state with
      | .vehAmber => k.leadRed + k.walk + k.clearance + k.trailRed
      | .leadRed => k.walk + k.clearance + k.trailRed
      | .walk => k.clearance + k.trailRed
      | .clearance => k.trailRed
      | _ => 0)
    let t₀ := modY (-(r.offset : Int)) y
    let g := modY ((r.bandStart : Int) - t₀) y
    let u := modY ((t₀ : Int) - (r.bandStart + r.bandLen)) y
    if k.kind = .coordinated ∧ 0 < left ∧ 0 < r.bandLen then
      some (if 0 < s.clock.correction then (g : Int) - left else (u : Int) - since s.clock.now k.admittedAt)
    else none
  | _, _ => none

/-- The step drawn from the pending correction p at a boundary (R15): it has the sign of p, and its magnitude is the
smallest of |p|, floor(Y/10) and the bound, which is the smallest of what the crossings allow, 0 below 0, and none where
no crossing sets one. -/
def State.DrawsStep (s : State) (y : Nat) (δ : Int) : Prop :=
  ∃ b : Option Nat,
    ((∀ c, s.stepAllowed y c = none) → b = none) ∧
    (∀ c a, s.stepAllowed y c = some a → ∃ n, b = some n ∧ n ≤ a.toNat) ∧
    (∀ n, b = some n → ∃ c a, s.stepAllowed y c = some a ∧ n = a.toNat) ∧
    δ = (if s.clock.correction < 0 then -1 else 1 : Int) *
      ((match b with
        | none => min s.clock.correction.natAbs (y / 10)
        | some n => min (min s.clock.correction.natAbs (y / 10)) n : Nat) : Int)

/-! ### A call that may be served, with the hold clear (R83, R85, R88) -/

/-- The local time of a crossing under a record and a cycle length. -/
def State.localUnder (s : State) (r : Record) (y : Nat) : Nat := modY ((s.clock.corridorTime : Int) - r.offset) y

/-- How the call of a crossing starts a stage at its evaluation, the hold clear and the crossing's call the only one
waiting in a group: on the DIRECT route whole; in a group as the release or join it may be; on the BAND route outside the
band whole where it fits before the next band start, and otherwise cut to the gap where its minimum walk fits. -/
def State.StartsAs (s : State) (c : CrossingId) (accessible : Bool) (r : Record) (a : Admission) : Prop :=
  (routeOf s.clock.mode r = .direct ∧
    a = { route := .direct, start := none, walk := r.desiredWalk accessible, cut := none }) ∨
  (∃ g st, routeOf s.clock.mode r = .group g ∧ (∀ q ∈ s.calls, q.crossing = c) ∧
    (s.group g).mayStart s.clock.now = some st ∧
    a = { route := .group g, start := some st, walk := r.desiredWalk accessible, cut := none }) ∨
  (routeOf s.clock.mode r = .band ∧ ∃ y, s.clock.cycle = some y ∧
    r.bandLen ≤ modY ((s.localUnder r y : Int) - r.bandStart) y ∧
    let g := modY ((r.bandStart : Int) - s.localUnder r y) y
    (r.duration accessible (r.desiredWalk accessible) ≤ g ∧
      a = { route := .band, start := none, walk := r.desiredWalk accessible, cut := none } ∨
    g < r.duration accessible (r.desiredWalk accessible) ∧ r.duration accessible r.minWalk ≤ g ∧
      a = { route := .band, start := none, walk := g - r.fixedPart accessible, cut := some .band }))

/-- Why the call of a crossing waits at its evaluation instead, and on which route: for its group's reason, in the band,
or because the gap is too short for its minimum walk. -/
def State.WaitsFor (s : State) (c : CrossingId) (accessible : Bool) (r : Record) (route : Route) (w : WaitReason) : Prop :=
  (∃ g, route = .group g ∧ routeOf s.clock.mode r = .group g ∧ (∀ q ∈ s.calls, q.crossing = c) ∧
    (s.group g).mayStart s.clock.now = none ∧ w = (s.group g).reason) ∨
  (route = .band ∧ routeOf s.clock.mode r = .band ∧ ∃ y, s.clock.cycle = some y ∧
    let g := modY ((r.bandStart : Int) - s.localUnder r y) y
    (modY ((s.localUnder r y : Int) - r.bandStart) y < r.bandLen ∧ w = .inBand ∨
      r.bandLen ≤ modY ((s.localUnder r y : Int) - r.bandStart) y ∧
        g < r.duration accessible (r.desiredWalk accessible) ∧ g < r.duration accessible r.minWalk ∧ w = .gap))

/-! ### The end of a slot's write -/

/-- From the plan store `p` to `q` the slot that `w` was writing has been finished: the slot is present with its content;
after a header every present crossing record that fails it is absent and the others are as they were, and `pruned` of
them have gone; nothing else of the store changes (R31, R32). -/
structure SlotFinished (p q : PlanStore) (w : WriteRun) (pruned : Nat) : Prop where
  header : ∀ h, w.item = .header h →
    q.header w.bank = some h ∧
    (∀ c, q.recordIn w.bank c = (p.recordIn w.bank c).bind fun f =>
      if checkAtWrite (some h) c f.record = none then some f else none) ∧
    pruned = (allCrossings.filter fun c => (p.recordIn w.bank c).isSome && (q.recordIn w.bank c).isNone).length
  record : ∀ c r, w.item = .record c r →
    q.recordIn w.bank c = some { bank := w.bank, record := r } ∧ q.header w.bank = p.header w.bank ∧
    (∀ c', c' ≠ c → q.recordIn w.bank c' = p.recordIn w.bank c') ∧ pruned = 0
  banks : ∀ b, b ≠ w.bank → q.banks[b] = p.banks[b]
  inForce : q.inForce = p.inForce
  pendingSelection : q.pendingSelection = p.pendingSelection
  stored : q.stored = p.stored
  deferral : q.deferral = p.deferral

/-! ### The life of an ambient sample -/

/-- The sample in progress at `u` has been lost: the record is gone and reported LOST, its mutes are lifted from every
unit, and the estimate, the due time and the count of samples taken stand (R166). -/
structure SampleLost (s t : State) (u : UnitId) : Prop where
  audible : (t.unit u).audible.sample = none ∧ (t.unit u).audible.report = some .lost ∧
    (t.unit u).audible.estimate = (s.unit u).audible.estimate ∧ (t.unit u).audible.stale = (s.unit u).audible.stale ∧
    (t.unit u).audible.dueTime = (s.unit u).audible.dueTime ∧ (t.unit u).audible.lastStart = (s.unit u).audible.lastStart
  mutes : ∀ v, (t.unit v).audible.muteSet = (s.unit v).audible.muteSet.filter fun w => decide (w ≠ u)
  taken : t.counters.units[u].samplesTaken = s.counters.units[u].samplesTaken

/-- The sample CLOSED since `start` at `u`, a unit of crossing `c`, has been taken with this level and short mark: the
estimate and with it the levels follow, the unit is next due an interval after the start, the report gives the sample,
the record is gone and SAMPLES_TAKEN has risen (R165, R155). -/
structure SampleTaken (s t : State) (u : UnitId) (c : CrossingId) (k : Sample) (start : Time) (level : Nat) (short : Bool) :
    Prop where
  audible : (t.unit u).audible.sample = none ∧ (t.unit u).audible.report = some (.taken level short k.earlyEnd) ∧
    (t.unit u).audible.estimate = some (nextEstimate (s.unit u).audible level) ∧ (t.unit u).audible.stale = false ∧
    (t.unit u).audible.lastStart = some start ∧
    (t.unit u).audible.dueTime = start + BitVec.ofNat 32 s.sampleInterval
  levels : (t.unit u).audible.locatorLevel = locatorLevelOf (s.crossing c).record s.clock.quiet
      (nextEstimate (s.unit u).audible level / 10) ∧
    (t.unit u).audible.walkLevel = walkLevelOf (s.crossing c).record (t.crossing c).accessibleMark s.clock.quiet
      (nextEstimate (s.unit u).audible level / 10)
  mutes : ∀ v, (t.unit v).audible.muteSet = (s.unit v).audible.muteSet
  taken : t.counters.units[u].samplesTaken = min (s.counters.units[u].samplesTaken + 1) 65535

/-- The sample in progress at `u` has been abandoned: the record is gone and reported ABANDONED, CANCEL is asked for, and
SAMPLES_ABANDONED has risen (R163). -/
structure SampleAbandoned (s t : State) (u : UnitId) : Prop where
  audible : (t.unit u).audible.sample = none ∧ (t.unit u).audible.report = some .abandoned
  action : (t.unit u).pendingAction = some .cancel
  counted : t.counters.units[u].samplesAbandoned = min (s.counters.units[u].samplesAbandoned + 1) 65535

/-- The walk begin of a crossing is an onset of sounding at a muted unit of the sample: a unit of the crossing that is
not FAILED and not sounding yet (R150, R163). -/
def State.onsetReaches (s : State) (c : CrossingId) (k : Sample) : Prop :=
  ∃ v ∈ k.muted, (s.unit v).crossing = some c ∧ (s.unit v).state ≠ .failed ∧ (s.unit v).sounding = false

/-! ### What a reset leaves -/

/-- What a cold start or a RESTART leaves of `s` before start-up completes, with these counters and this filter: every
block at its values after reset; the banks' contents, the stored selection and the unit map kept, with a slot whose
check value disagrees absent, and after an interrupted header write each crossing record of that bank as it was or
absent (R22, R23, R31, R32, R44, R65, R95, R120, R134, R153, R169, R188). -/
structure AfterReset (s t : State) (counters : Counters) (filter : Vector FilterEntry 16) : Prop where
  running : t.running = false
  clock : t.clock = .initial
  selections : t.store.inForce = none ∧ t.store.pendingSelection = none ∧ t.store.deferral = false ∧
    t.store.stored = s.store.stored
  headers : ∀ b, t.store.header b = s.store.header b
  records : ∀ b c, (∀ w h, s.host.executing = some w → w.item = .header h → w.bank ≠ b) →
    t.store.recordIn b c = s.store.recordIn b c
  torn : ∀ b c, t.store.recordIn b c = s.store.recordIn b c ∨ t.store.recordIn b c = none
  calls : t.calls = []
  crossings : ∀ c, t.crossing c = .initial
  groups : ∀ g, t.group g = .initial
  units : ∀ u, t.unit u = .initial (s.unit u).mapping
  kerb : t.kerb = .initial
  counters : t.counters = counters
  host : t.host = { HostPort.initial with filter := filter }
  due : t.due = []
  pending : t.pending = s.pending

/-! ### The laws every step keeps -/

/-- Between a reset and the completion of its start-up every block stands at its values after reset, and nothing is
executing or due (R22, R44, R65, R95, R120, R153, R188; log entry 18). -/
def State.StoppedLaw (s : State) : Prop :=
  s.running = false →
    s.clock = .initial ∧ s.store.inForce = none ∧ s.store.pendingSelection = none ∧ s.store.deferral = false ∧
    s.calls = [] ∧ (∀ c, s.crossing c = .initial) ∧ (∀ g, s.group g = .initial) ∧
    (∀ u, s.unit u = .initial (s.unit u).mapping) ∧ s.kerb = .initial ∧ s.host.executing = none ∧ s.due = []

/-- The outputs of a crossing are those of its state: each output's mode and value, the flash phase, and the bounds of
the proving timers (R121, R122, R124, R127); a WALK_FAIL is remembered only while walk is commanded on (R132). -/
def Crossing.OutputsLaw (x : Crossing) : Prop :=
  (∀ o, (lampAt x.port.lines o).mode = commandedMode x.state o ∧
    (lampAt x.port.lines o).value = valueOf (commandedMode x.state o) x.port.flash ∧
    (lampAt x.port.lines o).mismatch ≤ 5) ∧
  (x.port.flash = .idle ↔ ∀ o, commandedMode x.state o ≠ .flashing) ∧
  x.port.conflict ≤ 2 ∧
  (x.port.walkFailed = true → commandedMode x.state .walk = .on)

/-- Walk is commanded together with green or amber. -/
def Crossing.walkAgainstTraffic (x : Crossing) : Prop :=
  x.port.lines.walk.mode ≠ .off ∧ (x.port.lines.green.mode ≠ .off ∨ x.port.lines.amber.mode ≠ .off)

/-- The part shows no walk against moving traffic at any crossing (section 2, Failure). -/
def Safe (s : State) : Prop := ∀ c, ¬ (s.crossing c).walkAgainstTraffic

/-- The call queue never holds two records for one crossing, nor a record for a crossing not in service (R47). -/
def State.CallLaw (s : State) : Prop :=
  (s.calls.map (·.crossing)).Nodup ∧ ∀ r ∈ s.calls, (s.crossing r.crossing).inService = true ∧ r.pressCount ≤ 255

/-- A header's cycle length is in its range (R25). -/
def Header.CycleInRange (h : Header) : Prop := 400 ≤ h.cycle ∧ h.cycle ≤ 2400

/-- Every header the plan store holds as present, or is writing, has its cycle length in range (R25). -/
def State.HeaderLaw (s : State) : Prop :=
  (∀ b h, s.store.header b = some h → h.CycleInRange) ∧
  (∀ w h, s.host.executing = some w → w.item = .header h → h.CycleInRange)

/-- Corridor time lies within 0 to Y - 1, Y within its range, and there is a Y exactly while a selection is in force
(R2, R3). -/
def State.TimeLaw (s : State) : Prop :=
  s.clock.cycle.isSome = s.store.inForce.isSome ∧
  (∀ y, s.clock.cycle = some y → 400 ≤ y ∧ y ≤ 2400 ∧ s.clock.corridorTime < y) ∧
  (s.clock.cycle = none → s.clock.corridorTime = 0 ∧ s.clock.mode = .free) ∧
  s.clock.timeOfDay < 86400 ∧ s.clock.phase ≤ 9 ∧ s.clock.watchdog ≤ 65535 ∧ s.clock.zeroSteps ≤ 2

/-- A bank in use is not being written, the base banks in force and pending have headers, and every crossing's in-force
record is the one the selection in force resolves to (R24, R29, R35). -/
def State.PlanLaw (s : State) : Prop :=
  (∀ w, s.host.executing = some w → s.store.inUse w.bank = false) ∧
  (∀ sel, s.store.inForce = some sel → (s.store.header sel.base).isSome = true) ∧
  (∀ sel, s.store.pendingSelection = some sel → (s.store.header sel.base).isSome = true) ∧
  (∀ c, (s.crossing c).inForce = s.store.inForce.bind fun sel => s.store.effective sel c)

/-- The states that run an interval (R100). -/
def CrossingState.timed (st : CrossingState) : Bool := st.ofStage || decide (st = .startupFlash) || decide (st = .startupRed)

/-- What a crossing holds follows its state: a stage context in the five states of a stage but for a closing amber, a
closing amber only in VEH_AMBER with a change pending, a pending change only there or in a stage, the green timer in
VEH_GREEN, a time left in the timed states, and the accessible mark of the context (R68, R101, R109, R111, R156). -/
structure Crossing.StageLaw (x : Crossing) : Prop where
  stage : x.stage.isSome = (x.state.ofStage && !x.closingAmber)
  closing : x.closingAmber = true → x.state = .vehAmber ∧ x.pendingChange.isSome = true
  change : x.pendingChange.isSome = true → x.state.ofStage = true
  green : x.green.isSome = decide (x.state = .vehGreen)
  timed : x.timeLeft.isSome = x.state.timed
  accessible : x.accessibleMark = x.stage.any (·.accessible)

/-- The crossings whose stage is counted in a group. -/
def State.countedIn (s : State) (g : GroupId) : List CrossingId :=
  allCrossings.filter fun c => decide ((s.crossing c).stage.bind (·.group) = some g)

/-- Every crossing keeps its stage law, and a group's active count is the number of stages counted in it (R86). -/
def State.GroupLaw (s : State) : Prop :=
  (∀ c, (s.crossing c).StageLaw) ∧ ∀ g, (s.group g).active = (s.countedIn g).length

/-- Every mapped unit's levels are those of R155 for its estimate, its crossing's record and mark, and the quiet flag
(R155, R157). -/
def State.LevelLaw (s : State) : Prop := ∀ u, relevelUnit s.crossings s.clock.quiet (s.unit u) = s.unit u

/-- The counts of a unit are those its state allows; a FAILED unit holds no press and makes no sound (R138, R142,
R150). -/
def KerbUnit.CountLaw (k : KerbUnit) : Prop :=
  match k.state with
  | .joining => k.misses ≤ 5 ∧ k.goods ≤ 2
  | .online => k.misses = 0 ∧ 1 ≤ k.goods ∧ k.goods ≤ 3
  | .suspect => 1 ≤ k.misses ∧ k.misses ≤ 5 ∧ k.goods = 0
  | .failed => k.misses = 0 ∧ k.goods = 0 ∧ k.heldNow = false ∧ k.sounding = false

/-- What each crossing was last told of its two sides is what the units' states say, and its fail-recall flag is set
unless both sides have a working button (R60, R148). -/
def State.WorkingLaw (s : State) : Prop :=
  ∀ c, (s.crossing c).working = s.workingSides c ∧
    (s.crossing c).failRecall = !((s.workingSides c).a && (s.workingSides c).b)

/-- A request queue of four and a notice queue of 32 at most (R178, R183). -/
def State.QueueLaw (s : State) : Prop := s.host.requests.length ≤ 4 ∧ s.host.notices.length ≤ 32

/-- No counter stands above 65535 (R170). -/
def Counters.Saturated (k : Counters) : Prop :=
  (∀ c : CrossingId, ∀ n ∈ (k.crossings[c]).values, n ≤ 65535) ∧
  (∀ u : UnitId, ∀ n ∈ (k.units[u]).values, n ≤ 65535) ∧ ∀ n ∈ k.corridor.values, n ≤ 65535

end Sys2Proof.Machine
end

