-- ==== Sys2Proof/WellFormed.lean ====
section
/-!
DEFINITION. Which commands carry an operand their row's event can bring: a whole host frame, a whole kerb reply, a kerb
reply whose check agrees, a byte that abandons a frame. Every other command's operands are right by their types.
-/

namespace Sys2Proof

open Sys2Proof.Machine

/-- The operands of a command are those of its row's event. -/
def wellFormed : Instr → Bool
  | .hostFrameReceived bytes => wholeHostFrame bytes
  | .frameAbandon cause => abandons cause
  | .goodReply frame => wholeKerbReply frame && kerbCheckGood frame
  | .badReply frame => wholeKerbReply frame
  | .coldStart | .startUpComplete | .decisecondEvent _ | .secondAdvance | .cycleBoundary | .boundaryDue
  | .bandEndEvent _ | .watchdogExpiry | .sync | .planWrite | .slotWriteDone | .planRead | .planSelect
  | .notBeforeArrival _ | .call | .callCancel | .recallTimerExpiry _ | .greenTimerExpiry _ | .spacingExpiry _
  | .pairingClose _ | .intervalEnd _ | .serviceOff | .dark | .restore | .flashHalfChange _ | .mismatchTimerLimit _ _
  | .conflictTimerLimit _ | .pollCommand | .replyWindowClose _ | .lateBytes | .revivalDue _ | .unitMapSet
  | .unitMapClear | .unitStatus | .sampleWindowClose _ | .ambientStale _ | .counters | .frameGapTimeout | .unknownKind
  | .status | .crossingStatus | .filterWrite | .restart | .restartBegin | .transmitEnd | .hostFrameStart
  | .replyWindowOpen => true

end Sys2Proof
end

