-- ==== Sys2Proof/Certificates/Slice0/Obligations.lean ====
section
/-!
DEFINITION. The statements about the KC812, each a proposition the provers settle. A request's statement is about the
request at its turn (`AtTurn`), an announced event's about the event while it is due (`IsDue`); `transmit` is the
transmitter's look for a frame at the end of a step, which TransmitterTakesReplyThenNotice spells out.
-/

open Sys2Proof Sys2Proof.Machine

/-! ### The machine -/

/-- A step takes the command at the front of the queue and executes it with the rest waiting (log entry 1). On an
empty queue the block idles (log entry 1). -/
def Obligations.StepTakesTheFrontCommandOrIdles : Prop :=
  (∀ (i : Instr) (rest : List Instr) (s : State), s.pending = i :: rest → step s = exec i { s with pending := rest }) ∧
  (∀ s : State, s.pending = [] → step s = .next s)

/-- A command whose operands its row's event can bring answers a next state, and one whose operands no event brings
stops with noSuchEvent (log entry 17). Between a reset and the completion of its start-up only COLD_START and
START_UP_COMPLETE change anything (log entry 18). -/
def Obligations.CommandsStopOnlyOnNoSuchEvent : Prop :=
  (∀ (i : Instr) (s : State),
     (wellFormed i = true → ∃ t, exec i s = .next t) ∧ (wellFormed i = false → exec i s = .fault .noSuchEvent)) ∧
  (∀ (i : Instr) (s : State), s.running = false → wellFormed i = true → i ≠ .coldStart → i ≠ .startUpComplete →
     i ≠ .restartBegin → exec i s = .next s)

/-- No command's effect reaches the queue of waiting commands. The queue is the model's own (log entry 12). -/
def Obligations.CommandsLeaveTheQueue : Prop :=
  ∀ (i : Instr) (s t : State), exec i s = .next t → t.pending = s.pending

/-- The transmitter's look for a frame: a busy transmitter keeps its frame; an idle one takes the waiting reply, and
with none waiting the oldest notice; with neither it stays idle. The frame's bytes are those of section 12.3.
TRANSMIT_END: the frame has left the line; the transmitter takes a waiting reply, and otherwise the oldest notice, and
otherwise rests. Nothing else changes. -/
def Obligations.TransmitterTakesReplyThenNotice : Prop :=
  (∀ s : State,
     (s.host.transmission.isSome = true → s.transmit = s) ∧
     (∀ r, s.host.transmission = none → s.host.reply = some r →
       s.transmit = { s with host := { s.host with
         reply := none
         transmission := some { source := .reply r, bytes := hostFrame r.content.kind r.tag r.content.bytes } } }) ∧
     (∀ n rest, s.host.transmission = none → s.host.reply = none → s.host.notices = n :: rest →
       s.transmit = { s with host := { s.host with
         notices := rest
         transmission := some { source := .notice n, bytes := hostFrame (byte n.body.kind) 0 n.bodyBytes } } }) ∧
     (s.host.transmission = none → s.host.reply = none → s.host.notices = [] → s.transmit = s)) ∧
  (∀ s : State, s.running = true → s.host.restarting = false →
     exec .transmitEnd s = .next (match s.host.reply, s.host.notices with
       | some r, _ => { s with host := { s.host with reply := none, transmission := some (.of (.reply r)) } }
       | none, n :: rest => { s with host := { s.host with notices := rest, transmission := some (.of (.notice n)) } }
       | none, [] => { s with host := { s.host with transmission := none } }))

/-- A notice raised: one the filter does not accept is not kept; an accepted one joins the back of the notice queue
with the time of day and phase of the moment; at a full queue it is lost, the notices-lost flag is set and
NOTICES_LOST rises. The filter accepts a FAULT notice whatever it holds, and any other where it matches one of the
entries: the entry is valid, its family is ANY or the notice's, its kind is ANY or the notice's, and its crossing set is
ALL or holds the notice's crossing; a notice of the CORRIDOR family names no crossing and matches ALL alone. The kinds of
each family: DEMAND 192 and 193, SERVICE 194 to 199, CORRIDOR 200 to 203, UNITS 204 to 207, FAULT 208. -/
def Obligations.RaisedNoticeIsFilteredQueuedOrLost : Prop :=
  (∀ (p : HostPort) (n : NoticeBody),
    p.accepts n = true ↔ n.family = .fault ∨ ∃ i : Fin 16, (p.filter[i]).covers n = true) ∧
  (∀ (e : FilterEntry) (n : NoticeBody), n.family ≠ .fault → (e.covers n = true ↔
    e.valid = true ∧
    (e.family = 5 ∨ (e.family = 1 ∧ n.family = .demand) ∨ (e.family = 2 ∧ n.family = .service) ∨
      (e.family = 3 ∧ n.family = .corridor) ∨ (e.family = 4 ∧ n.family = .units)) ∧
    (e.kind = 0 ∨ e.kind.toNat = n.kind) ∧
    (e.crossings = 0 ∨ ∃ c, n.crossing = some c ∧ e.crossings.getLsbD c.val = true))) ∧
  (∀ n : NoticeBody, 192 ≤ n.kind ∧ n.kind ≤ 208 ∧ (n.crossing = none ↔ n.family = .corridor) ∧
    n.family = if n.kind ≤ 193 then .demand else if n.kind ≤ 199 then .service else if n.kind ≤ 203 then .corridor
      else if n.kind ≤ 207 then .units else .fault) ∧
  ∀ (s : State) (n : NoticeBody), s.counters.corridor.noticesLost ≤ 65535 →
    (n.family = .fault → s.host.accepts n = true) ∧
    (s.host.accepts n = false → s.raise n = s) ∧
    (s.host.accepts n = true → s.host.notices.length < 32 →
      s.raise n = { s with host := { s.host with
        notices := s.host.notices ++ [{ timeOfDay := s.clock.timeOfDay, phase := s.clock.phase, body := n }] } }) ∧
    (s.host.accepts n = true → 32 ≤ s.host.notices.length →
      s.raise n = { s with
        host := { s.host with noticesLost := true }
        counters := { s.counters with corridor := { s.counters.corridor with
          noticesLost := min (s.counters.corridor.noticesLost + 1) 65535 } } })

/-! ### The host link (chapters 11 and 10) -/

/-- HOST_FRAME_START: the receiver collects; nothing else changes. HOST_FRAME_RECEIVED: in HUNT the bytes are
discarded; a collected frame whose check disagrees counts in FRAMES_BAD; one whose check agrees joins the back of the
request queue, or at four waiting requests is dropped and counted in FRAMES_DROPPED; the receiver returns to HUNT.
Nothing else changes. FRAME_ABANDON and FRAME_GAP_TIMEOUT: a frame being collected counts in FRAMES_BAD and the
receiver returns to HUNT; in HUNT nothing happens. -/
def Obligations.ReceiverCollectsQueuesDropsAndCounts : Prop :=
  (∀ s : State, s.running = true →
     exec .hostFrameStart s = .next (State.transmit { s with host := { s.host with receiver := .collecting } })) ∧
  (∀ (bytes : List Byte) (s : State), s.running = true → wholeHostFrame bytes = true →
     (s.host.receiver = .hunt → exec (.hostFrameReceived bytes) s = .next s.transmit) ∧
     (s.host.receiver = .collecting → hostCheckGood bytes = false →
       exec (.hostFrameReceived bytes) s = .next (State.transmit { s with
         host := { s.host with receiver := .hunt }
         counters := { s.counters with corridor := { s.counters.corridor with
           framesBad := min (s.counters.corridor.framesBad + 1) 65535 } } })) ∧
     (s.host.receiver = .collecting → hostCheckGood bytes = true → s.host.requests.length < 4 →
       exec (.hostFrameReceived bytes) s = .next (State.transmit { s with
         host := { s.host with
           receiver := .hunt
           requests := s.host.requests ++
             [{ kind := bytes.getD 1 0, tag := bytes.getD 2 0, body := (bytes.drop 3).take (bytes.length - 5) }] }
         })) ∧
     (s.host.receiver = .collecting → hostCheckGood bytes = true → 4 ≤ s.host.requests.length →
       exec (.hostFrameReceived bytes) s = .next (State.transmit { s with
         host := { s.host with receiver := .hunt }
         counters := { s.counters with corridor := { s.counters.corridor with
           framesDropped := min (s.counters.corridor.framesDropped + 1) 65535 } } }))) ∧
  (∀ (i : Instr) (s : State), (i = .frameGapTimeout ∨ i = .frameAbandon .missingStopBit ∨
       ∃ v : Byte, 240 < v.toNat ∧ i = .frameAbandon (.lengthByte v)) → s.running = true →
     (s.host.receiver = .hunt → exec i s = .next s.transmit) ∧
     (s.host.receiver = .collecting → exec i s = .next (State.transmit { s with
       host := { s.host with receiver := .hunt }
       counters := { s.counters with corridor := { s.counters.corridor with
         framesBad := min (s.counters.corridor.framesBad + 1) 65535 } } })))

/-- The commands whose requests have a body of one fixed length, with the kind number and that length (sections 11.3,
12.3.1). -/
def fixedLengthRequests : List (Instr × Nat × Nat) :=
  [(.status, 1, 0), (.crossingStatus, 2, 1), (.unitStatus, 3, 1), (.planRead, 5, 2), (.planSelect, 6, 2), (.sync, 7, 6),
   (.call, 8, 4), (.callCancel, 9, 1), (.serviceOff, 10, 2), (.dark, 10, 2), (.restore, 10, 2), (.counters, 12, 3),
   (.filterWrite, 13, 5), (.restart, 14, 0)]

/-- UNKNOWN_KIND: a request whose kind is none of 1 to 14 is refused with UNKNOWN_KIND; nothing else changes. A
request whose body has not its kind's length is refused with BAD_LENGTH, and nothing else changes (R179, R180). That a
CROSSING CONTROL of a wrong length is refused at whichever of SERVICE_OFF, DARK and RESTORE is taken is the model's
choice (log entry 3). -/
def Obligations.MalformedRequestsAreRefused : Prop :=
  (∀ (fr : Frame) (rest : List Frame) (s : State), s.AtTurn fr rest → (fr.kind.toNat < 1 ∨ 14 < fr.kind.toNat) →
     exec .unknownKind s = .next (s.answering rest fr.tag (.refused .unknownKind))) ∧
  (∀ e ∈ fixedLengthRequests, ∀ (fr : Frame) (rest : List Frame) (s : State),
     s.AtTurn fr rest → fr.isKind e.2.1 = true → fr.body.length ≠ e.2.2 →
       exec e.1 s = .next (s.answering rest fr.tag (.refused .badLength)))

/-- STATUS, CROSSING_STATUS and UNIT_STATUS answer with the items of their reports as they stand, or refuse a crossing
or an address out of range and an unmapped unit; but for the notices-lost flag, which STATUS clears once it has
reported it, nothing else changes. The items, in order: STATUS gives the clock's values, the selections and the deferral
mark, each group's values, the number of notices waiting, the sixteen filter entries and the notices-lost flag;
CROSSING_STATUS the controller's values, the record in force, the route and waiting reason, the call record with its
place, the stage context with its remaining time, interval and slack, the accessible mark, and the outputs, timers and
flash phase; UNIT_STATUS the unit table's items and those of the audible level block.
The bytes of an item that section 12.2 does not settle are the model's choice (log entry 9), and the two bytes of an
absent duration, level or count are a free value (log entry 7). -/
def Obligations.StatusReportsOnlyReport : Prop :=
  (∀ (fr : Frame) (rest : List Frame) (s : State), s.AtTurn fr rest →
    (fr.isKind 1 = true → fr.body = [] →
      exec .status s = .next (State.answering { s with host := { s.host with noticesLost := false } } rest fr.tag
        (.done (.report s.statusItems)))) ∧
    (∀ b, fr.isKind 2 = true → fr.body = [b] →
      exec .crossingStatus s = .next (s.answering rest fr.tag (match numbered 8 b with
        | some c => .done (.report (s.crossingItems c))
        | none => .refused .outOfRange))) ∧
    (∀ b, fr.isKind 3 = true → fr.body = [b] →
      exec .unitStatus s = .next (s.answering rest fr.tag (match numbered 32 b with
        | none => .refused .outOfRange
        | some u =>
          match (s.unit u).mapping with
          | none => .refused .noSuchUnit
          | some m => .done (.report ((s.unit u).entryItems m s.clock.now ++ (s.unit u).audible.items s.clock.now)))))) ∧
  (∀ n : Nat, two n = [byte (n / 256), byte n] ∧ twoOrNone (some n) = two n ∧
    twoOrNone none = two Config.absentWord.toNat ∧
    four n = [byte (n / 16777216), byte (n / 65536), byte (n / 256), byte n]) ∧
  (∀ s : State,
    let k := s.clock
    s.statusItems =
      [k.mode.code] ++ two k.corridorTime ++ twoOrNone k.cycle ++ four k.timeOfDay ++ [yesNo k.timeValid] ++
      signedTwo k.correction ++ [yesNo k.hold] ++ two k.watchdog ++
      selectionBytes s.store.inForce ++ selectionBytes s.store.pendingSelection ++ [yesNo s.store.deferral] ++
      (([0, 1, 2, 3] : List GroupId).flatMap fun g =>
        let q := s.group g
        two q.stageLimit ++ two q.spacing ++ two q.pairing ++ two q.active ++ two (min (since k.now q.release) 65535) ++
          two (min (since k.now q.quietSince) 65535) ++
          [yesNo (decide (0 < q.active ∧ since k.now q.release ≤ q.pairing))] ++
          twoOrNone (q.spacingExpiry.map fun n => if reached k.now n then 0 else since n k.now)) ++
      two s.host.notices.length ++
      (s.host.filter.toList.flatMap fun e => [yesNo e.valid, e.family, e.kind, e.crossings]) ++
      [yesNo s.host.noticesLost]) ∧
  (∀ (s : State) (c : CrossingId),
    let x := s.crossing c
    let now := s.clock.now
    let lamps : List (OutputLine) := [x.port.lines.red, x.port.lines.amber, x.port.lines.green, x.port.lines.walk,
      x.port.lines.dontWalk]
    s.crossingItems c =
      [x.state.code] ++ two x.timeInState ++ twoOrNone x.timeLeft ++
      (match x.green with
        | some g => two g.left ++ [yesNo g.expired]
        | none => []) ++
      [yesNo x.closingAmber, targetCode x.pendingTarget, yesNo x.inService] ++
      twoOrNone (x.recallTimer.map fun n => if reached now n then 0 else since n now) ++
      [x.faults.code, yesNo x.failRecall] ++
      (match x.inForce with
        | some f => [1, number f.bank]
        | none => [0, 0]) ++
      [routeCode x.route, waitCode x.waiting] ++
      (match s.callOf c with
        | none => [0]
        | some r =>
          [1, byte ((s.calls.findIdx fun q => decide (q.crossing = c)) + 1), number r.crossing] ++
          two (min (since now r.registeredAt) 65535) ++ [r.sides.code, r.origins.code, yesNo r.accessible] ++
          two r.pressCount ++ twoOrNone (r.notBefore.map fun n => if reached now n then 0 else since n now)) ++
      (match x.stage with
        | none => [0]
        | some k =>
          [1, k.kind.code, numberOrNone k.group] ++ two (min (since now k.admittedAt) 65535) ++
          two (min (since now k.registeredAt) 65535) ++ [k.sides.code, k.origins.code, yesNo k.accessible] ++
          two k.pressCount ++ two k.amber ++ two k.leadRed ++ two k.trailRed ++ two k.walk ++ two k.desiredWalk ++
          two k.clearance ++ two k.walkFloor ++ two k.length ++ two k.accessibleSpeed ++ two k.margin ++ two k.walkExtra ++
          [yesNo k.truncated, yesNo k.upgraded] ++ two k.extraWalk ++ two (x.remaining k) ++ [x.state.code] ++
          twoOrNone x.timeLeft ++
          (match k.kind, x.record with
            | .coordinated, some r =>
              if 0 < r.bandLen then
                let y := s.clock.cycle.getD 0
                signedTwo (modY ((r.bandStart : Int) - modY ((s.clock.corridorTime : Int) - r.offset) y) y -
                  (x.remaining k : Int))
              else []
            | _, _ => [])) ++
      [yesNo x.accessibleMark] ++ (lamps.flatMap fun l => [l.mode.code, yesNo l.value, yesNo l.proved]) ++
      (match x.port.flash with
        | .idle => [0, 0]
        | .on e => [1, byte e]
        | .off e => [2, byte e]) ++
      (lamps.flatMap fun l => two l.mismatch ++ [senseCode l.sense]) ++ two x.port.conflict) ∧
  (∀ (k : KerbUnit) (m : Mapping) (now : Time),
    let a := k.audible
    let addresses := fun l : List UnitId =>
      byte ((List.finRange 32).filter fun v => decide (v ∈ l)).length ::
        ((List.finRange 32).filter fun v => decide (v ∈ l)).map number
    k.entryItems m now =
      [number m.crossing, m.side.code] ++ addresses m.hearing ++ [unitStateCode (some k.state)] ++ two k.misses ++
      two k.goods ++ twoOrNone k.pressBaseline ++ [yesNo k.pressBaseline.isSome] ++ twoOrNone k.extendedBaseline ++
      [yesNo k.extendedBaseline.isSome, yesNo k.heldNow] ++ two k.heldTime ++ [yesNo k.stuck, yesNo k.audioFault] ++
      (if k.state = .failed then
        two k.revivalPosition ++ twoOrNone (k.nextRevival.map fun n => if reached now n then 0 else since n now)
      else []) ++
      [yesNo k.sounding] ++
      (match k.lastCommand with
        | some q => [q.indication.code] ++ two q.locatorLevel ++ two q.walkLevel ++ [yesNo q.mute, actionCode q.action]
        | none => [0] ++ twoOrNone none ++ twoOrNone none ++ [0, 0]) ++
      [actionCode k.pendingAction] ∧
    a.items now =
      twoOrNone a.estimate ++ [yesNo a.stale] ++ two (if reached now a.dueTime then 0 else since a.dueTime now) ++
      twoOrNone (a.lastStart.map fun n => min (since now n) 65535) ++
      (match a.sample with
        | none => [0]
        | some q =>
          (match q.phase with
            | .requested => [1]
            | .measuring start => [2] ++ two (min (since now start) 65535)
            | .closed _ _ => [3]) ++ [yesNo q.earlyEnd] ++ addresses q.muted) ++
      addresses a.muteSet ++ two a.locatorLevel ++ two a.walkLevel ++
      (match a.report with
        | none => [0]
        | some (.taken level short earlyEnd) => [1] ++ two level ++ [yesNo short, yesNo earlyEnd]
        | some .abandoned => [2]
        | some .lost => [3]))

/-- FILTER_WRITE: an index of 1 to 16, a valid mark of 0 or 1 and, where the mark is set, a family of 1 to 5 and a
kind of ANY or of that family write the entry and answer with it, its four items and no other; anything else is refused
with OUT_OF_RANGE and writes nothing. With the mark clear the other fields are not checked. ANY takes no kind of its
own, FAULT is no filter family, and an invalid entry matches no notice. That an invalid entry keeps a family of 0 to 5
and a kind of 0 or 192 to 208, and holds 0 in place of any other, is the model's choice within R190 (log entry 8). -/
def Obligations.FilterWriteStoresTheEntry : Prop :=
  (∀ k : Nat, kindOfFamily 5 k = false) ∧ (∀ n : NoticeBody, n.family.number = 0 ↔ n.family = .fault) ∧
  (∀ (e : FilterEntry) (n : NoticeBody), e.valid = false → e.covers n = false) ∧
  (∀ e : FilterEntry, (DoneBody.filter e).bytes = [if e.valid then 1 else 0, e.family, e.kind, e.crossings]) ∧
  ∀ (fr : Frame) (rest : List Frame) (s : State) (ib vb f k x : Byte), s.AtTurn fr rest → fr.isKind 13 = true →
    fr.body = [ib, vb, f, k, x] →
    (∀ i, numbered 16 ib = some i → readYesNo vb = some true →
      1 ≤ f.toNat → f.toNat ≤ 5 → (k.toNat = 0 ∨ kindOfFamily f.toNat k.toNat = true) →
      exec .filterWrite s = .next (State.answering { s with host := { s.host with
        filter := s.host.filter.set i { valid := true, family := f, kind := k, crossings := x } } } rest fr.tag
          (.done (.filter { valid := true, family := f, kind := k, crossings := x })))) ∧
    (∀ i, numbered 16 ib = some i → readYesNo vb = some false →
      ∃ e : FilterEntry, e.valid = false ∧ e.crossings = x ∧ e.family = (if f.toNat ≤ 5 then f else 0) ∧
        e.kind = (if k.toNat = 0 ∨ (192 ≤ k.toNat ∧ k.toNat ≤ 208) then k else 0) ∧
        exec .filterWrite s = .next (State.answering { s with host := { s.host with
          filter := s.host.filter.set i e } } rest fr.tag (.done (.filter e)))) ∧
    ((numbered 16 ib = none ∨ readYesNo vb = none ∨ (readYesNo vb = some true ∧
        ¬ (1 ≤ f.toNat ∧ f.toNat ≤ 5 ∧ (k.toNat = 0 ∨ kindOfFamily f.toNat k.toNat = true)))) →
      exec .filterWrite s = .next (s.answering rest fr.tag (.refused .outOfRange)))

/-- COUNTERS: the block named is read whole as it stands and, where the clear flag says so, cleared whole in the same
event; an unmapped unit's block is refused with NO_SUCH_UNIT, and a block or clear flag out of range with
OUT_OF_RANGE. Nothing else changes. That the number byte given with CORRIDOR is not looked at is the model's choice (log
entry 16), and so is that the clear flag is checked with the block, before NO_SUCH_UNIT (log entry 42). -/
def Obligations.CountersReadAndClear : Prop :=
  ∀ (fr : Frame) (rest : List Frame) (s : State) (kb nb cb : Byte), s.AtTurn fr rest → fr.isKind 12 = true →
    fr.body = [kb, nb, cb] →
    ((readBlock kb nb = none ∨ readYesNo cb = none) →
      exec .counters s = .next (s.answering rest fr.tag (.refused .outOfRange))) ∧
    (∀ b clear, readBlock kb nb = some b → readYesNo cb = some clear → s.lacksUnit b = true →
      exec .counters s = .next (s.answering rest fr.tag (.refused .noSuchUnit))) ∧
    (∀ b clear, readBlock kb nb = some b → readYesNo cb = some clear → s.lacksUnit b = false →
      exec .counters s = .next (State.answering { s with counters := if clear then s.counters.clear b else s.counters } rest
        fr.tag (.done (.counters b clear (s.counters.snapshot b)))) ∧
      (∀ n ∈ (s.counters.clear b).snapshot b, n = 0) ∧
      ∀ b', b' ≠ b → (s.counters.clear b).snapshot b' = s.counters.snapshot b')

/-! ### Resets and start-up -/

/-- RESTART: the reply is made and no further request begins; nothing else changes until the reply has left.
COLD_START and RESTART_BEGIN (at the end of the RESTART reply) leave every block at its values after reset; a cold
start clears the counters and the filter, and RESTART keeps both. Elsewhere RESTART_BEGIN does nothing.
The model's choices here: start-up is a command of its own (log entry 18); the family, kind and crossing set of a filter
entry after a cold start are 0 (log entry 8); the end of the RESTART reply is RESTART_BEGIN, which does nothing at any
other time (log entry 33); and values after reset that the manual does not give are those of log entry 34. -/
def Obligations.ResetsLeaveTheirValues : Prop :=
  (∀ (fr : Frame) (rest : List Frame) (s : State), s.AtTurn fr rest → fr.isKind 14 = true → fr.body = [] →
     exec .restart s = .next (State.answering { s with host := { s.host with restartHold := true } } rest fr.tag
       (.done .restart)) ∧
     ∀ t, exec .restart s = .next t → t.host.ready = false) ∧
  (∀ s : State,
     (∃ t, exec .coldStart s = .next t ∧ AfterReset s t .initial (Vector.replicate 16 .invalid)) ∧
     (s.host.restarting = true → ∃ t, exec .restartBegin s = .next t ∧ AfterReset s t s.counters s.host.filter) ∧
     (s.host.restarting = false → exec .restartBegin s = .next s))

/-- START_UP_COMPLETE after a reset, where the stored selection has a base header and every effective record fits it:
the selection is in force, the clock has its Y and is in FREE mode at T = 0, the groups have its K, H and P, and every
crossing with a record is in STARTUP_FLASH for 50 ds with the call that fail recall placed. START_UP_COMPLETE after a
reset, where no stored selection can be re-adopted: the stored selection becomes none, no selection is in force, and
every crossing stays UNCONFIGURED with an empty queue. On a running part it does nothing.
That start-up is a command of its own is the model's choice (log entry 18). -/
def Obligations.StartUpReadoptsTheStoredSelection : Prop :=
  (∀ (s₀ s : State) (k : Counters) (filter : Vector FilterEntry 16) (sel : Selection) (h : Header),
     AfterReset s₀ s k filter →
     s.store.stored = some sel → s.store.header sel.base = some h → s.store.misfit sel h = none →
     ∃ t, exec .startUpComplete s = .next t ∧ t.running = true ∧
       t.clock = { Clock.initial with cycle := some h.cycle } ∧
       t.store.inForce = some sel ∧ t.store.stored = some sel ∧ t.store.pendingSelection = none ∧
       t.store.deferral = false ∧ (∀ b, t.store.header b = s.store.header b) ∧
       (∀ b c, t.store.recordIn b c = s.store.recordIn b c) ∧
       (∀ g, (t.group g).stageLimit = (h.groups[g]).stageLimit ∧ (t.group g).spacing = (h.groups[g]).spacing ∧
         (t.group g).pairing = (h.groups[g]).pairing ∧ (t.group g).active = 0) ∧
       (∀ c, (t.crossing c).inForce = s.store.effective sel c) ∧
       (∀ c f, s.store.effective sel c = some f →
         (t.crossing c).state = .startupFlash ∧ (t.crossing c).timeLeft = some 50 ∧ (t.crossing c).stage = none ∧
         (t.crossing c).faults = {} ∧ (t.crossing c).retainedAmber = f.record.amber ∧
         t.callOf c = some (recallOffer.newRecord c 0)) ∧
       (∀ c, s.store.effective sel c = none → (t.crossing c).state = .unconfigured ∧ t.callOf c = none) ∧
       (∀ u, (t.unit u).link = (s.unit u).link)) ∧
  ((∀ (s₀ s : State) (k : Counters) (filter : Vector FilterEntry 16), AfterReset s₀ s k filter →
     (∀ sel, s.store.stored = some sel → s.store.header sel.base = none ∨
       ∃ h, s.store.header sel.base = some h ∧ (s.store.misfit sel h).isSome = true) →
     ∃ t, exec .startUpComplete s = .next t ∧ t.running = true ∧ t.clock = .initial ∧ t.store.stored = none ∧
       t.store.inForce = none ∧ (∀ b, t.store.header b = s.store.header b) ∧
       (∀ b c, t.store.recordIn b c = s.store.recordIn b c) ∧ t.calls = [] ∧ (∀ c, t.crossing c = .initial) ∧
       t.groups = s.groups ∧ (∀ u, (t.unit u).link = (s.unit u).link)) ∧
   ∀ s : State, s.running = true → exec .startUpComplete s = .next s.transmit)

/-! ### The corridor clock (chapter 1) -/

/-- DECISECOND_EVENT with nothing left over from the last one: the count, T, the phase and the watchdog advance; every
crossing's timers and proving advance; calls, groups, the plan store, the counters, the host port and every unit's
side of the kerb link stay. The phase waits at 9 for SECOND_ADVANCE (log entry 19). An event that was announced and
never taken is settled before the next decisecond event (log entry 2). -/
def Obligations.DecisecondAdvancesEveryTimer : Prop :=
  (∀ (inputs : ProvingInputs) (s : State), s.running = true → s.due = [] →
     ∃ t, exec (.decisecondEvent inputs) s = .next t ∧
       t.clock = { s.clock with
         now := s.clock.now + 1
         corridorTime :=
           if s.store.inForce.isSome = true then
             if s.clock.cycle.getD 0 ≤ s.clock.corridorTime + 1 then 0 else s.clock.corridorTime + 1
           else s.clock.corridorTime
         phase := min (s.clock.phase + 1) 9
         boundaryDue := s.clock.boundaryDue && s.store.inForce.isSome
         watchdog := min (s.clock.watchdog + 1) 65535 } ∧
       (∀ c, t.crossing c = { s.crossing c with
         timeInState := min ((s.crossing c).timeInState + 1) 65535
         timeLeft := (s.crossing c).timeLeft.map (· - 1)
         green := (s.crossing c).green.map fun g => { g with left := g.left - 1 }
         port := (s.crossing c).port.tick inputs[c] }) ∧
       t.store = s.store ∧ t.calls = s.calls ∧ t.groups = s.groups ∧ t.counters = s.counters ∧
       t.host = s.host.transmit ∧ t.running = true ∧ t.pending = s.pending ∧
       t.kerb.resting = false ∧ t.kerb.lastPolled = s.kerb.lastPolled ∧
       (∀ u, (t.unit u).link = (s.unit u).link)) ∧
  (∀ (inputs : ProvingInputs) (s : State), s.running = true →
     exec (.decisecondEvent inputs) s = exec (.decisecondEvent inputs) s.settle)

/-- What DECISECOND_EVENT announces: the second when the phase was 9, the boundary as T wraps or when it is due with
no selection in force, the watchdog at 3 × Y in COORDINATED mode, an interval's end at time left 0, the green timer's
expiry at 0, a flash half after 5 ds, a band end as the local time reaches it, a not-before and a recall expiry as N
reaches them, a group's spacing expiry with no stage active and its pairing close with one, a FAILED unit's revival, the
window of a MEASURING sample at 20 ds, and a stale estimate at 3 × the sample interval. What the proving announces is
ProvingAnnouncesFaultsByClass.
That these events wait as an agenda is the model's choice (log entry 2). -/
def Obligations.DecisecondAnnouncesWhatFallsDue : Prop :=
  ∀ (inputs : ProvingInputs) (s t : State), s.running = true → s.due = [] →
    exec (.decisecondEvent inputs) s = .next t →
    (.secondAdvance ∈ t.due ↔ 9 ≤ s.clock.phase) ∧
    (.cycleBoundary ∈ t.due ↔
      s.store.inForce.isSome = true ∧ s.clock.cycle.getD 0 ≤ s.clock.corridorTime + 1) ∧
    (.boundaryDue ∈ t.due ↔ s.store.inForce = none ∧ s.clock.boundaryDue = true) ∧
    (.watchdog ∈ t.due ↔ s.clock.mode = .coordinated ∧ 3 * s.clock.cycle.getD 0 ≤ min (s.clock.watchdog + 1) 65535) ∧
    (∀ c, (.intervalEnd c ∈ t.due ↔ (t.crossing c).timeLeft = some 0) ∧
      (.greenExpiry c ∈ t.due ↔ (t.crossing c).green = some { left := 0, expired := false }) ∧
      (.flashHalf c ∈ t.due ↔ (s.crossing c).port.flash.complete = true) ∧
      (.bandEnd c ∈ t.due ↔ s.clock.mode = .coordinated ∧ ∃ r, (s.crossing c).record = some r ∧ 0 < r.bandLen ∧
        modY ((t.clock.corridorTime : Int) - r.offset) (s.clock.cycle.getD 0) =
          (r.bandStart + r.bandLen) % s.clock.cycle.getD 0) ∧
      (.notBefore c ∈ t.due ↔ ∃ r n, s.callOf c = some r ∧ r.notBefore = some n ∧ reached t.clock.now n = true) ∧
      (.recallExpiry c ∈ t.due ↔ ∃ n, (s.crossing c).recallTimer = some n ∧ reached t.clock.now n = true)) ∧
    (∀ g,
      (.spacing g ∈ t.due ↔ (s.group g).active = 0 ∧
        ∃ n, (s.group g).spacingExpiry = some n ∧ reached t.clock.now n = true) ∧
      (.pairing g ∈ t.due ↔ 0 < (s.group g).active ∧
        ∃ n, (s.group g).pairingClose = some n ∧ reached t.clock.now n = true)) ∧
    ∀ u,
      (.revival u ∈ t.due ↔ (s.unit u).mapping.isSome = true ∧ (s.unit u).state = .failed ∧
        (s.unit u).revivalDue = false ∧ ∃ n, (s.unit u).nextRevival = some n ∧ reached t.clock.now n = true) ∧
      (.windowClose u ∈ t.due ↔ ∃ q start, (s.unit u).audible.sample = some q ∧ q.phase = .measuring start ∧
        20 ≤ since t.clock.now start) ∧
      (∀ h, s.store.headerInForce = some h →
        (.stale u ∈ t.due ↔ (s.unit u).mapping.isSome = true ∧ (s.unit u).audible.stale = false ∧
          ∃ e start, (s.unit u).audible.estimate = some e ∧ (s.unit u).audible.lastStart = some start ∧
            3 * h.sampleInterval ≤ since t.clock.now start)) ∧
      (s.store.inForce = none → .stale u ∉ t.due)

/-- SECOND_ADVANCE with the phase at 9: the phase returns to 0 and the seconds advance, from 86399 to 0; at a change
of minute the quiet flag follows the base header in force. Quiet hours from S to F at minute m. -/
def Obligations.SecondAdvanceRunsTheTimeOfDay : Prop :=
  (∀ s : State, s.IsDue .secondAdvance → s.clock.phase = 9 →
     ∃ t, exec .secondAdvance s = .next t ∧
       t.clock = { s.clock with
         phase := 0
         timeOfDay := (s.clock.timeOfDay + 1) % 86400
         quiet :=
           if (s.clock.timeOfDay + 1) % 86400 / 60 = s.clock.timeOfDay / 60 then s.clock.quiet
           else s.clock.timeValid && (match s.store.headerInForce with
             | some h => quietAt h.quietStart h.quietEnd ((s.clock.timeOfDay + 1) % 86400 / 60)
             | none => false) } ∧
       t.crossings = s.crossings ∧ t.calls = s.calls ∧ t.groups = s.groups ∧ t.store = s.store ∧
       t.counters = s.counters ∧ t.kerb = s.kerb ∧ t.host = s.host.transmit ∧ t.due = s.due.erase .secondAdvance ∧
       (∀ u, (t.unit u).link = (s.unit u).link) ∧ (t.clock.quiet = s.clock.quiet → t.units = s.units)) ∧
  (∀ S F m : Nat,
     (S < F → (quietAt S F m = true ↔ S ≤ m ∧ m < F)) ∧ (F < S → (quietAt S F m = true ↔ S ≤ m ∨ m < F)) ∧
     quietAt S S m = false)

/-- CYCLE_BOUNDARY or BOUNDARY_DUE with a pending selection whose base has a header, where the deferral mark is set or
no crossing fails the stage test: the selection is adopted. The store, the clock's Y, mode and quiet flag, every
in-force record and the groups' K, H and P follow it; a changed Y starts T from 0 with no correction pending;
PLAN_ADOPTIONS rises. A crossing with no change pending that loses its record enters UNCONFIGURED from STARTUP_FLASH and
STARTUP_RED, begins a closing amber of the retained length in VEH_GREEN, and in a stage runs on with a change to
UNCONFIGURED pending; its call is gone; in the other states it stays. A crossing that has a record enters STARTUP_FLASH
from UNCONFIGURED; in a stage that was to end in UNCONFIGURED the pending change is withdrawn; otherwise its pending
change stays, and outside VEH_GREEN, where its call may be admitted, its state and stage. That the boundary-due flag is
clear although a PLAN SELECT set it again meanwhile is the model's choice (log entry 30). -/
def Obligations.BoundaryAdoptsThePendingSelection : Prop :=
  ∀ (i : Instr) (d : Due) (s : State) (sel : Selection) (h : Header),
    (i = .cycleBoundary ∧ d = .cycleBoundary ∨ i = .boundaryDue ∧ d = .boundaryDue) → s.IsDue d →
    s.store.pendingSelection = some sel → s.store.header sel.base = some h →
    (s.store.deferral = true ∨ s.failing sel h = none) →
    ∃ t, exec i s = .next t ∧
      t.store = { s.store with inForce := some sel, pendingSelection := none, stored := some sel, deferral := false } ∧
      t.clock.cycle = some h.cycle ∧ t.clock.boundaryDue = false ∧ t.clock.now = s.clock.now ∧
      t.clock.timeOfDay = s.clock.timeOfDay ∧ t.clock.watchdog = s.clock.watchdog ∧
      t.clock.mode = (if h.coordination then s.clock.mode else .free) ∧
      (s.clock.cycle ≠ some h.cycle → t.clock.corridorTime = 0 ∧ t.clock.correction = 0 ∧ t.clock.zeroSteps = 0 ∧
        t.clock.hold = false) ∧
      t.clock.quiet = (s.clock.timeValid && quietAt h.quietStart h.quietEnd (s.clock.timeOfDay / 60)) ∧
      (∀ c, (t.crossing c).inForce = s.store.effective sel c) ∧
      (∀ g, (t.group g).stageLimit = (h.groups[g]).stageLimit ∧ (t.group g).spacing = (h.groups[g]).spacing ∧
        (t.group g).pairing = (h.groups[g]).pairing) ∧
      t.counters.corridor.planAdoptions = min (s.counters.corridor.planAdoptions + 1) 65535 ∧
      (∀ u, (t.unit u).link = (s.unit u).link) ∧ PortKept s t ∧
      ∀ c, let x := s.crossing c
        let x' := t.crossing c
        (s.store.effective sel c = none → x.pendingChange = none →
          ((x.state = .startupFlash ∨ x.state = .startupRed) → x'.state = .unconfigured ∧ x'.timeLeft = none ∧
            x'.pendingChange = none) ∧
          (x.state = .vehGreen → x'.state = .vehAmber ∧ x'.closingAmber = true ∧ x'.green = none ∧
            x'.timeLeft = some x.retainedAmber) ∧
          ((x.state = .vehGreen ∨ x.state.ofStage = true) →
            x'.pendingChange = some { target := .unconfigured, cause := .plan }) ∧
          (x.state.ofStage = true → x'.state = x.state ∧ x'.stage = x.stage ∧ x'.timeLeft = x.timeLeft) ∧
          (x.state.serving = true → t.callOf c = none ∧ x'.recallTimer = none) ∧
          (x.state.serving = false → x'.state = x.state ∧ x'.timeLeft = x.timeLeft)) ∧
        (∀ f, s.store.effective sel c = some f →
          (x.state = .unconfigured → x'.state = .startupFlash ∧ x'.timeLeft = some 50 ∧ x'.stage = none ∧
            x'.pendingChange = none) ∧
          (x.state.ofStage = true → x.closingAmber = false → x.pendingTarget = some .unconfigured →
            x'.pendingChange = none) ∧
          (x.state ≠ .unconfigured → (x.state = .vehGreen → x.pendingChange = none) →
            ¬ (x.state.ofStage = true ∧ x.closingAmber = false ∧ x.pendingTarget = some .unconfigured) →
            x'.pendingChange = x.pendingChange) ∧
          (x.state ≠ .unconfigured → x.state ≠ .vehGreen → x'.state = x.state ∧ x'.stage = x.stage ∧
            x'.timeLeft = x.timeLeft))

/-- At a boundary with the deferral mark clear at which some crossing's coordinated stage fails the stage test, the
adoption is deferred: the selections and every in-force record stay, the deferral mark and the boundary hold are set. In
COORDINATED mode a pending correction below 0 takes no step and one of 0 or above draws the step that any boundary draws;
with no step T and the correction stay and the zero-step count is 0 at a correction of 0 and otherwise runs to 2, and with
one it is 0. In FREE mode all three stay. Tested are the crossings that have a COORDINATED stage with remaining time above
0, each under the record the pending selection gives it; the one named is the first to fail in ascending order. The stage
test, for a stage with remaining time r under a record and a cycle length: it passes with no band; it fails in the band;
otherwise it passes when r is no greater than the new gap. -/
def Obligations.FailedStageTestDefersTheAdoption : Prop :=
  (∀ (s : State) (sel : Selection) (h : Header) (f : Failing),
     s.IsDue .cycleBoundary → s.store.pendingSelection = some sel → s.store.header sel.base = some h →
     s.store.deferral = false → s.failing sel h = some f →
     ∃ t, exec .cycleBoundary s = .next t ∧ t.store = { s.store with deferral := true } ∧ t.clock.hold = true ∧
       t.clock.cycle = s.clock.cycle ∧ t.clock.mode = s.clock.mode ∧
       (s.clock.mode = .free → t.clock.corridorTime = s.clock.corridorTime ∧ t.clock.correction = s.clock.correction ∧
         t.clock.zeroSteps = s.clock.zeroSteps) ∧
       (∀ y, s.clock.mode = .coordinated → s.clock.cycle = some y →
         ∃ δ, (s.clock.correction < 0 → δ = 0) ∧ (0 ≤ s.clock.correction → s.DrawsStep y δ) ∧
           t.clock.corridorTime = (if δ = 0 then s.clock.corridorTime else modY δ y) ∧
           t.clock.correction = s.clock.correction - δ ∧
           t.clock.zeroSteps = (if δ ≠ 0 ∨ s.clock.correction = 0 then 0 else if s.clock.zeroSteps = 0 then 1
             else if s.clock.zeroSteps = 1 then 2 else s.clock.zeroSteps) ∧
           t.counters.corridor.correctionsApplied = (if δ = 0 then s.counters.corridor.correctionsApplied
             else min (s.counters.corridor.correctionsApplied + 1) 65535)) ∧
       (∀ c, (t.crossing c).inForce = (s.crossing c).inForce) ∧
       t.counters.corridor.planAdoptions = s.counters.corridor.planAdoptions ∧
       (∀ u, (t.unit u).link = (s.unit u).link) ∧ PortKept s t) ∧
  (∀ (s : State) (sel : Selection) (h : Header),
     let fails : CrossingId → Nat → Option Nat → Prop := fun c r gap =>
       ∃ k f, (s.crossing c).stage = some k ∧ k.kind = .coordinated ∧
         r = (s.crossing c).timeLeft.getD 0 + (match (s.crossing c).state with
           | .vehAmber => k.leadRed + k.walk + k.clearance + k.trailRed
           | .leadRed => k.walk + k.clearance + k.trailRed
           | .walk => k.clearance + k.trailRed
           | .clearance => k.trailRed
           | _ => 0) ∧
         0 < r ∧ s.store.effective sel c = some f ∧
         (match stageTest f.record h.cycle r with
           | .passes => False
           | .inBand => gap = none
           | .beyond g => gap = some g)
     (∀ f, s.failing sel h = some f ↔
       fails f.crossing f.remaining f.gap ∧ ∀ c r gap, c < f.crossing → ¬ fails c r gap) ∧
     (s.failing sel h = none ↔ ∀ c r gap, ¬ fails c r gap)) ∧
  (∀ (rec : Record) (y r : Nat), 0 < y →
     let t : Nat := ((-(rec.offset : Int)) % (y : Int)).toNat
     let g : Nat := (((rec.bandStart : Int) - t) % (y : Int)).toNat
     stageTest rec y r =
       if rec.bandLen = 0 then .passes
       else if (((t : Int) - rec.bandStart) % (y : Int)).toNat < rec.bandLen then .inBand
       else if r ≤ g then .passes else .beyond g)

/-- At a cycle boundary in COORDINATED mode with no selection pending the hold is cleared and a step is drawn from the
pending correction p: it has the sign of p, and its magnitude is the smallest of |p|, floor(Y/10) and the bound b. A
crossing with a coordinated stage whose remaining time r is above 0, and with a band, allows g - r forward and u - e
backward, with g the gap to its next band start and u the time since its last band end from its local time at T = 0, and
e the stage's elapsed time; no other crossing sets a bound. The bound is the smallest of what they allow, 0 below 0, and
none where no crossing sets one. A step moves T to it modulo Y, leaves the remainder pending, and is counted; with
no step T and p stay, and the zero-step count runs to 2, which sets the hold.
A zero-step count of 2 that meets another boundary with no step stays 2 by the model's choice (log entry 13). -/
def Obligations.BoundaryStepsTheCorrection : Prop :=
  ∀ (s : State) (y : Nat), s.IsDue .cycleBoundary → s.store.pendingSelection = none → s.clock.mode = .coordinated →
    s.clock.cycle = some y →
    ∃ t δ, exec .cycleBoundary s = .next t ∧ s.DrawsStep y δ ∧
      (δ ≠ 0 → t.clock = { s.clock with
        hold := false, corridorTime := modY δ y, correction := s.clock.correction - δ, zeroSteps := 0 } ∧
        t.counters.corridor.correctionsApplied = min (s.counters.corridor.correctionsApplied + 1) 65535) ∧
      (δ = 0 → t.clock = { s.clock with
        hold := decide (s.clock.correction ≠ 0 ∧ s.clock.zeroSteps = 1)
        zeroSteps := if s.clock.correction = 0 then 0 else if s.clock.zeroSteps = 0 then 1
          else if s.clock.zeroSteps = 1 then 2 else s.clock.zeroSteps } ∧
        t.counters.corridor.correctionsApplied = s.counters.corridor.correctionsApplied) ∧
      t.store = s.store ∧ (∀ c, (t.crossing c).inForce = (s.crossing c).inForce) ∧ PortKept s t ∧ KerbKept s t

/-- WATCHDOG_EXPIRY in COORDINATED mode at a count of 3 × Y or more: the mode becomes FREE, the pending correction and
the zero-step count become 0, and T, Y, the hold, the count and the plan store stay. In FREE mode, or below 3 × Y, it
does nothing. -/
def Obligations.WatchdogExpiryDropsToFree : Prop :=
  ∀ s : State, s.IsDue .watchdog →
    (s.clock.mode = .coordinated → 3 * s.clock.cycle.getD 0 ≤ s.clock.watchdog →
      ∃ t, exec .watchdogExpiry s = .next t ∧
        t.clock = { s.clock with mode := .free, correction := 0, zeroSteps := 0 } ∧ t.store = s.store ∧
        t.counters.corridor.work = s.counters.corridor.work ∧ (∀ c, (t.crossing c).inForce = (s.crossing c).inForce) ∧
        KerbKept s t ∧ PortKept s t ∧ t.due = s.due.erase .watchdog) ∧
    ((s.clock.mode = .free ∨ s.clock.watchdog < 3 * s.clock.cycle.getD 0) →
      exec .watchdogExpiry s = .next (s.without .watchdog).transmit)

/-- SYNC: a time of day of 86400 or more, or a reference of Y or more while a selection is in force, is refused with
OUT_OF_RANGE, and nothing else changes. An accepted SYNC sets the time of day, its flag and the phase, restarts the
watchdog and counts in SYNC_ACCEPTED; by mode and selection it leaves T, sets T, enters COORDINATED with no correction
pending, or measures the error e with -Y/2 < e ≤ Y/2 and makes it the pending correction, or 0 within 5 ds; the reply
gives the result, the mode, T and the correction. Where T is set, the band ends announced give way to the time-step
event. That a boundary announced and not yet taken is then withdrawn, because the next boundary comes when T next wraps,
is read from R10 (log entry 22, the model's choice), and so is that a stage whose remaining time is 0 is still in flight
for NOT_SET (log entry 32, the model's choice). -/
def Obligations.SyncIsRefusedOrSetsTheClock : Prop :=
  (∀ (fr : Frame) (rest : List Frame) (s : State), s.AtTurn fr rest → fr.isKind 7 = true → fr.body.length = 6 →
     (86400 ≤ readFour fr.body 2 ∨ (s.store.inForce.isSome = true ∧ s.clock.cycle.getD 0 ≤ readTwo fr.body 0)) →
     exec .sync s = .next (s.answering rest fr.tag (.refused .outOfRange))) ∧
  (∀ (fr : Frame) (rest : List Frame) (s : State) (tref seconds : Nat), s.AtTurn fr rest → fr.isKind 7 = true →
     fr.body.length = 6 → tref = readTwo fr.body 0 → seconds = readFour fr.body 2 → seconds < 86400 →
     (s.store.inForce.isSome = true → tref < s.clock.cycle.getD 0) →
     let y := s.clock.cycle.getD 0
     let e0 := modY ((tref : Int) - s.clock.corridorTime) y
     let e : Int := if y < 2 * e0 then (e0 : Int) - y else e0
     ∃ t result, exec .sync s = .next t ∧
       t.clock.timeOfDay = seconds ∧ t.clock.phase = 0 ∧ t.clock.timeValid = true ∧ t.clock.watchdog = 0 ∧
       t.clock.now = s.clock.now ∧ t.clock.cycle = s.clock.cycle ∧ t.clock.hold = s.clock.hold ∧
       t.clock.boundaryDue = s.clock.boundaryDue ∧
       t.counters.corridor.syncAccepted = min (s.counters.corridor.syncAccepted + 1) 65535 ∧
       Answered s t fr.tag (.done (.sync result t.clock.mode t.clock.corridorTime t.clock.correction)) ∧
       t.store = s.store ∧ t.host.requests = rest ∧ t.host.executing = s.host.executing ∧ t.host.filter = s.host.filter ∧
       KerbKept s t ∧ (∀ c, (t.crossing c).inForce = (s.crossing c).inForce) ∧
       (match s.clock.mode, s.store.headerInForce with
         | .free, none => result = .timeOfDayOnly ∧ t.clock.mode = .free ∧ t.clock.corridorTime = s.clock.corridorTime ∧
             t.clock.correction = s.clock.correction ∧ t.clock.zeroSteps = s.clock.zeroSteps
         | .free, some h =>
           if s.anyCoordinatedStage then
             result = .notSet ∧ t.clock.mode = .free ∧ t.clock.corridorTime = s.clock.corridorTime ∧
               t.clock.correction = s.clock.correction ∧ t.clock.zeroSteps = s.clock.zeroSteps
           else if h.coordination then
             result = .entered ∧ t.clock.mode = .coordinated ∧ t.clock.corridorTime = tref ∧ t.clock.correction = 0 ∧
               t.clock.zeroSteps = 0
           else
             result = .set ∧ t.clock.mode = .free ∧ t.clock.corridorTime = tref ∧
               t.clock.correction = s.clock.correction ∧ t.clock.zeroSteps = s.clock.zeroSteps
         | .coordinated, _ => t.clock.mode = .coordinated ∧ t.clock.corridorTime = s.clock.corridorTime ∧
             t.clock.zeroSteps = s.clock.zeroSteps ∧
             if e.natAbs ≤ 5 then result = .inStep ∧ t.clock.correction = 0
             else result = .pending ∧ t.clock.correction = e) ∧
       (if result = .entered ∨ result = .set then
          ∀ d, d ∈ t.due ↔ d ∈ s.due ∧ d ≠ .cycleBoundary ∧ ∀ c, d ≠ .bandEnd c
        else t.due = s.due))

/-- BAND_END_EVENT in COORDINATED mode, at a crossing with a band and a call that may be served (no not-before, green
timer expired in VEH_GREEN), with the hold clear. Let g be the gap to the next band start. In band the call waits with
IN_BAND; where the whole stage fits within g it is admitted with the desired walk; where a stage cut to its minimum
walk fits, with the walk g - F; otherwise it waits with GAP. The other crossings, the groups and the clock stay. -/
def Obligations.BandEndDecidesTheCall : Prop :=
  ∀ (s : State) (c : CrossingId) (call : CallRecord) (r : Record) (y : Nat),
    s.IsDue (.bandEnd c) → s.clock.mode = .coordinated → s.clock.hold = false → s.clock.cycle = some y →
    s.callOf c = some call → call.notBefore = none → (s.crossing c).record = some r → 0 < r.bandLen →
    (s.crossing c).greenExpired = true →
    let x := call.accessible
    let t₀ := modY ((s.clock.corridorTime : Int) - r.offset) y
    let g := modY ((r.bandStart : Int) - t₀) y
    ∃ t, exec (.bandEndEvent c) s = .next t ∧
      (∀ c', c' ≠ c → t.crossing c' = s.crossing c' ∧ t.callOf c' = s.callOf c' ∧
        t.counters.crossings[c'] = s.counters.crossings[c']) ∧
      t.groups = s.groups ∧ CorridorKept s t ∧ KerbKept s t ∧ PortKept s t ∧ t.due = s.due.erase (.bandEnd c) ∧
      (if modY ((t₀ : Int) - r.bandStart) y < r.bandLen then
        t.crossing c = { s.crossing c with route := some .band, waiting := some .inBand } ∧ t.calls = s.calls
      else if r.duration x (r.desiredWalk x) ≤ g then
        (t.crossing c).stage = some (newStage s.clock.now call r
          { route := .band, start := none, walk := r.desiredWalk x, cut := none }) ∧
        (t.crossing c).state = .vehAmber ∧ (t.crossing c).timeLeft = some r.amber ∧ t.callOf c = none
      else if r.duration x r.minWalk ≤ g then
        (t.crossing c).stage = some (newStage s.clock.now call r
          { route := .band, start := none, walk := g - r.fixedPart x, cut := some .band }) ∧
        (t.crossing c).state = .vehAmber ∧ (t.crossing c).timeLeft = some r.amber ∧ t.callOf c = none
      else
        t.crossing c = { s.crossing c with route := some .band, waiting := some .gap } ∧ t.calls = s.calls)

/-! ### The plan store (chapter 2) -/

/-- PLAN_WRITE checked whole, in order: a bank, first slot, count or last slot out of range is refused with
OUT_OF_RANGE, then a wrong length with BAD_LENGTH, then a bank in use with BANK_IN_USE. A body too short to hold the
three fields is refused with BAD_LENGTH. A refused PLAN WRITE changes
nothing else. PLAN_WRITE that passes its checks takes the turn of its first record: a record that fails validation
stops the transfer with nothing written, and a valid one begins its write, its slot absent from that moment, with no
reply yet and with the records after it waiting in slot order, 35 bytes each. Nothing else changes. -/
def Obligations.PlanWriteIsCheckedThenBegins : Prop :=
  (∀ (fr : Frame) (rest : List Frame) (s : State), s.AtTurn fr rest → fr.isKind 4 = true → fr.body.length < 3 →
     exec .planWrite s = .next (s.answering rest fr.tag (.refused .badLength))) ∧
  (∀ (fr : Frame) (rest : List Frame) (s : State) (b f n : Byte) (records : List Byte), s.AtTurn fr rest →
     fr.isKind 4 = true → fr.body = b :: f :: n :: records →
     let badSlots := 8 < f.toNat ∨ n.toNat < 1 ∨ 9 < n.toNat ∨ 8 < f.toNat + n.toNat - 1
     let badLength := records.length ≠ (if f.toNat = 0 then 33 + 35 * (n.toNat - 1) else 35 * n.toNat)
     ((numbered 4 b = none ∨ badSlots) →
       exec .planWrite s = .next (s.answering rest fr.tag (.refused .outOfRange))) ∧
     (∀ bank, numbered 4 b = some bank → ¬ badSlots → badLength →
       exec .planWrite s = .next (s.answering rest fr.tag (.refused .badLength))) ∧
     (∀ bank, numbered 4 b = some bank → ¬ badSlots → ¬ badLength → s.store.inUse bank = true →
       exec .planWrite s = .next (s.answering rest fr.tag (.refused .bankInUse)))) ∧
  (∀ (fr : Frame) (rest : List Frame) (s : State) (b f n : Byte) (records : List Byte) (bank : BankId),
     s.AtTurn fr rest → fr.isKind 4 = true → fr.body = b :: f :: n :: records → numbered 4 b = some bank →
     f.toNat ≤ 8 → 1 ≤ n.toNat → f.toNat + n.toNat ≤ 9 →
     records.length = (if f.toNat = 0 then 33 + 35 * (n.toNat - 1) else 35 * n.toNat) → s.store.inUse bank = false →
     (∀ reason, s.store.validate bank f.toNat (records.take (if f.toNat = 0 then 33 else 35)) = .refused reason →
       exec .planWrite s = .next (s.answering rest fr.tag
         (.done (.planWrite 0 n.toNat (some f.toNat) (some reason) 0)))) ∧
     (∀ item, s.store.validate bank f.toNat (records.take (if f.toNat = 0 then 33 else 35)) = .valid item →
       ∃ t w, exec .planWrite s = .next t ∧
         t = State.transmit { s.taking rest with store := t.store, host := { (s.taking rest).host with executing := some w } } ∧
         w.tag = fr.tag ∧ w.bank = bank ∧ w.item = item ∧ w.count = n.toNat ∧ w.written = 0 ∧ w.pruned = 0 ∧
         w.rest.length = n.toNat - 1 ∧ item.slot = f.toNat ∧
         (∀ i < n.toNat - 1, w.rest[i]? =
           some ((records.drop ((if f.toNat = 0 then 33 else 35) + 35 * i)).take 35)) ∧
         t.store.slotContent bank f.toNat = none ∧
         (∀ slot ≤ 8, slot ≠ f.toNat → t.store.slotContent bank slot = s.store.slotContent bank slot) ∧
         (∀ b', b' ≠ bank → t.store.banks[b'] = s.store.banks[b']) ∧
         t.store.inForce = s.store.inForce ∧ t.store.pendingSelection = s.store.pendingSelection ∧
         t.store.stored = s.store.stored ∧ t.store.deferral = s.store.deferral))

/-- SLOT_WRITE_DONE: the slot written is present with its content, and after a header every present crossing record that
fails the new header is absent and the others are as they were. After the last record of a PLAN WRITE the reply gives
what was written and pruned. With records left the next one is validated against the bank as it stands: a valid one
begins its write, its slot absent from that moment, with no reply yet; one that fails stops the transfer, and the reply
gives what was written and not, the slot it stopped at, the reason, and what was pruned. Nothing else changes. -/
def Obligations.LastSlotWriteEndsThePlanWrite : Prop :=
  (∀ (s : State) (w : WriteRun), s.running = true → s.host.executing = some w → w.rest = [] →
    ∃ t pruned, exec .slotWriteDone s = .next t ∧ SlotFinished s.store t.store w pruned ∧
      t = State.transmit (State.respond { s with store := t.store, host := { s.host with executing := none } } w.tag
        (.done (.planWrite (w.written + 1) (w.count - (w.written + 1)) none none (w.pruned + pruned))))) ∧
  (∀ (s : State) (w : WriteRun) (l : List Byte) (rest : List (List Byte)), s.running = true →
    s.host.executing = some w → w.rest = l :: rest → w.item.slot < 8 →
    let slot := w.item.slot + 1
    ∃ p pruned, SlotFinished s.store p w pruned ∧
      (∀ reason, p.validate w.bank slot l = .refused reason →
        exec .slotWriteDone s = .next (State.transmit (State.respond
          { s with store := p, host := { s.host with executing := none } } w.tag
            (.done (.planWrite (w.written + 1) (w.count - (w.written + 1)) (some slot) (some reason)
              (w.pruned + pruned)))))) ∧
      (∀ item, p.validate w.bank slot l = .valid item →
        ∃ q, exec .slotWriteDone s = .next (State.transmit { s with store := q, host := { s.host with
            executing := some { w with
              item := item, rest := rest, written := w.written + 1, pruned := w.pruned + pruned } } }) ∧
          item.slot = slot ∧ q.slotContent w.bank slot = none ∧
          (∀ n ≤ 8, n ≠ slot → q.slotContent w.bank n = p.slotContent w.bank n) ∧
          (∀ b, b ≠ w.bank → q.banks[b] = p.banks[b]) ∧
          q.inForce = p.inForce ∧ q.pendingSelection = p.pendingSelection ∧ q.stored = p.stored ∧
          q.deferral = p.deferral))

/-- What PLAN WRITE makes of a record's bytes, fields of two bytes high byte first. A header of 33 bytes whose fields are
all in their ranges is valid and holds them; any other is refused with RANGE. A crossing record of 35 bytes whose fields
are not all in the ranges that need no header is refused with RANGE; any other is checked against its bank's header as it
stands, and is valid with its fields where that finds nothing. The checks of a crossing record against its bank's header,
in order, and the fit test. The effective record of a crossing is the overlay's where the overlay's slot is present, and
otherwise the base's. -/
def Obligations.RecordsAreCheckedAndResolved : Prop :=
  (∀ (p : PlanStore) (b : BankId) (l : List Byte), l.length = 33 →
     let one : Nat → Nat := fun i => (l.getD i 0).toNat
     let pair : Nat → Nat := fun i => one i * 256 + one (i + 1)
     let inRange : Prop := 400 ≤ pair 0 ∧ pair 0 ≤ 2400 ∧ one 2 ≤ 1 ∧
       (∀ g : GroupId, one (3 + 4 * g.val) ≤ 4 ∧ pair (4 + 4 * g.val) ≤ 600 ∧
         one (6 + 4 * g.val) ≤ min (pair (4 + 4 * g.val)) 100) ∧
       pair 19 ≤ 1439 ∧ pair 21 ≤ 1439 ∧ 100 ≤ pair 23 ∧ pair 23 ≤ 3000 ∧
       ∀ i < 8, 32 ≤ one (25 + i) ∧ one (25 + i) ≤ 126
     (inRange → ∃ h, p.validate b 0 l = .valid (.header h) ∧ h.cycle = pair 0 ∧ h.coordination = decide (one 2 = 1) ∧
       (∀ g : GroupId, h.groups[g] =
         { stageLimit := one (3 + 4 * g.val), spacing := pair (4 + 4 * g.val), pairing := one (6 + 4 * g.val) }) ∧
       h.quietStart = pair 19 ∧ h.quietEnd = pair 21 ∧ h.sampleInterval = pair 23 ∧ h.label = l.drop 25) ∧
     (¬ inRange → p.validate b 0 l = .refused .range)) ∧
  (∀ (p : PlanStore) (b : BankId) (c : CrossingId) (l : List Byte), l.length = 35 →
     let one : Nat → Nat := fun i => (l.getD i 0).toNat
     let pair : Nat → Nat := fun i => one i * 256 + one (i + 1)
     let r : Record :=
       { length := pair 0, normalSpeed := one 2, accessibleSpeed := one 3, walk := pair 4, minWalk := pair 6,
         walkExtra := one 8, margin := one 9, amber := one 10, leadRed := one 11, trailRed := one 12,
         minGreen := pair 13, offset := pair 15, bandStart := pair 17, bandLen := pair 19,
         group := numbered 4 (l.getD 21 0), partner := numbered 8 (l.getD 22 0), linkDelay := pair 23,
         recallInterval := pair 25, stuckThreshold := pair 27, walkPattern := one 29, locatorMargin := one 30,
         walkMargin := one 31, minLevel := one 32, maxLevel := one 33, nightCap := one 34 }
     let inRange : Prop := 20 ≤ r.length ∧ r.length ≤ 400 ∧ 90 ≤ r.normalSpeed ∧ r.normalSpeed ≤ 150 ∧
       50 ≤ r.accessibleSpeed ∧ r.accessibleSpeed ≤ r.normalSpeed ∧ 40 ≤ r.walk ∧ r.walk ≤ 300 ∧
       40 ≤ r.minWalk ∧ r.minWalk ≤ r.walk ∧ r.walkExtra ≤ 200 ∧ r.margin ≤ 50 ∧ 30 ≤ r.amber ∧ r.amber ≤ 60 ∧
       10 ≤ r.leadRed ∧ r.leadRed ≤ 40 ∧ 10 ≤ r.trailRed ∧ r.trailRed ≤ 40 ∧ 50 ≤ r.minGreen ∧ r.minGreen ≤ 1200 ∧
       one 21 ≤ 4 ∧ one 22 ≤ 8 ∧ r.linkDelay ≤ 300 ∧
       (r.recallInterval = 0 ∨ 300 ≤ r.recallInterval ∧ r.recallInterval ≤ 3000) ∧
       300 ≤ r.stuckThreshold ∧ r.stuckThreshold ≤ 2400 ∧ r.walkPattern ≤ 7 ∧ r.locatorMargin ≤ 15 ∧
       r.walkMargin ≤ 20 ∧ 40 ≤ r.minLevel ∧ r.minLevel ≤ 70 ∧ r.minLevel ≤ r.maxLevel ∧ r.maxLevel ≤ 96 ∧
       r.minLevel ≤ r.nightCap ∧ r.nightCap ≤ r.maxLevel
     (¬ inRange → p.validate b (c.val + 1) l = .refused .range) ∧
     (inRange → p.validate b (c.val + 1) l = match checkAtWrite (p.header b) c r with
       | some reason => .refused reason
       | none => .valid (.record c r))) ∧
  (∀ (c : CrossingId) (r : Record),
     checkAtWrite none c r = some .noHeader ∧
     ∀ h : Header, checkAtWrite (some h) c r =
       if ¬ (r.offset < h.cycle ∧ r.bandStart < h.cycle ∧ r.bandLen < h.cycle) then some .range
       else if ∃ g, r.group = some g ∧ (h.groups[g]).stageLimit = 0 then some .group
       else if r.partner = some c then some .partner
       else if 0 < r.bandLen ∧ h.cycle < r.bandLen + (r.amber + r.leadRed + r.minWalk +
           ((100 * r.length + r.accessibleSpeed - 1) / r.accessibleSpeed + r.margin) + r.trailRed) then some .fit
       else none) ∧
  (∀ (p : PlanStore) (sel : Selection) (c : CrossingId),
     (∀ o f, sel.overlay = some o → p.recordIn o c = some f → p.effective sel c = some f) ∧
     ((∀ o, sel.overlay = some o → p.recordIn o c = none) → p.effective sel c = p.recordIn sel.base c))

/-- PLAN_READ: a bank or slot out of range is refused with OUT_OF_RANGE; otherwise the reply carries the slot's
content if it is present and the bank's standing. Nothing else changes. What a bank in force holds for a crossing it
supplies is the record that crossing runs on. -/
def Obligations.PlanReadReportsTheSlot : Prop :=
  ∀ (fr : Frame) (rest : List Frame) (s : State) (b n : Byte), s.AtTurn fr rest → fr.isKind 5 = true →
    fr.body = [b, n] →
    (s.PlanLaw → ∀ c f, (s.crossing c).inForce = some f →
      s.store.slotContent f.bank (c.val + 1) = some (.record c f.record)) ∧
    exec .planRead s = .next (s.answering rest fr.tag (match numbered 4 b with
      | none => .refused .outOfRange
      | some bank =>
        if 8 < n.toNat then .refused .outOfRange
        else .done (.planRead (s.store.slotContent bank n.toNat)
          { inForceBase := decide (s.store.inForce.map (·.base) = some bank)
            inForceOverlay := decide (s.store.inForce.bind (·.overlay) = some bank)
            pendingBase := decide (s.store.pendingSelection.map (·.base) = some bank)
            pendingOverlay := decide (s.store.pendingSelection.bind (·.overlay) = some bank)
            stored := decide (∃ sel, s.store.stored = some sel ∧ (sel.base = bank ∨ sel.overlay = some bank)) })))

/-- PLAN_SELECT checked whole, in order: a base outside 1 to 4, or an overlay that is no bank or the base, is refused
with OUT_OF_RANGE; a headerless base with NOT_APPLICABLE; the first crossing whose effective record fails the base
header, in ascending order, with MISFIT and the first of RANGE, GROUP and FIT that it fails. An accepted selection
becomes pending, and with none in force the boundary-due flag is set. Nothing else changes. That the flag is set again
while the boundary it announced waits to be taken is the model's choice (log entry 30). -/
def Obligations.PlanSelectMakesTheSelectionPending : Prop :=
  (∀ (h : Header) (r : Record), checkAtSelect h r =
     if ¬ (r.offset < h.cycle ∧ r.bandStart < h.cycle ∧ r.bandLen < h.cycle) then some .range
     else if ∃ g, r.group = some g ∧ (h.groups[g]).stageLimit = 0 then some .group
     else if 0 < r.bandLen ∧ h.cycle < r.bandLen + (r.amber + r.leadRed + r.minWalk +
         ((100 * r.length + r.accessibleSpeed - 1) / r.accessibleSpeed + r.margin) + r.trailRed) then some .fit
     else none) ∧
  (∀ (p : PlanStore) (sel : Selection) (h : Header),
     (p.misfit sel h = none ↔ ∀ c f, p.effective sel c = some f → checkAtSelect h f.record = none) ∧
     ∀ c reason, p.misfit sel h = some (c, reason) →
       (∃ f, p.effective sel c = some f ∧ checkAtSelect h f.record = some reason) ∧
       ∀ c' < c, ∀ f, p.effective sel c' = some f → checkAtSelect h f.record = none) ∧
  ∀ (fr : Frame) (rest : List Frame) (s : State) (bb ob : Byte), s.AtTurn fr rest → fr.isKind 6 = true →
    fr.body = [bb, ob] →
    ((numbered 4 bb = none ∨ 4 < ob.toNat ∨ ob = bb) →
      exec .planSelect s = .next (s.answering rest fr.tag (.refused .outOfRange))) ∧
    (∀ base overlay, numbered 4 bb = some base → (ob = 0 ∧ overlay = none ∨ overlay = numbered 4 ob ∧
        overlay.isSome = true ∧ overlay ≠ some base) →
      let sel : Selection := { base := base, overlay := overlay }
      (s.store.header base = none →
        exec .planSelect s = .next (s.answering rest fr.tag (.refused .notApplicable))) ∧
      (∀ h c reason, s.store.header base = some h → s.store.misfit sel h = some (c, reason) →
        exec .planSelect s = .next (s.answering rest fr.tag (.refused (.misfit c reason)))) ∧
      (∀ h, s.store.header base = some h → s.store.misfit sel h = none →
        exec .planSelect s = .next (State.answering { s with
          store := { s.store with pendingSelection := some sel }
          clock := { s.clock with boundaryDue := s.clock.boundaryDue || s.store.inForce.isNone } } rest fr.tag
            (.done (.planSelect sel s.store.inForce)))))

/-! ### Stage arithmetic (chapter 4) -/

/-- The clearance of a stage: the exact quotient 100 × L / S raised to a whole number, plus M, with S the accessible
speed for an accessible stage and the normal speed for any other. It lies within 14 to 850 ds over the ranges of
chapter 2, C_a is never less than C_n, and the context takes it at admission. -/
def Obligations.ClearanceRoundsUpExactly : Prop :=
  ∀ (r : Record) (x : Bool), 50 ≤ r.accessibleSpeed → r.accessibleSpeed ≤ r.normalSpeed →
    let speed := if x then r.accessibleSpeed else r.normalSpeed
    let c := r.clearance x
    r.margin ≤ c ∧ 100 * r.length ≤ (c - r.margin) * speed ∧ (c - r.margin) * speed < 100 * r.length + speed ∧
    r.clearance false ≤ r.clearance true ∧
    (20 ≤ r.length → r.length ≤ 400 → r.normalSpeed ≤ 150 → r.margin ≤ 50 → 14 ≤ c ∧ c ≤ 850) ∧
    ∀ (now : Time) (call : CallRecord) (a : Admission), call.accessible = x → (newStage now call r a).clearance = c

/-- A stage admitted at the limit of its gap, or of the hold, ends by it: its walk lies between the minimum walk and
the desired walk, its duration is no greater than the gap and no greater than the hold's limit, and a call the band
alone would let start waits with HOLD only while the hold is set. -/
def Obligations.CoordinatedStageEndsByBandStart : Prop :=
  ∀ (r : Record) (x : Bool) (y t : Nat) (held : Option Nat), r.minWalk ≤ r.walk →
    (∀ w cut, bandOutcome r x y t held = .start w cut →
      r.duration x w ≤ gapFrom r y t ∧ (∀ l, held = some l → r.duration x w ≤ l) ∧ r.minWalk ≤ w ∧ w ≤ r.desiredWalk x ∧
      (cut = none ↔ w = r.desiredWalk x)) ∧
    (bandOutcome r x y t held = .wait .hold → held.isSome = true)

/-- An upgrade of a stage already accessible changes nothing. Of a stage that is not: a FREE stage takes the
accessible clearance and the whole offered extra walk; a COORDINATED one is refused in band and where the limit leaves
no room for the added clearance, and otherwise takes the smaller of the offered extra walk and the room, ending within
the limit. A truncated stage is offered no extra walk. The limit is the gap to the next band start where the
crossing's record has a band, lowered to Y - T where the hold is set and no announced boundary waits to be taken (log
entry 21 says what then holds); with neither there is no limit. -/
def Obligations.UpgradeFitsWithinTheRoom : Prop :=
  (∀ (k : Stage) (r : Nat) (barred : Bool) (limit : Option Nat), k.accessible = true →
     upgradeOutcome k r barred limit = .already) ∧
  (∀ (s : State) (c : CrossingId), .cycleBoundary ∉ s.due →
     let y := s.clock.cycle.getD 0
     (((s.crossing c).record = none ∨ ∃ q, (s.crossing c).record = some q ∧ q.bandLen = 0) →
       s.upgradeBarred c = false ∧
       s.upgradeLimit c = if s.clock.hold then some (y - s.clock.corridorTime) else none) ∧
     (∀ q, (s.crossing c).record = some q → 0 < q.bandLen →
       let t := modY ((s.clock.corridorTime : Int) - q.offset) y
       let g := modY ((q.bandStart : Int) - t) y
       (s.upgradeBarred c = true ↔ modY ((t : Int) - q.bandStart) y < q.bandLen) ∧
       s.upgradeLimit c = some (if s.clock.hold then min g (y - s.clock.corridorTime) else g))) ∧
  ∀ (k : Stage) (r : Nat) (barred : Bool) (limit : Option Nat), k.accessible = false →
    let added := clearanceOf k.length k.accessibleSpeed k.margin - k.clearance
    let offered := if k.truncated then 0 else k.walkExtra
    (k.kind = .free → upgradeOutcome k r barred limit =
      .fits { k with clearance := clearanceOf k.length k.accessibleSpeed k.margin, walk := k.walk + offered,
                     accessible := true, upgraded := true, extraWalk := offered } offered (r + added + offered)) ∧
    (k.kind = .coordinated → barred = false → limit = none → upgradeOutcome k r barred limit =
      .fits { k with clearance := clearanceOf k.length k.accessibleSpeed k.margin, walk := k.walk + offered,
                     accessible := true, upgraded := true, extraWalk := offered } offered (r + added + offered)) ∧
    (k.kind = .coordinated → barred = true → upgradeOutcome k r barred limit = .noFit) ∧
    (∀ l, k.kind = .coordinated → barred = false → limit = some l → l < r + added →
      upgradeOutcome k r barred limit = .noFit) ∧
    (∀ l, k.kind = .coordinated → barred = false → limit = some l → r + added ≤ l →
      ∃ x, x = min offered (l - (r + added)) ∧ r + added + x ≤ l ∧ upgradeOutcome k r barred limit =
        .fits { k with clearance := clearanceOf k.length k.accessibleSpeed k.margin, walk := k.walk + x,
                       accessible := true, upgraded := true, extraWalk := x } x (r + added + x))

/-! ### The call queue (chapter 3) -/

/-- CALL: an accessible byte of 0 or 1 is taken; a crossing outside 1 to 8 is refused with OUT_OF_RANGE, and one not
in service with NOT_IN_SERVICE; either changes nothing else. A CALL absorbed by a committed stage (VEH_AMBER of a
stage, LEAD_RED, WALK; not accessible, or to an accessible stage) answers ABSORBED with its delay clamped to 600, and
changes nothing else. An accessible CALL at a crossing in service in a committed stage whose upgrade fits: the
context, and in WALK the time left, take the extra walk and the accessible clearance, the accessible mark is set,
UPGRADES rises and the reply is UPGRADED. No record changes; the other crossings, the groups, the corridor and the
kerb link stay. That an accessible byte above 1 is refused before the check of service is the model's choice (log entry
27). -/
def Obligations.CallIsRefusedAbsorbedOrUpgrades : Prop :=
  (∀ (fr : Frame) (rest : List Frame) (s : State) (cb ab d1 d0 : Byte), s.AtTurn fr rest → fr.isKind 8 = true →
     fr.body = [cb, ab, d1, d0] →
     ((numbered 8 cb = none ∨ 1 < ab.toNat) → exec .call s = .next (s.answering rest fr.tag (.refused .outOfRange))) ∧
     (∀ c, numbered 8 cb = some c → ab.toNat ≤ 1 → (s.crossing c).inService = false →
       exec .call s = .next (s.answering rest fr.tag (.refused .notInService))) ∧
     (∀ c k, numbered 8 cb = some c → ab.toNat ≤ 1 → (s.crossing c).inService = true →
       (s.crossing c).inCommittedStage = true → (s.crossing c).stage = some k → (ab = 0 ∨ k.accessible = true) →
       exec .call s = .next (s.answering rest fr.tag
         (.done (.call .absorbed (min (d1.toNat * 256 + d0.toNat) 600) ((s.callOf c).map (·.report s.clock.now))))))) ∧
  (∀ (fr : Frame) (rest : List Frame) (s : State) (cb d1 d0 : Byte) (c : CrossingId) (k k' : Stage) (x r : Nat),
     s.AtTurn fr rest → fr.isKind 8 = true → fr.body = [cb, 1, d1, d0] → numbered 8 cb = some c →
     (s.crossing c).inService = true → (s.crossing c).inCommittedStage = true → (s.crossing c).stage = some k →
     upgradeOutcome k ((s.crossing c).remaining k) (s.upgradeBarred c) (s.upgradeLimit c) = .fits k' x r →
     ∃ t, exec .call s = .next t ∧
       t.crossing c = { s.crossing c with
         stage := some k'
         timeLeft := if (s.crossing c).state = .walk then (s.crossing c).timeLeft.map (· + x) else (s.crossing c).timeLeft
         accessibleMark := true } ∧
       Answered s t fr.tag (.done (.call .upgraded (min (d1.toNat * 256 + d0.toNat) 600)
         ((s.callOf c).map (·.report s.clock.now)))) ∧
       t.counters.crossings[c] = { s.counters.crossings[c] with
         upgrades := min (s.counters.crossings[c].upgrades + 1) 65535 } ∧
       t.calls = s.calls ∧ (∀ c', c' ≠ c → t.crossing c' = s.crossing c' ∧
         t.counters.crossings[c'] = s.counters.crossings[c']) ∧
       t.groups = s.groups ∧ CorridorKept s t ∧ KerbKept s t ∧ t.host.requests = rest ∧ t.due = s.due)

/-- CALL at a crossing in service in a registering state, or accessible in a committed stage whose upgrade does not fit,
at which a stage cannot start at once (it is not in VEH_GREEN with its green timer expired, or the call has a delay):
with no record one is created, registered now, counted and answered REGISTERED; with one the offer merges into it and is
answered MERGED. CALL with no delay in VEH_GREEN with the green timer expired and the hold clear: the record, new or
merged, is evaluated in the same event; where its stage starts the record passes into the context and the reply carries
none, and otherwise it waits with its reason. Crossings of other groups, the corridor and the kerb link stay. -/
def Obligations.CallRegistersOrMerges : Prop :=
  (∀ (fr : Frame) (rest : List Frame) (s : State) (cb ab d1 d0 : Byte) (c : CrossingId) (delay : Nat),
    s.AtTurn fr rest → fr.isKind 8 = true → fr.body = [cb, ab, d1, d0] → numbered 8 cb = some c → ab.toNat ≤ 1 →
    (s.crossing c).inService = true →
    ((s.crossing c).state.registering = true ∨
      (ab = 1 ∧ (s.crossing c).inCommittedStage = true ∧ ∃ k, (s.crossing c).stage = some k ∧
        upgradeOutcome k ((s.crossing c).remaining k) (s.upgradeBarred c) (s.upgradeLimit c) = .noFit)) →
    delay = min (d1.toNat * 256 + d0.toNat) 600 →
    let nb : Option Time := if delay = 0 then none else some (s.clock.now + BitVec.ofNat 32 delay)
    (s.callOf c = none → ((s.crossing c).greenExpired = false ∨ 0 < delay) →
      ∃ t, exec .call s = .next t ∧
        t.callOf c = some { crossing := c, registeredAt := s.clock.now, sides := {}, origins := { remote := true },
                            accessible := decide (ab = 1), pressCount := 0, notBefore := nb } ∧
        Answered s t fr.tag (.done (.call .registered delay ((t.callOf c).map (·.report s.clock.now)))) ∧
        t.counters.crossings[c].callsRegistered = min (s.counters.crossings[c].callsRegistered + 1) 65535 ∧
        (t.crossing c).state = (s.crossing c).state ∧ (t.crossing c).stage = (s.crossing c).stage ∧
        OthersKept s t c ∧ CorridorKept s t ∧ KerbKept s t ∧ t.host.requests = rest ∧ t.due = s.due) ∧
    (∀ r, s.callOf c = some r → ((s.crossing c).greenExpired = false ∨ (0 < delay ∧ r.notBefore.isSome = true)) →
      ∃ t, exec .call s = .next t ∧
        t.callOf c = some { r with
          origins := { r.origins with remote := true }
          accessible := r.accessible || decide (ab = 1)
          pressCount := min r.pressCount 255
          notBefore := match r.notBefore, nb with
            | some a, some b => some (if reached a b then b else a)
            | _, _ => none } ∧
        Answered s t fr.tag (.done (.call .merged delay ((t.callOf c).map (·.report s.clock.now)))) ∧
        t.counters.crossings[c] = s.counters.crossings[c] ∧
        (t.crossing c).state = (s.crossing c).state ∧ (t.crossing c).stage = (s.crossing c).stage ∧
        OthersKept s t c ∧ CorridorKept s t ∧ KerbKept s t ∧ t.host.requests = rest ∧ t.due = s.due)) ∧
  (∀ (fr : Frame) (rest : List Frame) (s : State) (cb ab : Byte) (c : CrossingId) (r : Record), s.AtTurn fr rest →
    fr.isKind 8 = true → fr.body = [cb, ab, 0, 0] → numbered 8 cb = some c → ab.toNat ≤ 1 →
    (s.crossing c).inService = true → (s.crossing c).greenExpired = true → s.clock.hold = false →
    (s.crossing c).record = some r →
    let call : CallRecord := match s.callOf c with
      | none => { crossing := c, registeredAt := s.clock.now, sides := {}, origins := { remote := true },
                  accessible := decide (ab = 1), pressCount := 0, notBefore := none }
      | some q => { q with
          origins := { q.origins with remote := true }, accessible := q.accessible || decide (ab = 1)
          pressCount := min q.pressCount 255, notBefore := none }
    let outcome : OfferOutcome := if (s.callOf c).isSome then .merged else .registered
    let registered := if (s.callOf c).isSome then s.counters.crossings[c].callsRegistered
      else min (s.counters.crossings[c].callsRegistered + 1) 65535
    (∀ a, s.StartsAs c call.accessible r a →
      ∃ t, exec .call s = .next t ∧ (t.crossing c).state = .vehAmber ∧ (t.crossing c).timeLeft = some r.amber ∧
        (t.crossing c).stage = some (newStage s.clock.now call r a) ∧ (t.crossing c).green = none ∧ t.callOf c = none ∧
        Answered s t fr.tag (.done (.call outcome 0 none)) ∧
        t.counters.crossings[c].stages = min (s.counters.crossings[c].stages + 1) 65535 ∧
        t.counters.crossings[c].callsRegistered = registered ∧
        OthersKept s t c ∧ CorridorKept s t ∧ KerbKept s t ∧ t.host.requests = rest ∧ t.due = s.due) ∧
    (∀ route w, s.WaitsFor c call.accessible r route w →
      ∃ t, exec .call s = .next t ∧ t.callOf c = some call ∧
        t.crossing c = { s.crossing c with route := some route, waiting := some w } ∧
        Answered s t fr.tag (.done (.call outcome 0 (some (call.report s.clock.now)))) ∧
        t.counters.crossings[c].callsRegistered = registered ∧ t.groups = s.groups ∧
        OthersKept s t c ∧ CorridorKept s t ∧ KerbKept s t ∧ t.host.requests = rest ∧ t.due = s.due))

/-- An offer merged into a record: crossing and registration time stay, sides and origins are the unions, the record is
accessible if either is, the press counts add up to 255, and the not-before is absent if either is and otherwise the
earlier. An accessible record and one with no not-before stay so. The record keeps its place in the list, and the
others stay as they are. -/
def Obligations.OffersMergeIntoTheRecord : Prop :=
  (∀ (r : CallRecord) (o : Offer),
     let m := r.merge o
     m.crossing = r.crossing ∧ m.registeredAt = r.registeredAt ∧
     (m.sides.a = true ↔ r.sides.a = true ∨ o.sides.a = true) ∧ (m.sides.b = true ↔ r.sides.b = true ∨ o.sides.b = true) ∧
     (m.origins.press = true ↔ r.origins.press = true ∨ o.origins.press = true) ∧
     (m.origins.link = true ↔ r.origins.link = true ∨ o.origins.link = true) ∧
     (m.origins.remote = true ↔ r.origins.remote = true ∨ o.origins.remote = true) ∧
     (m.origins.recalled = true ↔ r.origins.recalled = true ∨ o.origins.recalled = true) ∧
     (m.accessible = true ↔ r.accessible = true ∨ o.accessible = true) ∧
     m.pressCount = min (r.pressCount + o.pressCount) 255 ∧
     (m.notBefore = none ↔ r.notBefore = none ∨ o.notBefore = none) ∧
     (∀ a b, r.notBefore = some a → o.notBefore = some b →
       m.notBefore = some (if reached a b then b else a))) ∧
  (∀ (s : State) (c : CrossingId) (o : Offer) (q : CallRecord), s.callOf c = some q →
     ∃ t, s.mergeCall c o = { s with calls := t } ∧ t.map (·.crossing) = s.calls.map (·.crossing) ∧
       (∀ r ∈ s.calls, r.crossing ≠ c → r ∈ t) ∧ (s.mergeCall c o).callOf c = some (q.merge o))

/-- CALL_CANCEL: a crossing outside 1 to 8 is refused with OUT_OF_RANGE; one with no record, or a record without
REMOTE, with NOT_APPLICABLE; either changes nothing else. A record with other origins keeps its place and its other
fields and is answered KEPT. A record of REMOTE alone is removed and answered REMOVED; with both buttons of its
crossing working no record replaces it. -/
def Obligations.CallCancelWithdrawsRemote : Prop :=
  ∀ (fr : Frame) (rest : List Frame) (s : State) (cb : Byte), s.AtTurn fr rest → fr.isKind 9 = true → fr.body = [cb] →
    (numbered 8 cb = none → exec .callCancel s = .next (s.answering rest fr.tag (.refused .outOfRange))) ∧
    ∀ c, numbered 8 cb = some c →
      ((s.callOf c = none ∨ ∃ r, s.callOf c = some r ∧ r.origins.remote = false) →
        exec .callCancel s = .next (s.answering rest fr.tag (.refused .notApplicable))) ∧
      (∀ r, s.callOf c = some r → r.origins.remote = true →
        (r.origins.press || r.origins.link || r.origins.recalled) = true →
        ∃ kept : CallRecord, kept = { r with origins := { r.origins with remote := false } } ∧
          exec .callCancel s = .next (State.answering { s with
            calls := s.calls.map fun (q : CallRecord) =>
              if q.crossing = c then { q with origins := { q.origins with remote := false } } else q } rest fr.tag
                (.done (.callCancel (some (kept.report s.clock.now)))))) ∧
      (∀ r, s.callOf c = some r → r.origins.remote = true →
        (r.origins.press || r.origins.link || r.origins.recalled) = false → (s.crossing c).failRecall = false →
        ∃ t, exec .callCancel s = .next t ∧ t.callOf c = none ∧
          (∀ c', c' ≠ c → t.callOf c' = s.callOf c' ∧ t.crossing c' = s.crossing c') ∧
          t.crossing c = { s.crossing c with waiting := none } ∧
          Answered s t fr.tag (.done (.callCancel none)) ∧ t.groups = s.groups ∧ t.units = s.units ∧
          CorridorKept s t ∧ KerbKept s t ∧ t.counters.crossings = s.counters.crossings ∧ t.host.requests = rest)

/-- NOT_BEFORE_ARRIVAL: the record's not-before becomes absent; the record stays in its place, where its crossing
cannot start a stage yet. Crossings of other groups, the corridor, the kerb link and the port stay.
RECALL_TIMER_EXPIRY: the timer stops and a RECALL offer is made: in a committed stage of a crossing, or at a crossing
out of service, it leaves no record; in a registering state of a crossing in service with no record, whose green timer
has not expired, it leaves a RECALL record registered now. -/
def Obligations.NotBeforeAndRecallReachTheQueue : Prop :=
  (∀ (s : State) (c : CrossingId) (r : CallRecord) (n : Time), s.IsDue (.notBefore c) → s.callOf c = some r →
     r.notBefore = some n → reached s.clock.now n = true → (s.crossing c).greenExpired = false →
     ∃ t, exec (.notBeforeArrival c) s = .next t ∧ t.callOf c = some { r with notBefore := none } ∧
       (t.crossing c).state = (s.crossing c).state ∧ (t.crossing c).stage = (s.crossing c).stage ∧
       OthersKept s t c ∧ CorridorKept s t ∧ KerbKept s t ∧ PortKept s t ∧ t.due = s.due.erase (.notBefore c)) ∧
  (∀ (s : State) (c : CrossingId) (n : Time), s.IsDue (.recallExpiry c) → (s.crossing c).recallTimer = some n →
     reached s.clock.now n = true →
     (((s.crossing c).inService = false ∨ (s.crossing c).state.registering = false) →
       exec (.recallTimerExpiry c) s = .next (State.transmit
         ((s.without (.recallExpiry c)).changeCrossing c fun x => { x with recallTimer := none }))) ∧
     ((s.crossing c).inService = true → (s.crossing c).state.registering = true → s.callOf c = none →
       (s.crossing c).greenExpired = false →
       ∃ t, exec (.recallTimerExpiry c) s = .next t ∧ (t.crossing c).recallTimer = none ∧
         t.callOf c = some { crossing := c, registeredAt := s.clock.now, sides := {}, origins := { recalled := true },
                             accessible := false, pressCount := 0, notBefore := none } ∧
         t.counters.crossings[c].callsRegistered = min (s.counters.crossings[c].callsRegistered + 1) 65535 ∧
         (t.crossing c).state = (s.crossing c).state ∧ OthersKept s t c ∧ CorridorKept s t ∧ KerbKept s t ∧
         PortKept s t))

/-! ### Admission and groups (chapter 5) -/

/-- GREEN_TIMER_EXPIRY on the DIRECT route with the hold clear: the green timer is marked expired; with no call
nothing else happens, a call whose not-before is still to come waits with NOT_BEFORE, and any other call is admitted
at once with its desired walk as a FREE stage counted in no group. The other crossings and the groups stay. -/
def Obligations.GreenTimerExpiryAdmitsDirectly : Prop :=
  ∀ (s : State) (c : CrossingId) (r : Record), s.IsDue (.greenExpiry c) →
    (s.crossing c).green = some { left := 0, expired := false } → (s.crossing c).state = .vehGreen →
    s.clock.hold = false → (s.crossing c).record = some r → routeOf s.clock.mode r = .direct →
    (s.callOf c = none → exec (.greenTimerExpiry c) s = .next (State.transmit
      ((s.without (.greenExpiry c)).changeCrossing c fun x => { x with green := some { left := 0, expired := true } }))) ∧
    (∀ call, s.callOf c = some call → call.notBefore.isSome = true →
      exec (.greenTimerExpiry c) s = .next (State.transmit
        ((s.without (.greenExpiry c)).changeCrossing c fun x =>
          { x with green := some { left := 0, expired := true }, route := some .direct, waiting := some .notBefore }))) ∧
    (∀ call, s.callOf c = some call → call.notBefore = none →
      ∃ t, exec (.greenTimerExpiry c) s = .next t ∧
        (t.crossing c).state = .vehAmber ∧ (t.crossing c).timeLeft = some r.amber ∧ (t.crossing c).green = none ∧
        (t.crossing c).stage = some (newStage s.clock.now call r
          { route := .direct, start := none, walk := r.desiredWalk call.accessible, cut := none }) ∧
        t.callOf c = none ∧
        t.counters.crossings[c].stages = min (s.counters.crossings[c].stages + 1) 65535 ∧
        (∀ c', c' ≠ c → t.crossing c' = s.crossing c' ∧ t.callOf c' = s.callOf c' ∧
          t.counters.crossings[c'] = s.counters.crossings[c']) ∧
        t.groups = s.groups ∧ CorridorKept s t ∧ KerbKept s t ∧ PortKept s t)

/-- SPACING_EXPIRY and PAIRING_CLOSE in a group none of whose crossings has a call: the expiry, or the close, is no
longer armed, and nothing else changes. SPACING_EXPIRY in a group with one call, eligible, and the hold clear: a new
release. The crossing is admitted with its desired walk, the stage is counted in the group, r is now, and the pairing
close is armed at now + P + 1. A group admits a call only while its active count is below its stage limit: with none
active only once its spacing has run, as a release, and otherwise only in its pairing window, as a join. Otherwise the
call waits with GROUP_FULL, PAIRING_CLOSED or SPACING. Two eligible calls of one group at its spacing expiry are taken
in the order of the list: the first is the release, and the second joins it where K is 2 or more and otherwise waits
with GROUP_FULL. PAIRING_CLOSE with stages active and the pairing window shut admits nothing: the close is no longer armed,
and every call of the group waits with NOT_BEFORE or GREEN where it may not be served, and otherwise with GROUP_FULL at
the limit and PAIRING_CLOSED below it. GREEN_TIMER_EXPIRY at a crossing whose call alone waits in its group: it is admitted as a release or as
a join, or waits with the group's reason. -/
def Obligations.GroupExpiriesDisarmReleaseAndJoin : Prop :=
  (∀ (s : State) (g : GroupId) (n : Time), reached s.clock.now n = true →
     (∀ c r, (s.crossing c).record = some r → routeOf s.clock.mode r = .group g → s.callOf c = none) →
     (s.IsDue (.spacing g) → (s.group g).spacingExpiry = some n → (s.group g).active = 0 →
       exec (.spacingExpiry g) s = .next (State.transmit
         ((s.without (.spacing g)).changeGroup g fun q => { q with spacingExpiry := none }))) ∧
     (s.IsDue (.pairing g) → (s.group g).pairingClose = some n → 0 < (s.group g).active →
       exec (.pairingClose g) s = .next (State.transmit
         ((s.without (.pairing g)).changeGroup g fun q => { q with pairingClose := none })))) ∧
  (∀ (s : State) (g : GroupId) (n : Time), s.IsDue (.pairing g) → (s.group g).pairingClose = some n →
     reached s.clock.now n = true → 0 < (s.group g).active → (s.group g).pairing < since s.clock.now (s.group g).release →
     ∃ t, exec (.pairingClose g) s = .next t ∧ t.calls = s.calls ∧
       t.group g = { s.group g with pairingClose := none } ∧ (∀ g', g' ≠ g → t.group g' = s.group g') ∧
       (∀ c call r, s.callOf c = some call → (s.crossing c).record = some r → routeOf s.clock.mode r = .group g →
         t.crossing c = { s.crossing c with
           route := some (.group g)
           waiting := some (if call.notBefore.isSome then .notBefore
             else if (s.crossing c).greenExpired = false then .green
             else if (s.group g).stageLimit ≤ (s.group g).active then .groupFull else .pairingClosed) }) ∧
       (∀ c, (s.callOf c = none ∨ ∀ r, (s.crossing c).record = some r → routeOf s.clock.mode r ≠ .group g) →
         t.crossing c = s.crossing c) ∧
       t.counters.crossings = s.counters.crossings ∧ t.units = s.units ∧
       CorridorKept s t ∧ KerbKept s t ∧ PortKept s t ∧ t.due = s.due.erase (.pairing g)) ∧
  (∀ (s : State) (g : GroupId) (n : Time) (c : CrossingId) (call : CallRecord) (r : Record),
     s.IsDue (.spacing g) → (s.group g).spacingExpiry = some n → reached s.clock.now n = true →
     (s.group g).active = 0 → 0 < (s.group g).stageLimit → (s.group g).spacing ≤ since s.clock.now (s.group g).quietSince →
     s.clock.hold = false → s.calls = [call] → call.crossing = c → call.notBefore = none →
     (s.crossing c).greenExpired = true → (s.crossing c).record = some r → routeOf s.clock.mode r = .group g →
     ∃ t, exec (.spacingExpiry g) s = .next t ∧ t.calls = [] ∧
       (t.crossing c).state = .vehAmber ∧
       (t.crossing c).stage = some (newStage s.clock.now call r
         { route := .group g, start := some .release, walk := r.desiredWalk call.accessible, cut := none }) ∧
       t.group g = { s.group g with
         active := 1, release := s.clock.now, spacingExpiry := none
         pairingClose := some (s.clock.now + BitVec.ofNat 32 ((s.group g).pairing + 1)) } ∧
       (∀ g', g' ≠ g → t.group g' = s.group g') ∧ (∀ c', c' ≠ c → t.crossing c' = s.crossing c') ∧
       CorridorKept s t ∧ KerbKept s t ∧ PortKept s t) ∧
  (∀ (s : State) (g : GroupId) (n : Time) (c c' : CrossingId) (call call' : CallRecord) (r r' : Record),
     s.IsDue (.spacing g) → (s.group g).spacingExpiry = some n → reached s.clock.now n = true →
     (s.group g).active = 0 → 0 < (s.group g).stageLimit → (s.group g).spacing ≤ since s.clock.now (s.group g).quietSince →
     s.clock.hold = false → s.calls = [call, call'] → call.crossing = c → call'.crossing = c' → c ≠ c' →
     call.notBefore = none → call'.notBefore = none → (s.crossing c).greenExpired = true →
     (s.crossing c').greenExpired = true → (s.crossing c).record = some r → (s.crossing c').record = some r' →
     routeOf s.clock.mode r = .group g → routeOf s.clock.mode r' = .group g →
     ∃ t, exec (.spacingExpiry g) s = .next t ∧
       (t.crossing c).state = .vehAmber ∧ (t.crossing c).timeLeft = some r.amber ∧
       (t.crossing c).stage = some (newStage s.clock.now call r
         { route := .group g, start := some .release, walk := r.desiredWalk call.accessible, cut := none }) ∧
       t.group g = { s.group g with
         active := min (s.group g).stageLimit 2, release := s.clock.now, spacingExpiry := none
         pairingClose := some (s.clock.now + BitVec.ofNat 32 ((s.group g).pairing + 1)) } ∧
       (if 2 ≤ (s.group g).stageLimit then
         t.calls = [] ∧ (t.crossing c').state = .vehAmber ∧ (t.crossing c').timeLeft = some r'.amber ∧
         (t.crossing c').stage = some (newStage s.clock.now call' r'
           { route := .group g, start := some .join, walk := r'.desiredWalk call'.accessible, cut := none })
       else
         t.calls = [call'] ∧
         t.crossing c' = { s.crossing c' with route := some (.group g), waiting := some .groupFull }) ∧
       (∀ g', g' ≠ g → t.group g' = s.group g') ∧ (∀ d, d ≠ c → d ≠ c' → t.crossing d = s.crossing d) ∧
       CorridorKept s t ∧ KerbKept s t ∧ PortKept s t) ∧
  (∀ (s : State) (g : GroupId) (c : CrossingId) (call : CallRecord) (r : Record), s.IsDue (.greenExpiry c) →
     (s.crossing c).green = some { left := 0, expired := false } → (s.crossing c).state = .vehGreen →
     s.clock.hold = false → s.calls = [call] → call.crossing = c → call.notBefore = none →
     (s.crossing c).record = some r → routeOf s.clock.mode r = .group g →
     ∃ t, exec (.greenTimerExpiry c) s = .next t ∧
       (∀ start, (s.group g).mayStart s.clock.now = some start →
         t.calls = [] ∧ (t.crossing c).state = .vehAmber ∧ (t.crossing c).timeLeft = some r.amber ∧
         (t.crossing c).stage = some (newStage s.clock.now call r
           { route := .group g, start := some start, walk := r.desiredWalk call.accessible, cut := none }) ∧
         (t.group g).active = (s.group g).active + 1 ∧
         (start = .join → t.group g = { s.group g with active := (s.group g).active + 1 }) ∧
         (start = .release → (t.group g).release = s.clock.now)) ∧
       ((s.group g).mayStart s.clock.now = none →
         t.calls = s.calls ∧ t.groups = s.groups ∧
         t.crossing c = { s.crossing c with
           green := some { left := 0, expired := true }
           route := some (.group g), waiting := some (s.group g).reason }) ∧
       (∀ g', g' ≠ g → t.group g' = s.group g') ∧ (∀ c', c' ≠ c → t.crossing c' = s.crossing c') ∧
       CorridorKept s t ∧ KerbKept s t ∧ PortKept s t) ∧
  (∀ (q : Group) (now : Time),
     (q.mayStart now = some .release ↔
       q.active = 0 ∧ 0 < q.stageLimit ∧ q.spacing ≤ since now q.quietSince) ∧
     (q.mayStart now = some .join ↔ 0 < q.active ∧ q.active < q.stageLimit ∧ since now q.release ≤ q.pairing) ∧
     (q.mayStart now = none → q.reason = if q.stageLimit ≤ q.active then .groupFull
       else if 0 < q.active then .pairingClosed else .spacing))

/-! ### The crossing sequence (chapter 6) -/

/-- INTERVAL_END before walk begin and after it, where fail recall has nothing to place: STARTUP_FLASH is followed by
30 ds of STARTUP_RED, VEH_AMBER of a stage by the context's lead red, WALK by its clearance and CLEARANCE by its trail
red. Nothing else changes. Where fail recall has a record to place, at the entry to STARTUP_RED, CLEARANCE or TRAIL_RED it
joins the back of the call queue, counted, and waits with GREEN; the entry to LEAD_RED, no registering state, places none.
INTERVAL_END of STARTUP_RED at a crossing with a record: VEH_GREEN with the green timer at
G_min and the recall timer started where the record has an interval, fail recall placing its record where there is none.
INTERVAL_END of a closing amber bound for
CMD_FLASH or DARK: that state is entered, with no change pending. Bound for UNCONFIGURED: it is entered, and left in the
same event for STARTUP_FLASH where the crossing has a record by then. Bound for FAULT_FLASH: it is entered, with no
call. The corridor, the kerb link and the port stay. -/
def Obligations.IntervalEndEntersTheNextInterval : Prop :=
  (∀ (s : State) (c : CrossingId) (k : Stage), s.IsDue (.intervalEnd c) → (s.crossing c).timeLeft = some 0 →
     ((s.crossing c).failRecall = false ∨ (s.crossing c).inService = false ∨ (s.callOf c).isSome = true) →
     ((s.crossing c).state = .startupFlash → exec (.intervalEnd c) s = .next (State.transmit
       ((s.without (.intervalEnd c)).changeCrossing c fun x => x.enter .startupRed (some 30)))) ∧
     ((s.crossing c).state = .vehAmber → (s.crossing c).closingAmber = false → (s.crossing c).stage = some k →
       exec (.intervalEnd c) s = .next (State.transmit
         ((s.without (.intervalEnd c)).changeCrossing c fun x => x.enter .leadRed (some k.leadRed)))) ∧
     ((s.crossing c).state = .walk → (s.crossing c).stage = some k → exec (.intervalEnd c) s = .next (State.transmit
       ((s.without (.intervalEnd c)).changeCrossing c fun x => x.enter .clearance (some k.clearance)))) ∧
     ((s.crossing c).state = .clearance → (s.crossing c).stage = some k → exec (.intervalEnd c) s = .next (State.transmit
       ((s.without (.intervalEnd c)).changeCrossing c fun x => x.enter .trailRed (some k.trailRed))))) ∧
  (∀ (s : State) (c : CrossingId), s.IsDue (.intervalEnd c) → (s.crossing c).timeLeft = some 0 →
     (s.crossing c).failRecall = true → (s.crossing c).inService = true → s.callOf c = none →
     (∀ k, (s.crossing c).state = .vehAmber → (s.crossing c).closingAmber = false → (s.crossing c).stage = some k →
       exec (.intervalEnd c) s = .next (State.transmit
         ((s.without (.intervalEnd c)).changeCrossing c fun x => x.enter .leadRed (some k.leadRed)))) ∧
     (∀ st left, ((s.crossing c).state = .startupFlash ∧ st = .startupRed ∧ left = 30 ∨
         (s.crossing c).state = .walk ∧ st = .clearance ∧ (s.crossing c).stage.map (·.clearance) = some left ∨
         (s.crossing c).state = .clearance ∧ st = .trailRed ∧ (s.crossing c).stage.map (·.trailRed) = some left) →
       ∃ t, exec (.intervalEnd c) s = .next t ∧
         t.calls = s.calls ++ [{ crossing := c, registeredAt := s.clock.now, sides := {}, origins := { recalled := true },
                                 accessible := false, pressCount := 0, notBefore := none }] ∧
         t.crossing c = (match (s.crossing c).record with
           | some r => { (s.crossing c).enter st (some left) with
               route := some (routeOf s.clock.mode r), waiting := some .green }
           | none => (s.crossing c).enter st (some left)) ∧
         t.counters.crossings[c] = { s.counters.crossings[c] with
           callsRegistered := min (s.counters.crossings[c].callsRegistered + 1) 65535 } ∧
         (∀ c', c' ≠ c → t.crossing c' = s.crossing c' ∧ t.counters.crossings[c'] = s.counters.crossings[c']) ∧
         t.groups = s.groups ∧ t.units = s.units ∧ CorridorKept s t ∧ KerbKept s t ∧ PortKept s t)) ∧
  (∀ (s : State) (c : CrossingId), s.IsDue (.intervalEnd c) → (s.crossing c).timeLeft = some 0 →
     (∀ r, (s.crossing c).state = .startupRed → (s.crossing c).record = some r → (s.crossing c).pendingChange = none →
       ∃ t, exec (.intervalEnd c) s = .next t ∧ (t.crossing c).state = .vehGreen ∧
         (t.crossing c).green = some { left := r.minGreen, expired := false } ∧ (t.crossing c).timeLeft = none ∧
         (t.crossing c).recallTimer = (if 0 < r.recallInterval then
           some (s.clock.now + BitVec.ofNat 32 r.recallInterval) else (s.crossing c).recallTimer) ∧
         t.callOf c = (match s.callOf c with
           | some q => some q
           | none => if (s.crossing c).failRecall then
               some { crossing := c, registeredAt := s.clock.now, sides := {}, origins := { recalled := true },
                      accessible := false, pressCount := 0, notBefore := none }
             else none) ∧
         OthersKept s t c ∧ CorridorKept s t ∧ KerbKept s t ∧ PortKept s t) ∧
     (∀ p, (s.crossing c).state = .vehAmber → (s.crossing c).closingAmber = true →
       (s.crossing c).pendingChange = some p → (p.target = .cmdFlash ∨ p.target = .dark) →
       ∃ t, exec (.intervalEnd c) s = .next t ∧
         t.crossing c = { (s.crossing c).enter p.target.state none with pendingChange := none } ∧
         t.calls = s.calls ∧ (∀ c', c' ≠ c → t.crossing c' = s.crossing c') ∧ t.groups = s.groups ∧ t.units = s.units ∧
         t.counters.crossings = s.counters.crossings ∧ CorridorKept s t ∧ KerbKept s t ∧ PortKept s t) ∧
     (∀ p, (s.crossing c).state = .vehAmber → (s.crossing c).closingAmber = true → (s.crossing c).stage = none →
       (s.crossing c).pendingChange = some p → (p.target = .unconfigured ∨ p.target = .faultFlash) →
       ∃ t, exec (.intervalEnd c) s = .next t ∧
         (t.crossing c).pendingChange = none ∧ (t.crossing c).closingAmber = false ∧ (t.crossing c).green = none ∧
         (t.crossing c).stage = none ∧ (t.crossing c).faults = (s.crossing c).faults ∧
         (p.target = .unconfigured → (s.crossing c).inForce = none →
           (t.crossing c).state = .unconfigured ∧ (t.crossing c).timeLeft = none) ∧
         (p.target = .unconfigured → (s.crossing c).inForce.isSome = true →
           (t.crossing c).state = .startupFlash ∧ (t.crossing c).timeLeft = some 50) ∧
         (p.target = .faultFlash → (t.crossing c).state = .faultFlash ∧ (t.crossing c).timeLeft = none ∧
           (t.crossing c).recallTimer = none ∧ t.callOf c = none) ∧
         OthersKept s t c ∧ CorridorKept s t ∧ KerbKept s t ∧ PortKept s t))

/-- An entry to a state: the time in state is 0, the time left is the state's, the green timer and the closing amber
mark go, and the outputs take the state's modes; an output whose mode changes takes its new value at once and settles,
and one whose mode does not change is as it was. The flash phase starts at its ON half, runs on, or is idle. The
outputs of every state, as section 6.2 gives them. A WALK_FAIL raised is remembered through an entry that leaves the walk's
mode, and forgotten at one that changes it (log entry 41). -/
def Obligations.EntryCommandsTheOutputsOfTheState : Prop :=
  (∀ (x : Crossing) (st : CrossingState) (left : Option Nat),
     x.enter st left = { x with
       state := st, timeInState := 0, timeLeft := left, green := none, closingAmber := false, port := (x.enter st left).port } ∧
     (∀ o, (lampAt (x.enter st left).port.lines o).mode = commandedMode st o) ∧
     (∀ o, (lampAt x.port.lines o).mode = commandedMode st o →
       lampAt (x.enter st left).port.lines o = lampAt x.port.lines o) ∧
     (∀ o, (lampAt x.port.lines o).mode ≠ commandedMode st o →
       lampAt (x.enter st left).port.lines o = {
         mode := commandedMode st o, settling := true, proved := (lampAt x.port.lines o).proved, mismatch := 0, sense := none
         value := (commandedMode st o == .on) || (commandedMode st o == .flashing &&
           (match (x.enter st left).port.flash with | .on _ => true | _ => false)) }) ∧
     ((∀ o, commandedMode st o ≠ .flashing) → (x.enter st left).port.flash = .idle) ∧
     (∀ o, commandedMode st o = .flashing → (∀ o', (lampAt x.port.lines o').mode ≠ .flashing) →
       (x.enter st left).port.flash = .on 0) ∧
     (∀ o o', commandedMode st o = .flashing → (lampAt x.port.lines o').mode = .flashing →
       (x.enter st left).port.flash = x.port.flash) ∧
     (x.enter st left).port.conflict = x.port.conflict ∧
     (x.enter st left).port.walkFailed =
       (x.port.walkFailed && decide ((lampAt x.port.lines .walk).mode = commandedMode st .walk))) ∧
  (∀ (st : CrossingState) (o : Lamp), commandedMode st o =
     if (st = .startupFlash ∨ st = .cmdFlash ∨ st = .faultFlash) ∧ o = .amber then .flashing
     else if st = .clearance ∧ o = .dontWalk then .flashing
     else if (st = .vehGreen ∧ (o = .green ∨ o = .dontWalk)) ∨ (st = .vehAmber ∧ (o = .amber ∨ o = .dontWalk)) ∨
         ((st = .startupRed ∨ st = .leadRed ∨ st = .trailRed) ∧ (o = .red ∨ o = .dontWalk)) ∨
         (st = .walk ∧ (o = .red ∨ o = .walk)) ∨ (st = .clearance ∧ o = .red) then .on
     else .off)

/-- INTERVAL_END of LEAD_RED: walk begins for the context's walk. A partner in the record is offered the linked call,
unless the stage's origins are LINK alone, and counted as placed or dropped: at a registering partner that cannot start at
once it becomes a record with origin LINK, no sides, no presses, not accessible, registered now, with its not-before at
now + the link delay, absent at a delay of 0, or merges into the record there; at a partner in service in any other state
it is absorbed; with no record, no partner or LINK alone no
call is placed and neither counter moves. The wait is filed in its bin and in MAX_WAIT; every unit of the crossing that
is not FAILED is marked sounding, and the reply to a command still in flight to it will not end the mark. An onset at a
muted unit of a sample abandons a REQUESTED one and a MEASURING one below 12 ds, and closes a MEASURING one early from
12 ds on, with END asked for; either lifts its mutes. A CLOSED sample, and one with no onset, stay. The stage and the
corridor stay. -/
def Obligations.LeadRedEndBeginsTheWalk : Prop :=
  ∀ (s : State) (c : CrossingId) (k : Stage) (wait : Nat), s.IsDue (.intervalEnd c) →
    (s.crossing c).timeLeft = some 0 → (s.crossing c).state = .leadRed → (s.crossing c).stage = some k →
    (∀ r, (s.crossing c).record = some r → r.partner ≠ some c) →
    wait = min (since s.clock.now k.registeredAt) 65535 →
    ∃ t, exec (.intervalEnd c) s = .next t ∧
      (t.crossing c).state = .walk ∧ (t.crossing c).timeLeft = some k.walk ∧ (t.crossing c).stage = some k ∧
      (t.crossing c).timeInState = 0 ∧
      t.counters.crossings[c].maxWait = max s.counters.crossings[c].maxWait wait ∧
      t.counters.crossings[c].wait0 = (if wait < 150 then min (s.counters.crossings[c].wait0 + 1) 65535
        else s.counters.crossings[c].wait0) ∧
      t.counters.crossings[c].wait150 = (if 150 ≤ wait ∧ wait < 300 then min (s.counters.crossings[c].wait150 + 1) 65535
        else s.counters.crossings[c].wait150) ∧
      t.counters.crossings[c].wait300 = (if 300 ≤ wait ∧ wait < 450 then min (s.counters.crossings[c].wait300 + 1) 65535
        else s.counters.crossings[c].wait300) ∧
      t.counters.crossings[c].wait450 = (if 450 ≤ wait ∧ wait < 600 then min (s.counters.crossings[c].wait450 + 1) 65535
        else s.counters.crossings[c].wait450) ∧
      t.counters.crossings[c].wait600 = (if 600 ≤ wait ∧ wait < 900 then min (s.counters.crossings[c].wait600 + 1) 65535
        else s.counters.crossings[c].wait600) ∧
      t.counters.crossings[c].wait900 = (if 900 ≤ wait then min (s.counters.crossings[c].wait900 + 1) 65535
        else s.counters.crossings[c].wait900) ∧
      (∀ r p, (s.crossing c).record = some r → r.partner = some p → k.origins.linkAlone = false →
        (if (s.crossing p).inService then
          t.counters.crossings[c].linkedPlaced = min (s.counters.crossings[c].linkedPlaced + 1) 65535 ∧
          t.counters.crossings[c].linkedDropped = s.counters.crossings[c].linkedDropped
        else t.counters.crossings[c].linkedPlaced = s.counters.crossings[c].linkedPlaced ∧
          t.counters.crossings[c].linkedDropped = min (s.counters.crossings[c].linkedDropped + 1) 65535 ∧
          t.callOf p = s.callOf p) ∧
        ((s.crossing p).inService = true → (s.crossing p).state.registering = false → t.callOf p = s.callOf p) ∧
        ((s.crossing p).inService = true → (s.crossing p).state.registering = true →
          let nb : Option Time := if r.linkDelay = 0 then none else some (s.clock.now + BitVec.ofNat 32 r.linkDelay)
          (s.callOf p = none → ((s.crossing p).greenExpired = false ∨ 0 < r.linkDelay) →
            t.callOf p = some { crossing := p, registeredAt := s.clock.now, sides := {}, origins := { link := true },
                                accessible := false, pressCount := 0, notBefore := nb }) ∧
          (∀ q, s.callOf p = some q →
            ((s.crossing p).greenExpired = false ∨ (0 < r.linkDelay ∧ q.notBefore.isSome = true)) →
            t.callOf p = some { q with
              origins := { q.origins with link := true }
              pressCount := min q.pressCount 255
              notBefore := match q.notBefore, nb with
                | some a, some b => some (if reached a b then b else a)
                | _, _ => none }))) ∧
      (∀ u, (t.unit u).sounding = ((s.unit u).sounding ||
        (decide ((s.unit u).crossing = some c) && decide ((s.unit u).state ≠ .failed)))) ∧
      (((s.crossing c).record.bind (·.partner) = none ∨ k.origins.linkAlone = true) →
        t.counters.crossings[c].linkedPlaced = s.counters.crossings[c].linkedPlaced ∧
        t.counters.crossings[c].linkedDropped = s.counters.crossings[c].linkedDropped ∧ t.calls = s.calls) ∧
      (∀ x, t.kerb.transaction = some x → ∃ y, s.kerb.transaction = some y ∧ x.command = y.command ∧
        x.beforeWalk = (y.beforeWalk || (decide ((s.unit y.command.address).crossing = some c) &&
          decide ((s.unit y.command.address).state ≠ .failed)))) ∧
      (∀ u, (s.unit u).audible.sample = none → (t.unit u).audible.sample = none ∧
        (t.unit u).pendingAction = (s.unit u).pendingAction) ∧
      (∀ u q, (s.unit u).audible.sample = some q →
        (¬ s.onsetReaches c q → (t.unit u).audible.sample = some q ∧
          (t.unit u).pendingAction = (s.unit u).pendingAction ∧
          t.counters.units[u].samplesAbandoned = s.counters.units[u].samplesAbandoned) ∧
        (s.onsetReaches c q →
          match q.phase with
          | .requested => SampleAbandoned s t u
          | .measuring start =>
            if since s.clock.now start < 12 then SampleAbandoned s t u
            else (t.unit u).audible.sample = some { q with phase := .closed start false, earlyEnd := true } ∧
              (t.unit u).pendingAction = some .stop ∧
              t.counters.units[u].samplesAbandoned = s.counters.units[u].samplesAbandoned
          | .closed _ _ => (t.unit u).audible.sample = some q ∧
              (t.unit u).pendingAction = (s.unit u).pendingAction)) ∧
      (∀ v u, u ∈ (t.unit v).audible.muteSet ↔ u ∈ (s.unit v).audible.muteSet ∧
        ¬ ∃ q, (s.unit u).audible.sample = some q ∧ s.onsetReaches c q ∧
          ∀ start passed, q.phase ≠ .closed start passed) ∧
      CorridorKept s t ∧ KerbKept s t ∧ PortKept s t ∧ t.due = s.due.erase (.intervalEnd c)

/-- INTERVAL_END of TRAIL_RED with no change pending: the context is discarded; VEH_GREEN is entered with the green
timer at the record's G_min, the accessible mark is cleared, and the recall timer is started where the record has an
interval. The stage leaves the count of the group its context names: where no call waits and fail recall places none,
the group has one stage less, and with none left its quiet time is now, its pairing close is disarmed and its spacing
expiry is armed at now + H. Groups that neither count the stage nor take the crossing's calls, the corridor, the kerb
link and the port stay. With a change pending its target is entered in place of VEH_GREEN, UNCONFIGURED being left in
the same event for STARTUP_FLASH where the crossing has a record; no change is pending then and no recall timer is
started. -/
def Obligations.TrailRedEndEndsTheStage : Prop :=
  (∀ (s : State) (c : CrossingId) (k : Stage) (r : Record), s.IsDue (.intervalEnd c) →
    (s.crossing c).timeLeft = some 0 → (s.crossing c).state = .trailRed → (s.crossing c).stage = some k →
    (s.crossing c).pendingChange = none → (s.crossing c).record = some r →
    ∃ t, exec (.intervalEnd c) s = .next t ∧
      (t.crossing c).state = .vehGreen ∧ (t.crossing c).stage = none ∧ (t.crossing c).timeLeft = none ∧
      (t.crossing c).green = some { left := r.minGreen, expired := false } ∧ (t.crossing c).accessibleMark = false ∧
      (t.crossing c).recallTimer = (if 0 < r.recallInterval then some (s.clock.now + BitVec.ofNat 32 r.recallInterval)
        else (s.crossing c).recallTimer) ∧
      (∀ g, k.group ≠ some g → (∀ r', (s.crossing c).record = some r' → routeOf s.clock.mode r' ≠ .group g) →
        t.group g = s.group g) ∧
      (∀ g, k.group = some g → s.calls = [] → (s.crossing c).failRecall = false →
        t.group g = (if (s.group g).active ≤ 1 then { s.group g with
            active := 0, quietSince := s.clock.now, pairingClose := none
            spacingExpiry := if (s.group g).spacing = 0 then none
              else some (s.clock.now + BitVec.ofNat 32 (s.group g).spacing) }
          else { s.group g with active := (s.group g).active - 1 })) ∧
      CorridorKept s t ∧ KerbKept s t ∧ PortKept s t ∧ t.due = s.due.erase (.intervalEnd c)) ∧
  (∀ (s : State) (c : CrossingId) (k : Stage) (p : PendingChange), s.IsDue (.intervalEnd c) →
    (s.crossing c).timeLeft = some 0 → (s.crossing c).state = .trailRed → (s.crossing c).stage = some k →
    (s.crossing c).pendingChange = some p →
    let started := p.target = .unconfigured ∧ (s.crossing c).inForce.isSome = true
    ∃ t, exec (.intervalEnd c) s = .next t ∧
      (started → (t.crossing c).state = .startupFlash ∧ (t.crossing c).timeLeft = some 50) ∧
      (¬ started → (t.crossing c).state = p.target.state ∧ (t.crossing c).timeLeft = none) ∧
      (t.crossing c).stage = none ∧ (t.crossing c).pendingChange = none ∧ (t.crossing c).green = none ∧
      (t.crossing c).accessibleMark = false ∧ (t.crossing c).faults = (s.crossing c).faults ∧
      (t.crossing c).recallTimer = (if p.target = .faultFlash then none else (s.crossing c).recallTimer) ∧
      (p.target = .faultFlash → t.callOf c = none) ∧
      (∀ g, k.group ≠ some g → (∀ r', (s.crossing c).record = some r' → routeOf s.clock.mode r' ≠ .group g) →
        t.group g = s.group g) ∧
      (∀ g, k.group = some g → s.calls = [] → (s.crossing c).failRecall = false →
        t.group g = (if (s.group g).active ≤ 1 then { s.group g with
            active := 0, quietSince := s.clock.now, pairingClose := none
            spacingExpiry := if (s.group g).spacing = 0 then none
              else some (s.clock.now + BitVec.ofNat 32 (s.group g).spacing) }
          else { s.group g with active := (s.group g).active - 1 })) ∧
      CorridorKept s t ∧ KerbKept s t ∧ PortKept s t ∧ t.due = s.due.erase (.intervalEnd c))

/-- SERVICE_OFF and DARK: at once in STARTUP_FLASH and STARTUP_RED, and DARK also from CMD_FLASH and FAULT_FLASH; by a
closing amber from VEH_GREEN; as a pending change in a stage or a closing amber where the target outranks the change
pending; otherwise refused with NOT_APPLICABLE. The reply carries TAKEN or PENDING with the state and the pending
change; a crossing in service loses its call and its recall timer. RESTORE: in CMD_FLASH, FAULT_FLASH and DARK the
fault set is cleared and the recall timer stopped, and the crossing enters STARTUP_FLASH for 50 ds with a record, and
UNCONFIGURED without one; in every other state it is refused with NOT_APPLICABLE. The reply is TAKEN with the state
entered. An output's mismatch timer is 0 after it where its mode changed, and stays with its sense otherwise, at its limit
too; the conflict timer stays. What proving makes of them in the start-up is ProvingAnnouncesFaultsByClass (log entry 37).
A crossing outside 1 to 8, or an action that is none of the three, is refused with OUT_OF_RANGE; that an unknown
action is refused at whichever of the three rows is taken is the model's choice (log entry 3). -/
def Obligations.ServiceCommandsFollowTheTable : Prop :=
  (∀ (i : Instr) (tgt : Target) (ab : Byte) (fr : Frame) (rest : List Frame) (s : State) (cb : Byte) (c : CrossingId),
     (i = .serviceOff ∧ tgt = .cmdFlash ∧ ab = 1 ∨ i = .dark ∧ tgt = .dark ∧ ab = 2) → s.AtTurn fr rest →
     fr.isKind 10 = true → fr.body = [cb, ab] → numbered 8 cb = some c →
     let x := s.crossing c
     let atOnce := x.state = .startupFlash ∨ x.state = .startupRed ∨
       (tgt = .dark ∧ (x.state = .cmdFlash ∨ x.state = .faultFlash))
     let pends := x.state.ofStage = true ∧ ∀ p, x.pendingChange = some p → p.target.rank < tgt.rank
     (atOnce → ∃ t, exec i s = .next t ∧ (t.crossing c).state = tgt.state ∧ (t.crossing c).pendingChange = none ∧
       (t.crossing c).timeLeft = none ∧ (t.crossing c).faults = x.faults ∧
       (x.inService = true → t.callOf c = none ∧ (t.crossing c).recallTimer = none) ∧
       Answered s t fr.tag (.done (.crossingControl true tgt.state none)) ∧
       (∀ c', c' ≠ c → t.crossing c' = s.crossing c' ∧ t.callOf c' = s.callOf c') ∧ t.groups = s.groups ∧
       t.units = s.units ∧ CorridorKept s t ∧ KerbKept s t ∧ t.host.requests = rest) ∧
     (x.state = .vehGreen → (∀ p, x.pendingChange = some p → p.target.rank < tgt.rank) →
       ∃ t, exec i s = .next t ∧ (t.crossing c).state = .vehAmber ∧ (t.crossing c).closingAmber = true ∧
       (t.crossing c).green = none ∧ (t.crossing c).pendingChange = some { target := tgt, cause := .command } ∧
       (t.crossing c).timeLeft = some (match x.record with | some r => r.amber | none => x.retainedAmber) ∧
       (x.inService = true → t.callOf c = none ∧ (t.crossing c).recallTimer = none) ∧
       Answered s t fr.tag (.done (.crossingControl false .vehAmber (some tgt))) ∧
       (∀ c', c' ≠ c → t.crossing c' = s.crossing c' ∧ t.callOf c' = s.callOf c') ∧ t.groups = s.groups ∧
       t.units = s.units ∧ CorridorKept s t ∧ KerbKept s t ∧ t.host.requests = rest) ∧
     (pends → ∃ t, exec i s = .next t ∧ (t.crossing c).state = x.state ∧ (t.crossing c).stage = x.stage ∧
       (t.crossing c).timeLeft = x.timeLeft ∧ (t.crossing c).port = x.port ∧
       (t.crossing c).pendingChange = some { target := tgt, cause := .command } ∧
       (x.inService = true → t.callOf c = none ∧ (t.crossing c).recallTimer = none) ∧
       Answered s t fr.tag (.done (.crossingControl false x.state (some tgt))) ∧
       (∀ c', c' ≠ c → t.crossing c' = s.crossing c' ∧ t.callOf c' = s.callOf c') ∧ t.groups = s.groups ∧
       t.units = s.units ∧ CorridorKept s t ∧ KerbKept s t ∧ t.host.requests = rest) ∧
     (¬ atOnce → x.state ≠ .vehGreen → ¬ pends →
       exec i s = .next (s.answering rest fr.tag (.refused .notApplicable)))) ∧
  (∀ (fr : Frame) (rest : List Frame) (s : State) (cb : Byte) (c : CrossingId), s.AtTurn fr rest →
     fr.isKind 10 = true → fr.body = [cb, 3] → numbered 8 cb = some c →
     let x := s.crossing c
     (x.state = .cmdFlash ∨ x.state = .faultFlash ∨ x.state = .dark →
       ∃ t st, st = (if x.inForce.isSome then CrossingState.startupFlash else .unconfigured) ∧
         exec .restore s = .next t ∧ (t.crossing c).state = st ∧ (t.crossing c).faults = {} ∧
         (t.crossing c).recallTimer = none ∧ (t.crossing c).pendingChange = none ∧
         (t.crossing c).timeLeft = (if x.inForce.isSome then some 50 else none) ∧
         (∀ o, let l := lampAt x.port.lines o
           let l' := lampAt (t.crossing c).port.lines o
           l'.mode = commandedMode st o ∧ l'.proved = l.proved ∧
           (l.mode ≠ commandedMode st o → l'.mismatch = 0 ∧ l'.sense = none) ∧
           (l.mode = commandedMode st o →
             l'.mismatch = l.mismatch ∧ l'.sense = l.sense ∧ l'.settling = l.settling ∧ l'.value = l.value)) ∧
         (t.crossing c).port.conflict = x.port.conflict ∧
         Answered s t fr.tag (.done (.crossingControl true st none)) ∧
         OthersKept s t c ∧ CorridorKept s t ∧ KerbKept s t ∧ t.host.requests = rest) ∧
     (x.state ≠ .cmdFlash → x.state ≠ .faultFlash → x.state ≠ .dark →
       exec .restore s = .next (s.answering rest fr.tag (.refused .notApplicable)))) ∧
  (∀ (i : Instr) (own : Byte) (fr : Frame) (rest : List Frame) (s : State) (cb ab : Byte),
     (i = .serviceOff ∧ own = 1 ∨ i = .dark ∧ own = 2 ∨ i = .restore ∧ own = 3) → s.AtTurn fr rest →
     fr.isKind 10 = true → fr.body = [cb, ab] →
     ((ab = own ∧ (cb = 0 ∨ 8 < cb.toNat)) ∨ ab = 0 ∨ 3 < ab.toNat) →
     exec i s = .next (s.answering rest fr.tag (.refused .outOfRange)))

/-! ### Signal outputs and proving (chapter 7) -/

/-- FLASH_HALF_CHANGE after 5 ds of a half: the other half begins at 0 ds, every FLASHING output of the crossing takes
the half's value and settles, and its mismatch timer stays; every other output is as it was. Nothing else changes. -/
def Obligations.FlashHalfChangesEveryFiveDeciseconds : Prop :=
  ∀ (s : State) (c : CrossingId), s.IsDue (.flashHalf c) → (s.crossing c).port.flash.complete = true →
    ∃ p : SignalPort, exec (.flashHalfChange c) s = .next (State.transmit
        ((s.without (.flashHalf c)).changeCrossing c fun x => { x with port := p })) ∧
      p.conflict = (s.crossing c).port.conflict ∧ p.walkFailed = (s.crossing c).port.walkFailed ∧
      (∀ e, (s.crossing c).port.flash = .on e → p.flash = .off 0) ∧
      (∀ e, (s.crossing c).port.flash = .off e → p.flash = .on 0) ∧
      ∀ o, lampAt p.lines o =
        if (lampAt (s.crossing c).port.lines o).mode = .flashing then
          { lampAt (s.crossing c).port.lines o with value := decide (p.flash = .on 0), settling := true }
        else lampAt (s.crossing c).port.lines o

/-- The judgement of one output at a decisecond event with the sample v: a settling decisecond is not judged and the
mark is cleared; a mismatch counts up to 5 in its sense, starting at 1 where the timer ran in the other; an agreement
under the value the timer's sense is counted under returns it to 0; any other agreement leaves it. The sample becomes
the proved value. DECISECOND_EVENT with nothing left over judges every output of every crossing so, with its own sample;
a crossing's conflict timer counts to 2 while walk is sampled on with green or amber, and is 0 otherwise; and a running
flash half has one decisecond more, up to the 4 after which its change is announced (log entry 2). -/
def Obligations.JudgementCountsMismatches : Prop :=
  (∀ (inputs : ProvingInputs) (s : State), s.running = true → s.due = [] →
    ∃ t, exec (.decisecondEvent inputs) s = .next t ∧ ∀ c,
      let p := (s.crossing c).port
      let p' := (t.crossing c).port
      (∀ o, lampAt p'.lines o = (lampAt p.lines o).judge (lampAt inputs[c] o)) ∧
      p'.conflict = (if inputs[c].walk = true ∧ (inputs[c].green = true ∨ inputs[c].amber = true) then
        min (p.conflict + 1) 2 else 0) ∧
      p'.flash = match p.flash with
        | .idle => .idle
        | .on e => .on (min (e + 1) 4)
        | .off e => .off (min (e + 1) 4)) ∧
  ∀ (o : OutputLine) (v : Bool), (o.mismatch = 0 ↔ o.sense = none) → o.mismatch ≤ 5 →
    (o.judge v).proved = v ∧ (o.judge v).mode = o.mode ∧ (o.judge v).value = o.value ∧ (o.judge v).settling = false ∧
    (o.settling = true → (o.judge v).mismatch = o.mismatch ∧ (o.judge v).sense = o.sense) ∧
    (o.settling = false → v ≠ o.value →
      (o.judge v).sense = some (if o.value then .offWhenOn else .onWhenOff) ∧
      (o.judge v).mismatch =
        if o.mismatch = 0 ∨ o.sense = some (if o.value then .offWhenOn else .onWhenOff) then min (o.mismatch + 1) 5
        else 1) ∧
    (o.settling = false → v = o.value →
      if o.sense = some (if o.value then .offWhenOn else .onWhenOff) then
        (o.judge v).mismatch = 0 ∧ (o.judge v).sense = none
      else (o.judge v).mismatch = o.mismatch ∧ (o.judge v).sense = o.sense)

/-- What proving announces at a decisecond event: a mismatch fault as an output's judged mismatch comes to 5 in the
sense it was counting, with the class of the output, the sense and the mode, but for a WALK_FAIL where one has been raised
since the walk's mode last changed, which is remembered (log entry 41); and a conflict as walk has been proved on
with green or amber for a second consecutive decisecond. In STARTUP_FLASH and STARTUP_RED it announces besides a fault that
is still present while its class is not in the fault set, as a RESTORE leaves it: a mismatch judged in the sense of a timer
at 5, and a conflict's condition at a timer at 2; that it does so at the first such decisecond is the model's choice (log
entry 37). The class a mismatch raises: STUCK_ON for any output lit
against its command; for one dark against it RED_LOSS for red, WALK_FAIL for walk, FLASH_FAIL for a flashing amber,
and LAMP_OUT for a steady amber, green or don't-walk. -/
def Obligations.ProvingAnnouncesFaultsByClass : Prop :=
  (∀ (inputs : ProvingInputs) (s t : State) (c : CrossingId), s.running = true → s.due = [] →
     exec (.decisecondEvent inputs) s = .next t →
     let x := s.crossing c
     let startingUp : Prop := x.state = .startupFlash ∨ x.state = .startupRed
     (∀ o cls, (lampAt x.port.lines o).mismatch ≤ 5 →
       let l := lampAt x.port.lines o
       let sense : Sense := if l.value then .offWhenOn else .onWhenOff
       (.mismatch c o cls ∈ t.due ↔ l.settling = false ∧ lampAt inputs[c] o ≠ l.value ∧
         l.sense = some sense ∧ cls = faultClass o sense l.mode ∧
         ((l.mismatch = 4 ∧ (cls = .walkFail → x.port.walkFailed = false)) ∨
           (l.mismatch = 5 ∧ startingUp ∧ x.faults.has cls = false)))) ∧
     (x.OutputsLaw → ((t.crossing c).port.walkFailed = true ↔
       x.port.walkFailed = true ∨ .mismatch c .walk .walkFail ∈ t.due)) ∧
     (x.port.conflict ≤ 2 →
       (.conflict c ∈ t.due ↔ inputs[c].walk = true ∧ (inputs[c].green = true ∨ inputs[c].amber = true) ∧
         (x.port.conflict = 1 ∨ (x.port.conflict = 2 ∧ startingUp ∧ x.faults.conflict = false))))) ∧
  (∀ (o : Lamp) (m : OutputMode), faultClass o .onWhenOff m = .stuckOn ∧
     faultClass o .offWhenOn m = match o with
       | .red => .redLoss
       | .walk => .walkFail
       | .amber => if m = .flashing then .flashFail else .lampOut
       | .green | .dontWalk => .lampOut)

/-- An immediate fault (CONFLICT by CONFLICT_TIMER_LIMIT, STUCK_ON or RED_LOSS by MISMATCH_TIMER_LIMIT) in a state
other than FAULT_FLASH and DARK: the class joins the set, the crossing enters FAULT_FLASH with no stage, no pending
change, no green timer, no time left and its recall timer stopped, and its call is removed; FAULTS rises. The
corridor, the kerb link and the port stay. A CONFLICT in FAULT_FLASH or DARK joins the set and is reported where it is new
to it, FAULTS rising, and the state stays; in the set already, it changes nothing. -/
def Obligations.ImmediateFaultEntersFaultFlash : Prop :=
  (∀ (s : State) (i : Instr) (d : Due) (c : CrossingId) (lamp : Lamp) (cls : FaultClass),
    (i = .conflictTimerLimit c ∧ d = .conflict c ∧ cls = .conflict ∨
      i = .mismatchTimerLimit c lamp ∧ d = .mismatch c lamp cls ∧ (cls = .stuckOn ∨ cls = .redLoss)) →
    s.IsDue d → (∀ cls', .mismatch c lamp cls' ∈ s.due → i = .conflictTimerLimit c ∨ cls' = cls) →
    (s.crossing c).state ≠ .faultFlash → (s.crossing c).state ≠ .dark →
    ∃ t, exec i s = .next t ∧ (t.crossing c).state = .faultFlash ∧ (t.crossing c).stage = none ∧
      (t.crossing c).pendingChange = none ∧ (t.crossing c).closingAmber = false ∧ (t.crossing c).green = none ∧
      (t.crossing c).timeLeft = none ∧ (t.crossing c).recallTimer = none ∧ (t.crossing c).accessibleMark = false ∧
      (t.crossing c).faults = (s.crossing c).faults.insert cls ∧ t.callOf c = none ∧
      t.counters.crossings[c].faults = min (s.counters.crossings[c].faults + 1) 65535 ∧
      (∀ g, (s.crossing c).stage.bind (·.group) ≠ some g → t.group g = s.group g) ∧
      CorridorKept s t ∧ KerbKept s t ∧ PortKept s t ∧ t.due = s.due.erase d) ∧
  (∀ (s : State) (c : CrossingId), s.IsDue (.conflict c) →
    ((s.crossing c).state = .faultFlash ∨ (s.crossing c).state = .dark) →
    let x := s.crossing c
    exec (.conflictTimerLimit c) s = .next (State.transmit (
      if x.faults.conflict then s.without (.conflict c)
      else (((s.without (.conflict c)).changeCrossing c fun x => { x with
        faults := { x.faults with conflict := true } }).countCrossing c fun n =>
          { n with faults := min (n.faults + 1) 65535 }).raise
            (.crossingFault c .conflict .walk x.state x.state x.pendingTarget { x.faults with conflict := true }))))

/-- The faults that take no stage at once, at MISMATCH_TIMER_LIMIT. LAMP_OUT only joins the set. FLASH_FAIL takes a
flashing state to DARK. WALK_FAIL in a stage sets a pending change to FAULT_FLASH where it outranks the change
pending, and removes the call; the stage runs on. Any class but FLASH_FAIL new to the set in FAULT_FLASH, and any class
new to it in DARK, joins it and is reported, FAULTS rising, and the state stays. A class already in the set that leaves the state as it is, in
FAULT_FLASH, DARK or for LAMP_OUT, changes nothing and is not reported. -/
def Obligations.OtherFaultsActByClass : Prop :=
  ∀ (s : State) (c : CrossingId) (lamp : Lamp) (cls : FaultClass), s.IsDue (.mismatch c lamp cls) →
    (∀ cls', .mismatch c lamp cls' ∈ s.due → cls' = cls) →
    let x := s.crossing c
    (cls = .lampOut → x.faults.lampOut = false →
      exec (.mismatchTimerLimit c lamp) s = .next (State.transmit
        ((((s.without (.mismatch c lamp cls)).changeCrossing c fun x => { x with
          faults := { x.faults with lampOut := true } }).countCrossing c fun n => { n with faults := min (n.faults + 1) 65535 }).raise
            (.crossingFault c .lampOut lamp x.state x.state x.pendingTarget { x.faults with lampOut := true })))) ∧
    (cls = .flashFail → x.state.flashing = true → x.pendingChange = none →
      ∃ t, exec (.mismatchTimerLimit c lamp) s = .next t ∧ (t.crossing c).state = .dark ∧
        (t.crossing c).timeLeft = none ∧ (t.crossing c).faults = { x.faults with flashFail := true } ∧
        (x.inService = true → t.callOf c = none) ∧
        t.counters.crossings[c].faults = min (s.counters.crossings[c].faults + 1) 65535 ∧
        (∀ c', c' ≠ c → t.crossing c' = s.crossing c' ∧ t.callOf c' = s.callOf c') ∧ t.groups = s.groups ∧
        CorridorKept s t ∧ KerbKept s t ∧ PortKept s t) ∧
    (cls = .walkFail → x.state.ofStage = true → x.faults.walkFail = false →
      ∃ t, exec (.mismatchTimerLimit c lamp) s = .next t ∧ (t.crossing c).state = x.state ∧
        (t.crossing c).stage = x.stage ∧ (t.crossing c).timeLeft = x.timeLeft ∧
        (t.crossing c).faults = { x.faults with walkFail := true } ∧
        (t.crossing c).pendingChange = (if ∀ p, x.pendingChange = some p → p.target.rank < Target.rank .faultFlash then
          some { target := .faultFlash, cause := .fault } else x.pendingChange) ∧
        (x.inService = true → t.callOf c = none ∧ (t.crossing c).recallTimer = none) ∧
        t.counters.crossings[c].faults = min (s.counters.crossings[c].faults + 1) 65535 ∧
        (∀ c', c' ≠ c → t.crossing c' = s.crossing c' ∧ t.callOf c' = s.callOf c') ∧ t.groups = s.groups ∧
        CorridorKept s t ∧ KerbKept s t ∧ PortKept s t) ∧
    (x.faults.has cls = false → (x.state = .dark ∨ (x.state = .faultFlash ∧ cls ≠ .flashFail)) →
      exec (.mismatchTimerLimit c lamp) s = .next (State.transmit
        ((((s.without (.mismatch c lamp cls)).changeCrossing c fun x => { x with
          faults := x.faults.insert cls }).countCrossing c fun n => { n with faults := min (n.faults + 1) 65535 }).raise
            (.crossingFault c cls lamp x.state x.state x.pendingTarget (x.faults.insert cls))))) ∧
    (x.faults.has cls = true → (cls = .lampOut ∨ x.state = .dark ∨ (x.state = .faultFlash ∧ cls ≠ .flashFail)) →
      exec (.mismatchTimerLimit c lamp) s = .next (s.without (.mismatch c lamp cls)).transmit)

/-! ### The kerb link (chapter 8) -/

/-- POLL_COMMAND: with a transaction in flight, or resting, nothing happens; with no unit to visit the round has ended, and
the master rests until the next decisecond event, to begin again at the lowest address; otherwise the next unit is polled with its crossing's indication and pattern, its
levels (0 under DARK), its mute and its pending action, and its revival is no longer due. Nothing else changes. The
unit polled next: the lowest address above the one last polled that the round visits, and with none above it the
lowest that the round visits; none where the round visits no unit. A round visits the mapped units that are not FAILED
and those FAILED whose revival is due. The indication of every crossing state. -/
def Obligations.PollSendsTheNextUnitItsCommand : Prop :=
  (∀ s : State, s.running = true →
     ((s.kerb.transaction.isSome = true ∨ s.kerb.resting = true) → exec .pollCommand s = .next s.transmit) ∧
     (s.kerb.transaction = none → s.kerb.resting = false → s.nextUnit = none →
       exec .pollCommand s = .next (State.transmit { s with kerb := { s.kerb with lastPolled := none, resting := true } })) ∧
     (∀ u m, s.kerb.transaction = none → s.kerb.resting = false → s.nextUnit = some u →
       (s.unit u).mapping = some m →
       ∃ k tr, exec .pollCommand s = .next (State.transmit
           { s.changeUnit u (fun e => { e with lastCommand := some k, revivalDue := false }) with
             kerb := { lastPolled := some u, resting := false, transaction := some tr, ended := none } }) ∧
         tr.command = k ∧ tr.bytes = k.bytes ∧ tr.windowOpen = false ∧ tr.void = false ∧ tr.beforeWalk = false ∧
         tr.actionLive = k.action.isSome ∧
         (tr.builtClosed = true ↔ ∃ q start passed, (s.unit u).audible.sample = some q ∧ q.phase = .closed start passed) ∧
         (tr.builtAfterTick = true ↔ ∃ q start, (s.unit u).audible.sample = some q ∧ q.phase = .closed start true) ∧
         k.address = u ∧ k.indication = indicationOf (s.crossing m.crossing) (s.callOf m.crossing).isSome ∧
         k.pattern = (((s.crossing m.crossing).record.map (·.walkPattern)).getD 0) ∧
         k.locatorLevel = (if k.indication = .dark then 0 else (s.unit u).audible.locatorLevel) ∧
         k.walkLevel = (if k.indication = .dark then 0 else (s.unit u).audible.walkLevel) ∧
         k.mute = decide ((s.unit u).audible.muteSet ≠ []) ∧ k.action = (s.unit u).pendingAction)) ∧
  (∀ s : State,
     let visited := fun u : UnitId => (s.unit u).mapping.isSome = true ∧
       ((s.unit u).state ≠ .failed ∨ (s.unit u).revivalDue = true)
     (s.nextUnit = none ↔ ∀ u, ¬ visited u) ∧
     ∀ u, s.nextUnit = some u → visited u ∧
       ((∃ p, s.kerb.lastPolled = some p ∧ p < u ∧ ∀ v, p < v → visited v → u ≤ v) ∨
         ((∀ p, s.kerb.lastPolled = some p → ∀ v, visited v → v ≤ p) ∧ ∀ v, visited v → u ≤ v))) ∧
  (∀ (x : Crossing) (hasCall : Bool), indicationOf x hasCall =
     if x.state = .vehGreen ∨ (x.state = .trailRed ∧ x.pendingChange = none) then (if hasCall then .wait else .locate)
     else if (x.state = .vehAmber ∧ x.closingAmber = false) ∨ x.state = .leadRed then .wait
     else if x.state = .walk then .walk
     else if x.state = .clearance then .clear
     else .dark)

/-- REPLY_WINDOW_OPEN opens the window of the transaction in flight. LATE_BYTES after the end of a transaction count
once in BAD_REPLIES of its unit, and with none ended do nothing. REVIVAL_DUE marks a FAILED unit's revival due.
Nothing else changes. The model's choices here: a window event or late bytes with no transaction they belong to do
nothing (log entry 35), and late bytes count once for the transaction they follow, and not after a void one (log entry
26). -/
def Obligations.KerbTimingCommandsMarkTheirUnit : Prop :=
  (∀ s : State, s.running = true → exec .replyWindowOpen s = .next (State.transmit { s with kerb := { s.kerb with
    transaction := s.kerb.transaction.map fun x => { x with windowOpen := true } } })) ∧
  (∀ (s : State) (u : UnitId), s.running = true → s.kerb.transaction = none → s.kerb.ended = some u →
    exec .lateBytes s = .next (State.transmit (State.countUnit { s with kerb := { s.kerb with ended := none } } u
      fun n => { n with badReplies := min (n.badReplies + 1) 65535 }))) ∧
  (∀ s : State, s.running = true → (s.kerb.transaction.isSome = true ∨ s.kerb.ended = none) →
    exec .lateBytes s = .next s.transmit) ∧
  (∀ (s : State) (u : UnitId) (n : Time), s.IsDue (.revival u) → (s.unit u).nextRevival = some n →
    reached s.clock.now n = true → (s.unit u).state = .failed →
    exec (.revivalDue u) s = .next (State.transmit
      ((s.without (.revival u)).changeUnit u fun k => { k with revivalDue := true })))

/-- A miss: REPLY_WINDOW_CLOSE, or BAD_REPLY with a wrong check or address. The transaction ends, POLLS_MISSED rises,
and BAD_REPLIES where bytes were received. JOINING fails at its sixth miss; ONLINE becomes SUSPECT; SUSPECT fails at
its sixth miss; a FAILED unit's next revival is later. A unit that fails starts its revival schedule at now + 10 ds,
holds no counts and sounds no more. The corridor, the other units' links and the port stay. -/
def Obligations.MissMovesTheUnit : Prop :=
  ∀ (i : Instr) (bad : Bool) (s : State) (tr : Transaction) (u : UnitId) (m : Mapping), s.running = true →
    s.kerb.transaction = some tr → tr.windowOpen = true → tr.void = false → tr.command.address = u →
    (s.unit u).mapping = some m →
    (i = .replyWindowClose .nothing ∧ bad = false ∨ (i = .replyWindowClose .stopped ∨ i = .replyWindowClose .arriving) ∧ bad = true ∨
      ∃ f, i = .badReply f ∧ wholeKerbReply f = true ∧ (kerbCheckGood f = false ∨ f.getD 1 0 ≠ number u) ∧ bad = true) →
    ∃ t, exec i s = .next t ∧ t.kerb.transaction = none ∧
      t.counters.units[u].pollsMissed = min (s.counters.units[u].pollsMissed + 1) 65535 ∧
      t.counters.units[u].badReplies = min (s.counters.units[u].badReplies + if bad then 1 else 0) 65535 ∧
      (let k := s.unit u
       let k' := t.unit u
       match k.state with
        | .joining => if 5 ≤ k.misses then k'.state = .failed ∧ k'.misses = 0 ∧ k'.goods = 0 ∧ k'.sounding = false ∧
              k'.nextRevival = some (s.clock.now + 10) ∧ k'.revivalPosition = 0 ∧ k'.heldNow = false
            else k'.state = .joining ∧ k'.misses = k.misses + 1 ∧ k'.goods = 0
        | .online => k'.state = .suspect ∧ k'.misses = 1 ∧ k'.goods = 0
        | .suspect => if 5 ≤ k.misses then k'.state = .failed ∧ k'.misses = 0 ∧ k'.goods = 0 ∧ k'.sounding = false ∧
              k'.nextRevival = some (s.clock.now + 10) ∧ k'.revivalPosition = 0 ∧ k'.heldNow = false
            else k'.state = .suspect ∧ k'.misses = k.misses + 1 ∧ k'.goods = k.goods
        | .failed => k'.state = .failed ∧ ∀ n, k.nextRevival = some n →
            k'.nextRevival = some (n + BitVec.ofNat 32 (match k.revivalPosition with
              | 0 => 10 | 1 => 20 | 2 => 40 | 3 => 80 | _ => 160)) ∧
            k'.revivalPosition = min (k.revivalPosition + 1) 5) ∧
      (t.unit u).mapping = some m ∧ (t.unit u).pressBaseline = (s.unit u).pressBaseline ∧
      (t.unit u).extendedBaseline = (s.unit u).extendedBaseline ∧ (t.unit u).stuck = (s.unit u).stuck ∧
      (∀ v, v ≠ u → (t.unit v).link = (s.unit v).link) ∧ CorridorKept s t ∧ PortKept s t ∧ t.due = s.due

/-- GOOD_REPLY of the unit polled: the transaction ends; the unit's state and counts move (JOINING is ONLINE at its
third good reply running, SUSPECT is ONLINE at once, FAILED is JOINING with its schedule cleared); the stuck flag, the
audio-fault flag, the held report and both baselines follow the reply; and new presses raise PRESSES and
EXTENDED_PRESSES only where the reply found the unit ONLINE or SUSPECT and neither finds nor leaves it stuck. The unit
sounds on unless the command carried an indication other than WALK and was built since its crossing's walk began. A live
pending action is delivered: START makes a REQUESTED sample MEASURING from now. A FRESH reply loses a MEASURING or
CLOSED sample, with CANCEL asked for. The completion reply of a CLOSED sample takes the level it carries, or loses the
sample where it carries none; any other reply leaves it. The
corridor, the other units' links and the port stay. A press hand-over to a crossing in service in a registering state
with no record, whose green timer has not expired: PRESSES and EXTENDED_PRESSES rise, and one record is registered
with origin PRESS, the unit's side, the sum of the presses up to 255, accessible where any is extended. GOOD_REPLY with
presses to hand over leaves that record at such a crossing, or merges them into the record it has. -/
def Obligations.GoodReplyMovesTheUnitAndCountsPresses : Prop :=
  (∀ (f : List Byte) (s : State) (tr : Transaction) (u : UnitId) (m : Mapping), s.running = true →
     s.kerb.transaction = some tr → tr.windowOpen = true → tr.void = false → tr.command.address = u →
     (s.unit u).mapping = some m → wholeKerbReply f = true → kerbCheckGood f = true → f.getD 1 0 = number u →
     let r := readKerbReply f
     let k := s.unit u
     let stuck := if k.stuck then r.heldNow
       else r.heldNow && ((s.crossing m.crossing).record.any fun q => decide (q.stuckThreshold ≤ 10 * r.heldTime))
     let p := match k.pressBaseline with
       | none => 0
       | some b => if r.fresh then r.presses else modY ((r.presses : Int) - b) 256
     let x := match k.extendedBaseline with
       | none => 0
       | some b => if r.fresh then r.extended else modY ((r.extended : Int) - b) 256
     let handed := (k.state = .online ∨ k.state = .suspect) ∧ k.stuck = false ∧ stuck = false ∧ (0 < p ∨ 0 < x)
     let live := tr.command.action.isSome = true ∧ tr.actionLive = true
     let lost := r.fresh = true ∧ ∃ q, k.audible.sample = some q ∧ q.phase ≠ .requested
     ∃ t, exec (.goodReply f) s = .next t ∧ t.kerb.transaction = none ∧ t.kerb.ended = some u ∧
       (t.unit u).misses = 0 ∧
       (match k.state with
         | .joining => (t.unit u).goods = k.goods + 1 ∧ (t.unit u).state = if 2 ≤ k.goods then .online else .joining
         | .online => (t.unit u).goods = min (k.goods + 1) 3 ∧ (t.unit u).state = .online
         | .suspect => (t.unit u).goods = 1 ∧ (t.unit u).state = .online
         | .failed => (t.unit u).goods = 1 ∧ (t.unit u).state = .joining ∧ (t.unit u).nextRevival = none ∧
             (t.unit u).revivalPosition = 0) ∧
       (t.unit u).stuck = stuck ∧ (t.unit u).audioFault = r.speakerFail ∧ (t.unit u).heldNow = r.heldNow ∧
       (t.unit u).heldTime = r.heldTime ∧ (t.unit u).pressBaseline = some r.presses ∧
       (t.unit u).extendedBaseline = some r.extended ∧
       (handed → t.counters.crossings[m.crossing].presses = min (s.counters.crossings[m.crossing].presses + p) 65535 ∧
         t.counters.crossings[m.crossing].extendedPresses =
           min (s.counters.crossings[m.crossing].extendedPresses + x) 65535) ∧
       (¬ handed → t.counters.crossings[m.crossing].presses = s.counters.crossings[m.crossing].presses ∧
         t.counters.crossings[m.crossing].extendedPresses = s.counters.crossings[m.crossing].extendedPresses) ∧
       (handed → (s.crossing m.crossing).inService = true → (s.crossing m.crossing).state.registering = true →
         (s.crossing m.crossing).greenExpired = false →
         t.callOf m.crossing = some (match s.callOf m.crossing with
           | none =>
             { crossing := m.crossing, registeredAt := s.clock.now
               sides := { a := decide (m.side = .a), b := decide (m.side = .b) }, origins := { press := true }
               accessible := decide (0 < x), pressCount := min (p + x) 255, notBefore := none }
           | some q =>
             { q with
               sides := { a := q.sides.a || decide (m.side = .a), b := q.sides.b || decide (m.side = .b) }
               origins := { q.origins with press := true }
               accessible := q.accessible || decide (0 < x)
               pressCount := min (q.pressCount + min (p + x) 255) 255
               notBefore := none })) ∧
       (t.unit u).sounding = (k.sounding && (decide (tr.command.indication = .walk) || tr.beforeWalk)) ∧
       (lost → (t.unit u).pendingAction = some .cancel) ∧
       (¬ lost → live → (t.unit u).pendingAction = none) ∧
       (¬ lost → ¬ live → (t.unit u).pendingAction = k.pendingAction) ∧
       (match k.audible.sample with
         | none => (t.unit u).audible.sample = none ∧ (t.unit u).audible.report = k.audible.report
         | some q =>
           match q.phase with
           | .requested => (t.unit u).audible.sample =
               some (if tr.command.action = some .start ∧ tr.actionLive = true then
                 { q with phase := .measuring s.clock.now } else q)
           | .measuring _ => if r.fresh then SampleLost s t u else (t.unit u).audible.sample = some q
           | .closed start _ =>
             if r.fresh then SampleLost s t u
             else if tr.builtClosed = true ∧ (q.earlyEnd = true ∨ r.sample.isSome = true ∨ tr.builtAfterTick = true) then
               (match r.sample with
                 | some (level, short) => SampleTaken s t u m.crossing q start level short
                 | none => SampleLost s t u)
             else (t.unit u).audible.sample = some q) ∧
       (∀ v, v ≠ u → (t.unit v).audible.sample = (s.unit v).audible.sample ∧
         (t.unit v).pendingAction = (s.unit v).pendingAction) ∧
       (∀ v, v ≠ u → (t.unit v).link = (s.unit v).link) ∧ CorridorKept s t ∧ PortKept s t ∧ t.due = s.due) ∧
  (∀ (s : State) (c : CrossingId) (side : Side) (p x : Nat), (s.crossing c).inService = true →
     (s.crossing c).state.registering = true → (s.crossing c).greenExpired = false → s.callOf c = none →
     let t := s.handOver c side p x
     t.callOf c = some { crossing := c, registeredAt := s.clock.now, sides := { a := decide (side = .a), b := decide (side = .b) },
                         origins := { press := true }, accessible := decide (0 < x), pressCount := min (p + x) 255,
                         notBefore := none } ∧
       t.counters.crossings[c].presses = min (s.counters.crossings[c].presses + p) 65535 ∧
       t.counters.crossings[c].extendedPresses = min (s.counters.crossings[c].extendedPresses + x) 65535 ∧
       (t.crossing c).state = (s.crossing c).state ∧ OthersKept s t c ∧ Undisturbed s t)

/-- UNIT_MAP_SET with every field in range: the entry is mapped as the request says, with its hearing set in ascending
order, and starts afresh: JOINING with no counts, no baselines, no flags, no schedule, no pending action, no sample,
the estimate unset and its levels those of its new crossing at the fallback level 65, by that crossing's record, mark
and the quiet flag. Its transaction in flight is void. The reply carries the
entry. The corridor, the other units' links and the unit's counters stay. UNIT_MAP_CLEAR: an address out of range is
refused with OUT_OF_RANGE and an unmapped one with NO_SUCH_UNIT; otherwise the entry is unmapped and its working state
dropped, and its transaction in flight is void. The corridor, the other units' links and the unit's counters stay. A
SET with a field out of range, its count above 6 among them, is refused with OUT_OF_RANGE. At either row a body with no
action byte is refused with BAD_LENGTH and one whose action is neither SET nor CLEAR with OUT_OF_RANGE; a SET that ends
before its members, or whose members are not as many as its count, and a CLEAR with further bytes, are refused with
BAD_LENGTH. The lengths checked, their place in the order and what a remap restarts are in part the model's choice (log
entries 14 and 15), as are the row at which an unknown action is refused (log entry 3), the ascending order in which a
hearing set is kept (log entry 28), and the items of the two replies: the address, whether it is mapped and the unit
table's items (log entry 9). -/
def Obligations.UnitMapWriteSetsAndClearsEntries : Prop :=
  (∀ (fr : Frame) (rest : List Frame) (s : State) (ub cb sb : Byte) (members : List Byte) (u : UnitId) (c : CrossingId)
     (side : Side) (l : List UnitId),
     s.AtTurn fr rest → fr.isKind 11 = true → fr.body = ub :: 1 :: cb :: sb :: byte members.length :: members →
     members.length ≤ 6 → numbered 32 ub = some u → numbered 8 cb = some c →
     (sb = 1 ∧ side = .a ∨ sb = 2 ∧ side = .b) → members = l.map number → l.Nodup → u ∉ l →
     ∃ t, exec .unitMapSet s = .next t ∧
       (∃ m, (t.unit u).mapping = some m ∧ m.crossing = c ∧ m.side = side ∧ (∀ v, v ∈ m.hearing ↔ v ∈ l) ∧
         m.hearing.Pairwise (· < ·) ∧
         Answered s t fr.tag (.done (.unitMap (number u :: 1 :: (t.unit u).entryItems m s.clock.now)))) ∧
       (t.unit u).state = .joining ∧ (t.unit u).misses = 0 ∧ (t.unit u).goods = 0 ∧ (t.unit u).pressBaseline = none ∧
       (t.unit u).extendedBaseline = none ∧ (t.unit u).heldNow = false ∧ (t.unit u).heldTime = 0 ∧
       (t.unit u).stuck = false ∧ (t.unit u).audioFault = false ∧ (t.unit u).nextRevival = none ∧
       (t.unit u).sounding = false ∧ (t.unit u).pendingAction = none ∧ (t.unit u).lastCommand = none ∧
       (t.unit u).audible.estimate = none ∧ (t.unit u).audible.sample = none ∧ (t.unit u).audible.muteSet = [] ∧
       (t.unit u).audible.dueTime = s.clock.now ∧
       (t.unit u).audible.locatorLevel = locatorLevelOf (s.crossing c).record s.clock.quiet 65 ∧
       (t.unit u).audible.walkLevel =
         walkLevelOf (s.crossing c).record (t.crossing c).accessibleMark s.clock.quiet 65 ∧
       ((s.crossing c).greenExpired = false → (t.crossing c).accessibleMark = (s.crossing c).accessibleMark ∧
         (t.unit u).audible.walkLevel =
           walkLevelOf (s.crossing c).record (s.crossing c).accessibleMark s.clock.quiet 65) ∧
       (∀ tr, t.kerb.transaction = some tr → tr.command.address = u → tr.void = true) ∧
       (∀ v, v ≠ u → (t.unit v).link = (s.unit v).link) ∧ t.counters.units = s.counters.units ∧
       CorridorKept s t ∧ t.host.requests = rest) ∧
  (∀ (fr : Frame) (rest : List Frame) (s : State), s.AtTurn fr rest → fr.isKind 11 = true →
     (∀ ub, fr.body = [ub, 2] → numbered 32 ub = none →
       exec .unitMapClear s = .next (s.answering rest fr.tag (.refused .outOfRange))) ∧
     (∀ ub u, fr.body = [ub, 2] → numbered 32 ub = some u → (s.unit u).mapping = none →
       exec .unitMapClear s = .next (s.answering rest fr.tag (.refused .noSuchUnit))) ∧
     (∀ ub u m, fr.body = [ub, 2] → numbered 32 ub = some u → (s.unit u).mapping = some m →
       ∃ t, exec .unitMapClear s = .next t ∧ t.unit u = .initial none ∧
         Answered s t fr.tag (.done (.unitMap [number u, 0])) ∧
         (∀ tr, t.kerb.transaction = some tr → tr.command.address = u → tr.void = true) ∧
         (∀ v, v ≠ u → (t.unit v).link = (s.unit v).link) ∧ t.counters.units = s.counters.units ∧
         CorridorKept s t ∧ t.host.requests = rest) ∧
     (∀ ub cb sb members, fr.body = ub :: 1 :: cb :: sb :: byte members.length :: members → members.length ≤ 6 →
       (numbered 32 ub = none ∨ numbered 8 cb = none ∨ (sb ≠ 1 ∧ sb ≠ 2) ∨ ub ∈ members ∨ ¬ members.Nodup ∨
         ∃ b ∈ members, numbered 32 b = none) →
       exec .unitMapSet s = .next (s.answering rest fr.tag (.refused .outOfRange))) ∧
     (∀ ub l, fr.body = ub :: 1 :: l →
       (l.length < 3 ∨ ((l.getD 2 0).toNat ≤ 6 ∧ l.length ≠ 3 + (l.getD 2 0).toNat) →
         exec .unitMapSet s = .next (s.answering rest fr.tag (.refused .badLength))) ∧
       (3 ≤ l.length → 6 < (l.getD 2 0).toNat →
         exec .unitMapSet s = .next (s.answering rest fr.tag (.refused .outOfRange)))) ∧
     (∀ ub l, fr.body = ub :: 2 :: l → l ≠ [] →
       exec .unitMapClear s = .next (s.answering rest fr.tag (.refused .badLength))) ∧
     (∀ i, i = Instr.unitMapSet ∨ i = Instr.unitMapClear →
       (fr.body.length < 2 → exec i s = .next (s.answering rest fr.tag (.refused .badLength))) ∧
       (∀ ub ab l, fr.body = ub :: ab :: l → ab ≠ 1 → ab ≠ 2 →
         exec i s = .next (s.answering rest fr.tag (.refused .outOfRange)))))

/-! ### Audible aids (chapter 9) -/

/-- SAMPLE_WINDOW_CLOSE at 20 ds or more of a MEASURING sample: it is CLOSED with its early-end flag clear, its mutes
are lifted, and no action is asked for. AMBIENT_STALE, for an estimate 3 × the sample interval old: the flag is set
and the unit's levels are those of the fallback level. Nothing else changes but for the notice AMBIENT_STALE. The
estimate after a sample of s dB: 10 × s from none or from a stale one; otherwise it rises by a quarter of the
difference, or falls by a sixteenth, rounded up, and never passes 10 × s. At a decisecond event under a selection the due
units (mapped, no sample in progress, the due time come) are considered, earliest due time first and equal times by
address: one that is ONLINE, with no sounding, no sample and no mutes at itself or a mapped member of its hearing set,
is granted a sample: REQUESTED, with those units muted and START asked for; any other is passed over. With no selection
in force none is granted. -/
def Obligations.SamplesCloseAndEstimatesMove : Prop :=
  ((∀ (s : State) (u : UnitId) (k : Sample) (start : Time), s.IsDue (.windowClose u) →
     (s.unit u).audible.sample = some k → k.phase = .measuring start → 20 ≤ since s.clock.now start →
     ∃ units, exec (.sampleWindowClose u) s = .next (State.transmit { s.without (.windowClose u) with units := units }) ∧
       (∀ v, units[v].link = (s.unit v).link ∧ units[v].pendingAction = (s.unit v).pendingAction ∧
         units[v].sounding = (s.unit v).sounding ∧
         units[v].audible = { (s.unit v).audible with
           muteSet := (s.unit v).audible.muteSet.filter fun w => decide (w ≠ u)
           sample := if v = u then some { k with phase := .closed start false, earlyEnd := false }
             else (s.unit v).audible.sample })) ∧
   (∀ (s : State) (u : UnitId) (m : Mapping) (e : Nat) (h : Header) (start : Time), s.IsDue (.stale u) →
     (s.unit u).mapping = some m → (s.unit u).audible.estimate = some e → (s.unit u).audible.stale = false →
     (s.unit u).audible.lastStart = some start → s.store.headerInForce = some h →
     3 * h.sampleInterval ≤ since s.clock.now start →
     exec (.ambientStale u) s = .next (State.transmit
       (((s.without (.stale u)).changeAudible u fun a => { a with
         stale := true
         locatorLevel := locatorLevelOf (s.crossing m.crossing).record s.clock.quiet 65
         walkLevel := walkLevelOf (s.crossing m.crossing).record (s.crossing m.crossing).accessibleMark s.clock.quiet 65 }).raise
           (.ambientStale u m.crossing m.side true e (some (min (since s.clock.now start) 65535))))))) ∧
  (∀ (a : Audible) (s : Nat),
     ((a.estimate = none ∨ a.stale = true) → nextEstimate a s = 10 * s) ∧
     (∀ e, a.estimate = some e → a.stale = false →
       (e < 10 * s → nextEstimate a s = e + (10 * s - e + 3) / 4 ∧ e < nextEstimate a s ∧ nextEstimate a s ≤ 10 * s) ∧
       (10 * s < e → nextEstimate a s = e - (e - 10 * s + 15) / 16 ∧ 10 * s ≤ nextEstimate a s ∧ nextEstimate a s < e) ∧
       (e = 10 * s → nextEstimate a s = e))) ∧
  (∀ s : State, s.dueUnits.Nodup ∧
     (∀ u, u ∈ s.dueUnits ↔ (s.unit u).mapping.isSome = true ∧ (s.unit u).audible.sample = none ∧
       reached s.clock.now (s.unit u).audible.dueTime = true) ∧
     s.dueUnits.Pairwise fun u v =>
       since s.clock.now (s.unit v).audible.dueTime < since s.clock.now (s.unit u).audible.dueTime ∨
       ((s.unit u).audible.dueTime = (s.unit v).audible.dueTime ∧ u < v)) ∧
  (∀ (s : State) (inputs : ProvingInputs) (u : UnitId) (m : Mapping), s.running = true → s.due = [] →
     s.store.inForce.isSome = true → (s.unit u).mapping = some m → (s.unit u).audible.sample = none →
     reached (s.clock.now + 1) (s.unit u).audible.dueTime = true →
     (∀ v, v ≠ u → (s.unit v).mapping = none ∨ (s.unit v).audible.sample.isSome = true ∨
       reached (s.clock.now + 1) (s.unit v).audible.dueTime = false) →
     let near := u :: m.hearing.filter fun v => (s.unit v).mapping.isSome
     let free := (s.unit u).state = .online ∧ ∀ v ∈ near, (s.unit v).sounding = false ∧
       (s.unit v).audible.sample = none ∧ (s.unit v).audible.muteSet = []
     ∃ t, exec (.decisecondEvent inputs) s = .next t ∧
       (free → (t.unit u).audible.sample = some { phase := .requested, earlyEnd := false, muted := near } ∧
         (t.unit u).pendingAction = some .start ∧ (∀ v ∈ near, (t.unit v).audible.muteSet = [u]) ∧
         (∀ v, v ∉ near → (t.unit v).audible.muteSet = (s.unit v).audible.muteSet)) ∧
       (¬ free → (t.unit u).audible.sample = none ∧ (t.unit u).pendingAction = (s.unit u).pendingAction ∧
         ∀ v, (t.unit v).audible.muteSet = (s.unit v).audible.muteSet)) ∧
  (∀ (s : State) (inputs : ProvingInputs), s.running = true → s.due = [] → s.store.inForce = none →
     ∃ t, exec (.decisecondEvent inputs) s = .next t ∧ ∀ u, (t.unit u).pendingAction = (s.unit u).pendingAction ∧
       (t.unit u).audible.muteSet = (s.unit u).audible.muteSet ∧
       ((s.unit u).audible.sample = none → (t.unit u).audible.sample = none))

/-! ### The laws every step keeps -/

/-- Every output of every crossing shows what its crossing's state commands, its mismatch timer counts to 5 and its
conflict timer to 2, and a WALK_FAIL raised is remembered only in WALK (log entry 41); every step keeps this, from any
state. Walk is then never commanded together with green or amber. -/
def Obligations.EveryStepKeepsTheOutputsOfTheStates : Prop :=
  ∀ s t : State, (∀ c, (s.crossing c).OutputsLaw) → step s = .next t → (∀ c, (t.crossing c).OutputsLaw) ∧ Safe s ∧ Safe t

/-- The call queue holds one record a crossing at most, none for a crossing out of service, and no press count above
255; every step keeps this. -/
def Obligations.EveryStepKeepsTheCallQueueSound : Prop :=
  ∀ s t : State, s.StoppedLaw → s.CallLaw → step s = .next t → t.StoppedLaw ∧ t.CallLaw

/-- T lies below Y and Y in its range, there is a Y exactly while a selection is in force, the time of day and the
phase are in range; a bank in use is not being written, the base banks in force and pending have headers, and every
crossing has the record the selection in force resolves to. Every step keeps these together. -/
def Obligations.EveryStepKeepsTheClockAndThePlan : Prop :=
  ∀ s t : State, s.StoppedLaw → s.HeaderLaw → s.TimeLaw → s.PlanLaw → step s = .next t →
    t.StoppedLaw ∧ t.HeaderLaw ∧ t.TimeLaw ∧ t.PlanLaw

/-- What a crossing holds follows its state, and a group's active count is the number of stages counted in it; every
step keeps this. -/
def Obligations.EveryStepKeepsTheGroupCounts : Prop :=
  ∀ s t : State, s.GroupLaw → step s = .next t → t.GroupLaw

/-- Every mapped unit's levels are those its estimate, its crossing's record and mark and the quiet flag give; every
step keeps this. With a the estimate's whole dB, or 65 where it is unset or stale: the locator level is a and the locator
margin, raised to the minimum and lowered to the maximum level, and in quiet hours no more than the night cap; the walk
level is the same with the walk margin, but where the crossing's accessible mark is set 6 dB more is added and the night
cap left out; with no record in force both are 0. -/
def Obligations.EveryStepKeepsTheLevels : Prop :=
  (∀ s t : State, s.LevelLaw → step s = .next t → t.LevelLaw) ∧
  ∀ s : State, s.LevelLaw ↔ ∀ u m, (s.unit u).mapping = some m →
    let q := (s.unit u).audible
    let x := s.crossing m.crossing
    let a : Nat := match q.estimate with
      | some e => if q.stale = true then 65 else e / 10
      | none => 65
    match x.record with
    | none => q.locatorLevel = 0 ∧ q.walkLevel = 0
    | some r =>
      let clamp := fun n : Nat => min (max n r.minLevel) r.maxLevel
      let night := fun n : Nat => if s.clock.quiet = true then min n r.nightCap else n
      q.locatorLevel = night (clamp (a + r.locatorMargin)) ∧
        q.walkLevel = if x.accessibleMark = true then clamp (a + r.walkMargin + 6) else night (clamp (a + r.walkMargin))

/-- A unit's counts are those its state allows, and every crossing knows which of its sides have a working button;
every step keeps this. -/
def Obligations.EveryStepKeepsTheUnitsAndTheirButtons : Prop :=
  ∀ s t : State, s.StoppedLaw → (∀ u, (s.unit u).CountLaw) → s.WorkingLaw → step s = .next t →
    t.StoppedLaw ∧ (∀ u, (t.unit u).CountLaw) ∧ t.WorkingLaw

/-- The request queue holds four frames at most and the notice queue 32, and no counter passes 65535; every step keeps
this. -/
def Obligations.EveryStepKeepsTheBounds : Prop :=
  ∀ s t : State, s.QueueLaw → s.counters.Saturated → step s = .next t → t.QueueLaw ∧ t.counters.Saturated

/-- The machine right after reset keeps every one of the laws. That no unit is mapped in it is presumed (log entry 4),
and that the banks and the stored selection are empty and the start-up done in it is the model's choice (log entry
34). -/
def Obligations.ResetKeepsEveryLaw : Prop :=
  let s := State.reset
  (∀ c, (s.crossing c).OutputsLaw) ∧ Safe s ∧ s.StoppedLaw ∧ s.CallLaw ∧ s.HeaderLaw ∧ s.TimeLaw ∧ s.PlanLaw ∧
    s.GroupLaw ∧ s.LevelLaw ∧ (∀ u, (s.unit u).CountLaw) ∧ s.WorkingLaw ∧ s.QueueLaw ∧ s.counters.Saturated
end

