-- ==== Sys2Proof/Laws/Tables.lean ====
section
/-!
SUPPORT. The laws of the numbered tables: reading an entry of a rewritten or changed table, and of five rewritten
outputs; the lists of all numbers hold every number.
-/

namespace Sys2Proof.Machine

/-- An entry of a rewritten table is the entry rewritten. -/
@[simp] theorem rewrite_get {α β : Type} {n : Nat} (v : Vector α n) (f : Fin n → α → β) (i : Fin n) :
    (rewrite v f)[i.val] = f i v[i.val] := by simp [rewrite]

/-- An entry of a changed table: the changed one, or as before. -/
theorem change_get {α : Type} {n : Nat} (v : Vector α n) (i j : Fin n) (f : α → α) :
    (change v i f)[j.val] = if i = j then f v[j.val] else v[j.val] := by
  by_cases h : i = j
  · subst h; simp [change]
  · have : i.val ≠ j.val := fun e => h (Fin.ext e)
    simp [change, h, this]

/-- The changed entry of a table. -/
@[simp] theorem change_get_self {α : Type} {n : Nat} (v : Vector α n) (i : Fin n) (f : α → α) :
    (change v i f)[i.val] = f v[i.val] := by rw [change_get, if_pos rfl]

/-- Every other entry of a changed table is as before. -/
theorem change_get_ne {α : Type} {n : Nat} (v : Vector α n) {i j : Fin n} (f : α → α) (h : i ≠ j) :
    (change v i f)[j.val] = v[j.val] := by rw [change_get, if_neg h]

/-- An output of five rewritten ones is the output rewritten. -/
@[simp] theorem lampAt_rewriteLamps {α β : Type} (l : Lamps α) (f : Lamp → α → β) (o : Lamp) :
    lampAt (rewriteLamps l f) o = f o (lampAt l o) := by cases o <;> rfl

/-- A property of five outputs, output by output. -/
theorem forall_lamp {p : Lamp → Prop} :
    (∀ o, p o) ↔ p .red ∧ p .amber ∧ p .green ∧ p .walk ∧ p .dontWalk :=
  ⟨fun h => ⟨h _, h _, h _, h _, h _⟩, fun ⟨a, b, c, d, e⟩ o => by cases o <;> assumption⟩

@[simp] theorem mem_allCrossings (c : CrossingId) : c ∈ allCrossings := by revert c; decide

@[simp] theorem mem_allGroups (g : GroupId) : g ∈ allGroups := by revert g; decide

@[simp] theorem mem_allUnits (u : UnitId) : u ∈ allUnits := by revert u; decide

@[simp] theorem mem_allLamps (o : Lamp) : o ∈ allLamps := by cases o <;> decide

/-- What holds of a state and is kept by one item of a list holds after the whole list has been taken. -/
theorem foldl_keeps {σ α : Type} {P : σ → Prop} {f : σ → α → σ} (l : List α) (s : σ) (hs : P s)
    (h : ∀ s a, P s → P (f s a)) : P (l.foldl f s) := by
  induction l generalizing s with
  | nil => exact hs
  | cons a l ih => exact ih _ (h s a hs)

/-- A relation that every item of a list respects relates a state to what the whole list leaves. -/
theorem foldl_related {σ α : Type} {R : σ → σ → Prop} {f : σ → α → σ} (l : List α) (s : σ) (refl : ∀ s, R s s)
    (trans : ∀ {a b c}, R a b → R b c → R a c) (h : ∀ s a, R s (f s a)) : R s (l.foldl f s) := by
  induction l generalizing s with
  | nil => exact refl s
  | cons a l ih => exact trans (h s a) (ih _)

/-- Equal tables are those with equal entries. -/
theorem table_ext {α : Type} {n : Nat} {v w : Vector α n} (h : ∀ i : Fin n, v[i.val] = w[i.val]) : v = w :=
  Vector.ext fun i hi => h ⟨i, hi⟩

end Sys2Proof.Machine
end

