-- ==== Sys2Proof/Laws/State.lean ====
section
/-!
SUPPORT. One lemma per field per update of State: what each shared update leaves as it was, and the entry it changes.
-/

namespace Sys2Proof.Machine

variable (s : State)

/-! ### changeCrossing -/

@[simp] theorem changeCrossing_running (c : CrossingId) (f : Crossing → Crossing) : (s.changeCrossing c f).running = s.running := rfl
@[simp] theorem changeCrossing_clock (c : CrossingId) (f : Crossing → Crossing) : (s.changeCrossing c f).clock = s.clock := rfl
@[simp] theorem changeCrossing_store (c : CrossingId) (f : Crossing → Crossing) : (s.changeCrossing c f).store = s.store := rfl
@[simp] theorem changeCrossing_calls (c : CrossingId) (f : Crossing → Crossing) : (s.changeCrossing c f).calls = s.calls := rfl
@[simp] theorem changeCrossing_groups (c : CrossingId) (f : Crossing → Crossing) : (s.changeCrossing c f).groups = s.groups := rfl
@[simp] theorem changeCrossing_units (c : CrossingId) (f : Crossing → Crossing) : (s.changeCrossing c f).units = s.units := rfl
@[simp] theorem changeCrossing_kerb (c : CrossingId) (f : Crossing → Crossing) : (s.changeCrossing c f).kerb = s.kerb := rfl
@[simp] theorem changeCrossing_counters (c : CrossingId) (f : Crossing → Crossing) : (s.changeCrossing c f).counters = s.counters := rfl
@[simp] theorem changeCrossing_host (c : CrossingId) (f : Crossing → Crossing) : (s.changeCrossing c f).host = s.host := rfl
@[simp] theorem changeCrossing_due (c : CrossingId) (f : Crossing → Crossing) : (s.changeCrossing c f).due = s.due := rfl
@[simp] theorem changeCrossing_freeCount (c : CrossingId) (f : Crossing → Crossing) : (s.changeCrossing c f).freeCount = s.freeCount := rfl
@[simp] theorem changeCrossing_pending (c : CrossingId) (f : Crossing → Crossing) : (s.changeCrossing c f).pending = s.pending := rfl

/-! ### changeGroup -/

@[simp] theorem changeGroup_running (g : GroupId) (f : Group → Group) : (s.changeGroup g f).running = s.running := rfl
@[simp] theorem changeGroup_clock (g : GroupId) (f : Group → Group) : (s.changeGroup g f).clock = s.clock := rfl
@[simp] theorem changeGroup_store (g : GroupId) (f : Group → Group) : (s.changeGroup g f).store = s.store := rfl
@[simp] theorem changeGroup_calls (g : GroupId) (f : Group → Group) : (s.changeGroup g f).calls = s.calls := rfl
@[simp] theorem changeGroup_crossings (g : GroupId) (f : Group → Group) : (s.changeGroup g f).crossings = s.crossings := rfl
@[simp] theorem changeGroup_units (g : GroupId) (f : Group → Group) : (s.changeGroup g f).units = s.units := rfl
@[simp] theorem changeGroup_kerb (g : GroupId) (f : Group → Group) : (s.changeGroup g f).kerb = s.kerb := rfl
@[simp] theorem changeGroup_counters (g : GroupId) (f : Group → Group) : (s.changeGroup g f).counters = s.counters := rfl
@[simp] theorem changeGroup_host (g : GroupId) (f : Group → Group) : (s.changeGroup g f).host = s.host := rfl
@[simp] theorem changeGroup_due (g : GroupId) (f : Group → Group) : (s.changeGroup g f).due = s.due := rfl
@[simp] theorem changeGroup_freeCount (g : GroupId) (f : Group → Group) : (s.changeGroup g f).freeCount = s.freeCount := rfl
@[simp] theorem changeGroup_pending (g : GroupId) (f : Group → Group) : (s.changeGroup g f).pending = s.pending := rfl

/-! ### changeUnit -/

@[simp] theorem changeUnit_running (u : UnitId) (f : KerbUnit → KerbUnit) : (s.changeUnit u f).running = s.running := rfl
@[simp] theorem changeUnit_clock (u : UnitId) (f : KerbUnit → KerbUnit) : (s.changeUnit u f).clock = s.clock := rfl
@[simp] theorem changeUnit_store (u : UnitId) (f : KerbUnit → KerbUnit) : (s.changeUnit u f).store = s.store := rfl
@[simp] theorem changeUnit_calls (u : UnitId) (f : KerbUnit → KerbUnit) : (s.changeUnit u f).calls = s.calls := rfl
@[simp] theorem changeUnit_crossings (u : UnitId) (f : KerbUnit → KerbUnit) : (s.changeUnit u f).crossings = s.crossings := rfl
@[simp] theorem changeUnit_groups (u : UnitId) (f : KerbUnit → KerbUnit) : (s.changeUnit u f).groups = s.groups := rfl
@[simp] theorem changeUnit_kerb (u : UnitId) (f : KerbUnit → KerbUnit) : (s.changeUnit u f).kerb = s.kerb := rfl
@[simp] theorem changeUnit_counters (u : UnitId) (f : KerbUnit → KerbUnit) : (s.changeUnit u f).counters = s.counters := rfl
@[simp] theorem changeUnit_host (u : UnitId) (f : KerbUnit → KerbUnit) : (s.changeUnit u f).host = s.host := rfl
@[simp] theorem changeUnit_due (u : UnitId) (f : KerbUnit → KerbUnit) : (s.changeUnit u f).due = s.due := rfl
@[simp] theorem changeUnit_freeCount (u : UnitId) (f : KerbUnit → KerbUnit) : (s.changeUnit u f).freeCount = s.freeCount := rfl
@[simp] theorem changeUnit_pending (u : UnitId) (f : KerbUnit → KerbUnit) : (s.changeUnit u f).pending = s.pending := rfl

/-! ### changeAudible -/

@[simp] theorem changeAudible_running (u : UnitId) (f : Audible → Audible) : (s.changeAudible u f).running = s.running := rfl
@[simp] theorem changeAudible_clock (u : UnitId) (f : Audible → Audible) : (s.changeAudible u f).clock = s.clock := rfl
@[simp] theorem changeAudible_store (u : UnitId) (f : Audible → Audible) : (s.changeAudible u f).store = s.store := rfl
@[simp] theorem changeAudible_calls (u : UnitId) (f : Audible → Audible) : (s.changeAudible u f).calls = s.calls := rfl
@[simp] theorem changeAudible_crossings (u : UnitId) (f : Audible → Audible) : (s.changeAudible u f).crossings = s.crossings := rfl
@[simp] theorem changeAudible_groups (u : UnitId) (f : Audible → Audible) : (s.changeAudible u f).groups = s.groups := rfl
@[simp] theorem changeAudible_kerb (u : UnitId) (f : Audible → Audible) : (s.changeAudible u f).kerb = s.kerb := rfl
@[simp] theorem changeAudible_counters (u : UnitId) (f : Audible → Audible) : (s.changeAudible u f).counters = s.counters := rfl
@[simp] theorem changeAudible_host (u : UnitId) (f : Audible → Audible) : (s.changeAudible u f).host = s.host := rfl
@[simp] theorem changeAudible_due (u : UnitId) (f : Audible → Audible) : (s.changeAudible u f).due = s.due := rfl
@[simp] theorem changeAudible_freeCount (u : UnitId) (f : Audible → Audible) : (s.changeAudible u f).freeCount = s.freeCount := rfl
@[simp] theorem changeAudible_pending (u : UnitId) (f : Audible → Audible) : (s.changeAudible u f).pending = s.pending := rfl

/-! ### countCrossing -/

@[simp] theorem countCrossing_running (c : CrossingId) (f : CrossingCounters → CrossingCounters) : (s.countCrossing c f).running = s.running := rfl
@[simp] theorem countCrossing_clock (c : CrossingId) (f : CrossingCounters → CrossingCounters) : (s.countCrossing c f).clock = s.clock := rfl
@[simp] theorem countCrossing_store (c : CrossingId) (f : CrossingCounters → CrossingCounters) : (s.countCrossing c f).store = s.store := rfl
@[simp] theorem countCrossing_calls (c : CrossingId) (f : CrossingCounters → CrossingCounters) : (s.countCrossing c f).calls = s.calls := rfl
@[simp] theorem countCrossing_crossings (c : CrossingId) (f : CrossingCounters → CrossingCounters) : (s.countCrossing c f).crossings = s.crossings := rfl
@[simp] theorem countCrossing_groups (c : CrossingId) (f : CrossingCounters → CrossingCounters) : (s.countCrossing c f).groups = s.groups := rfl
@[simp] theorem countCrossing_units (c : CrossingId) (f : CrossingCounters → CrossingCounters) : (s.countCrossing c f).units = s.units := rfl
@[simp] theorem countCrossing_kerb (c : CrossingId) (f : CrossingCounters → CrossingCounters) : (s.countCrossing c f).kerb = s.kerb := rfl
@[simp] theorem countCrossing_host (c : CrossingId) (f : CrossingCounters → CrossingCounters) : (s.countCrossing c f).host = s.host := rfl
@[simp] theorem countCrossing_due (c : CrossingId) (f : CrossingCounters → CrossingCounters) : (s.countCrossing c f).due = s.due := rfl
@[simp] theorem countCrossing_freeCount (c : CrossingId) (f : CrossingCounters → CrossingCounters) : (s.countCrossing c f).freeCount = s.freeCount := rfl
@[simp] theorem countCrossing_pending (c : CrossingId) (f : CrossingCounters → CrossingCounters) : (s.countCrossing c f).pending = s.pending := rfl

/-! ### countUnit -/

@[simp] theorem countUnit_running (u : UnitId) (f : UnitCounters → UnitCounters) : (s.countUnit u f).running = s.running := rfl
@[simp] theorem countUnit_clock (u : UnitId) (f : UnitCounters → UnitCounters) : (s.countUnit u f).clock = s.clock := rfl
@[simp] theorem countUnit_store (u : UnitId) (f : UnitCounters → UnitCounters) : (s.countUnit u f).store = s.store := rfl
@[simp] theorem countUnit_calls (u : UnitId) (f : UnitCounters → UnitCounters) : (s.countUnit u f).calls = s.calls := rfl
@[simp] theorem countUnit_crossings (u : UnitId) (f : UnitCounters → UnitCounters) : (s.countUnit u f).crossings = s.crossings := rfl
@[simp] theorem countUnit_groups (u : UnitId) (f : UnitCounters → UnitCounters) : (s.countUnit u f).groups = s.groups := rfl
@[simp] theorem countUnit_units (u : UnitId) (f : UnitCounters → UnitCounters) : (s.countUnit u f).units = s.units := rfl
@[simp] theorem countUnit_kerb (u : UnitId) (f : UnitCounters → UnitCounters) : (s.countUnit u f).kerb = s.kerb := rfl
@[simp] theorem countUnit_host (u : UnitId) (f : UnitCounters → UnitCounters) : (s.countUnit u f).host = s.host := rfl
@[simp] theorem countUnit_due (u : UnitId) (f : UnitCounters → UnitCounters) : (s.countUnit u f).due = s.due := rfl
@[simp] theorem countUnit_freeCount (u : UnitId) (f : UnitCounters → UnitCounters) : (s.countUnit u f).freeCount = s.freeCount := rfl
@[simp] theorem countUnit_pending (u : UnitId) (f : UnitCounters → UnitCounters) : (s.countUnit u f).pending = s.pending := rfl

/-! ### countCorridor -/

@[simp] theorem countCorridor_running (f : CorridorCounters → CorridorCounters) : (s.countCorridor f).running = s.running := rfl
@[simp] theorem countCorridor_clock (f : CorridorCounters → CorridorCounters) : (s.countCorridor f).clock = s.clock := rfl
@[simp] theorem countCorridor_store (f : CorridorCounters → CorridorCounters) : (s.countCorridor f).store = s.store := rfl
@[simp] theorem countCorridor_calls (f : CorridorCounters → CorridorCounters) : (s.countCorridor f).calls = s.calls := rfl
@[simp] theorem countCorridor_crossings (f : CorridorCounters → CorridorCounters) : (s.countCorridor f).crossings = s.crossings := rfl
@[simp] theorem countCorridor_groups (f : CorridorCounters → CorridorCounters) : (s.countCorridor f).groups = s.groups := rfl
@[simp] theorem countCorridor_units (f : CorridorCounters → CorridorCounters) : (s.countCorridor f).units = s.units := rfl
@[simp] theorem countCorridor_kerb (f : CorridorCounters → CorridorCounters) : (s.countCorridor f).kerb = s.kerb := rfl
@[simp] theorem countCorridor_host (f : CorridorCounters → CorridorCounters) : (s.countCorridor f).host = s.host := rfl
@[simp] theorem countCorridor_due (f : CorridorCounters → CorridorCounters) : (s.countCorridor f).due = s.due := rfl
@[simp] theorem countCorridor_freeCount (f : CorridorCounters → CorridorCounters) : (s.countCorridor f).freeCount = s.freeCount := rfl
@[simp] theorem countCorridor_pending (f : CorridorCounters → CorridorCounters) : (s.countCorridor f).pending = s.pending := rfl

/-! ### raise -/

@[simp] theorem raise_running (n : NoticeBody) : (s.raise n).running = s.running := rfl
@[simp] theorem raise_clock (n : NoticeBody) : (s.raise n).clock = s.clock := rfl
@[simp] theorem raise_store (n : NoticeBody) : (s.raise n).store = s.store := rfl
@[simp] theorem raise_calls (n : NoticeBody) : (s.raise n).calls = s.calls := rfl
@[simp] theorem raise_crossings (n : NoticeBody) : (s.raise n).crossings = s.crossings := rfl
@[simp] theorem raise_groups (n : NoticeBody) : (s.raise n).groups = s.groups := rfl
@[simp] theorem raise_units (n : NoticeBody) : (s.raise n).units = s.units := rfl
@[simp] theorem raise_kerb (n : NoticeBody) : (s.raise n).kerb = s.kerb := rfl
@[simp] theorem raise_due (n : NoticeBody) : (s.raise n).due = s.due := rfl
@[simp] theorem raise_freeCount (n : NoticeBody) : (s.raise n).freeCount = s.freeCount := rfl
@[simp] theorem raise_pending (n : NoticeBody) : (s.raise n).pending = s.pending := rfl

/-! ### respond -/

@[simp] theorem respond_running (t : Byte) (r : ReplyContent) : (s.respond t r).running = s.running := rfl
@[simp] theorem respond_clock (t : Byte) (r : ReplyContent) : (s.respond t r).clock = s.clock := rfl
@[simp] theorem respond_store (t : Byte) (r : ReplyContent) : (s.respond t r).store = s.store := rfl
@[simp] theorem respond_calls (t : Byte) (r : ReplyContent) : (s.respond t r).calls = s.calls := rfl
@[simp] theorem respond_crossings (t : Byte) (r : ReplyContent) : (s.respond t r).crossings = s.crossings := rfl
@[simp] theorem respond_groups (t : Byte) (r : ReplyContent) : (s.respond t r).groups = s.groups := rfl
@[simp] theorem respond_units (t : Byte) (r : ReplyContent) : (s.respond t r).units = s.units := rfl
@[simp] theorem respond_kerb (t : Byte) (r : ReplyContent) : (s.respond t r).kerb = s.kerb := rfl
@[simp] theorem respond_counters (t : Byte) (r : ReplyContent) : (s.respond t r).counters = s.counters := rfl
@[simp] theorem respond_due (t : Byte) (r : ReplyContent) : (s.respond t r).due = s.due := rfl
@[simp] theorem respond_freeCount (t : Byte) (r : ReplyContent) : (s.respond t r).freeCount = s.freeCount := rfl
@[simp] theorem respond_pending (t : Byte) (r : ReplyContent) : (s.respond t r).pending = s.pending := rfl

/-! ### done -/

@[simp] theorem done_running (t : Byte) (b : DoneBody) : (s.done t b).running = s.running := rfl
@[simp] theorem done_clock (t : Byte) (b : DoneBody) : (s.done t b).clock = s.clock := rfl
@[simp] theorem done_store (t : Byte) (b : DoneBody) : (s.done t b).store = s.store := rfl
@[simp] theorem done_calls (t : Byte) (b : DoneBody) : (s.done t b).calls = s.calls := rfl
@[simp] theorem done_crossings (t : Byte) (b : DoneBody) : (s.done t b).crossings = s.crossings := rfl
@[simp] theorem done_groups (t : Byte) (b : DoneBody) : (s.done t b).groups = s.groups := rfl
@[simp] theorem done_units (t : Byte) (b : DoneBody) : (s.done t b).units = s.units := rfl
@[simp] theorem done_kerb (t : Byte) (b : DoneBody) : (s.done t b).kerb = s.kerb := rfl
@[simp] theorem done_counters (t : Byte) (b : DoneBody) : (s.done t b).counters = s.counters := rfl
@[simp] theorem done_due (t : Byte) (b : DoneBody) : (s.done t b).due = s.due := rfl
@[simp] theorem done_freeCount (t : Byte) (b : DoneBody) : (s.done t b).freeCount = s.freeCount := rfl
@[simp] theorem done_pending (t : Byte) (b : DoneBody) : (s.done t b).pending = s.pending := rfl

/-! ### refuse -/

@[simp] theorem refuse_running (t : Byte) (r : RefusalReason) : (s.refuse t r).running = s.running := rfl
@[simp] theorem refuse_clock (t : Byte) (r : RefusalReason) : (s.refuse t r).clock = s.clock := rfl
@[simp] theorem refuse_store (t : Byte) (r : RefusalReason) : (s.refuse t r).store = s.store := rfl
@[simp] theorem refuse_calls (t : Byte) (r : RefusalReason) : (s.refuse t r).calls = s.calls := rfl
@[simp] theorem refuse_crossings (t : Byte) (r : RefusalReason) : (s.refuse t r).crossings = s.crossings := rfl
@[simp] theorem refuse_groups (t : Byte) (r : RefusalReason) : (s.refuse t r).groups = s.groups := rfl
@[simp] theorem refuse_units (t : Byte) (r : RefusalReason) : (s.refuse t r).units = s.units := rfl
@[simp] theorem refuse_kerb (t : Byte) (r : RefusalReason) : (s.refuse t r).kerb = s.kerb := rfl
@[simp] theorem refuse_counters (t : Byte) (r : RefusalReason) : (s.refuse t r).counters = s.counters := rfl
@[simp] theorem refuse_due (t : Byte) (r : RefusalReason) : (s.refuse t r).due = s.due := rfl
@[simp] theorem refuse_freeCount (t : Byte) (r : RefusalReason) : (s.refuse t r).freeCount = s.freeCount := rfl
@[simp] theorem refuse_pending (t : Byte) (r : RefusalReason) : (s.refuse t r).pending = s.pending := rfl

/-! ### transmit -/

@[simp] theorem transmit_running : (s.transmit).running = s.running := rfl
@[simp] theorem transmit_clock : (s.transmit).clock = s.clock := rfl
@[simp] theorem transmit_store : (s.transmit).store = s.store := rfl
@[simp] theorem transmit_calls : (s.transmit).calls = s.calls := rfl
@[simp] theorem transmit_crossings : (s.transmit).crossings = s.crossings := rfl
@[simp] theorem transmit_groups : (s.transmit).groups = s.groups := rfl
@[simp] theorem transmit_units : (s.transmit).units = s.units := rfl
@[simp] theorem transmit_kerb : (s.transmit).kerb = s.kerb := rfl
@[simp] theorem transmit_counters : (s.transmit).counters = s.counters := rfl
@[simp] theorem transmit_due : (s.transmit).due = s.due := rfl
@[simp] theorem transmit_freeCount : (s.transmit).freeCount = s.freeCount := rfl
@[simp] theorem transmit_pending : (s.transmit).pending = s.pending := rfl

/-! ### Entries -/

@[simp] theorem changeCrossing_crossing (c : CrossingId) (f : Crossing → Crossing) :
    (s.changeCrossing c f).crossing c = f (s.crossing c) := by simp [State.changeCrossing, State.crossing]

theorem changeCrossing_get (c d : CrossingId) (f : Crossing → Crossing) :
    (s.changeCrossing c f).crossing d = if c = d then f (s.crossing d) else s.crossing d := by
  simp [State.changeCrossing, State.crossing, change_get]

theorem changeCrossing_other {c d : CrossingId} (f : Crossing → Crossing) (h : c ≠ d) :
    (s.changeCrossing c f).crossing d = s.crossing d := by rw [changeCrossing_get, if_neg h]

@[simp] theorem changeUnit_unit (u : UnitId) (f : KerbUnit → KerbUnit) :
    (s.changeUnit u f).unit u = f (s.unit u) := by simp [State.changeUnit, State.unit]

theorem changeUnit_get (u v : UnitId) (f : KerbUnit → KerbUnit) :
    (s.changeUnit u f).unit v = if u = v then f (s.unit v) else s.unit v := by
  simp [State.changeUnit, State.unit, change_get]

theorem changeUnit_other {u v : UnitId} (f : KerbUnit → KerbUnit) (h : u ≠ v) :
    (s.changeUnit u f).unit v = s.unit v := by rw [changeUnit_get, if_neg h]

@[simp] theorem changeGroup_group (g : GroupId) (f : Group → Group) :
    (s.changeGroup g f).group g = f (s.group g) := by simp [State.changeGroup, State.group]

theorem changeGroup_other {g h : GroupId} (f : Group → Group) (ne : g ≠ h) :
    (s.changeGroup g f).group h = s.group h := by
  simp [State.changeGroup, State.group, change_get_ne _ _ ne]

/-- Crossings read alike in states that hold the same crossings. -/
theorem crossing_of_eq {s t : State} (h : t.crossings = s.crossings) (c : CrossingId) : t.crossing c = s.crossing c := by
  simp [State.crossing, h]

/-- Units read alike in states that hold the same units. -/
theorem unit_of_eq {s t : State} (h : t.units = s.units) (u : UnitId) : t.unit u = s.unit u := by
  simp [State.unit, h]

/-- Groups read alike in states that hold the same groups. -/
theorem group_of_eq {s t : State} (h : t.groups = s.groups) (g : GroupId) : t.group g = s.group g := by
  simp [State.group, h]

/-! ### Entries of the tables an update does not touch -/

@[simp] theorem changeGroup_crossing (g : GroupId) (f : Group → Group) (x : CrossingId) : (s.changeGroup g f).crossing x = s.crossing x := rfl
@[simp] theorem changeUnit_crossing (u : UnitId) (f : KerbUnit → KerbUnit) (x : CrossingId) : (s.changeUnit u f).crossing x = s.crossing x := rfl
@[simp] theorem changeAudible_crossing (u : UnitId) (f : Audible → Audible) (x : CrossingId) : (s.changeAudible u f).crossing x = s.crossing x := rfl
@[simp] theorem countCrossing_crossing (c : CrossingId) (f : CrossingCounters → CrossingCounters) (x : CrossingId) : (s.countCrossing c f).crossing x = s.crossing x := rfl
@[simp] theorem countUnit_crossing (u : UnitId) (f : UnitCounters → UnitCounters) (x : CrossingId) : (s.countUnit u f).crossing x = s.crossing x := rfl
@[simp] theorem countCorridor_crossing (f : CorridorCounters → CorridorCounters) (x : CrossingId) : (s.countCorridor f).crossing x = s.crossing x := rfl
@[simp] theorem raise_crossing (n : NoticeBody) (x : CrossingId) : (s.raise n).crossing x = s.crossing x := rfl
@[simp] theorem respond_crossing (t : Byte) (r : ReplyContent) (x : CrossingId) : (s.respond t r).crossing x = s.crossing x := rfl
@[simp] theorem done_crossing (t : Byte) (b : DoneBody) (x : CrossingId) : (s.done t b).crossing x = s.crossing x := rfl
@[simp] theorem refuse_crossing (t : Byte) (r : RefusalReason) (x : CrossingId) : (s.refuse t r).crossing x = s.crossing x := rfl
@[simp] theorem transmit_crossing (x : CrossingId) : (s.transmit).crossing x = s.crossing x := rfl

@[simp] theorem changeCrossing_unit (c : CrossingId) (f : Crossing → Crossing) (x : UnitId) : (s.changeCrossing c f).unit x = s.unit x := rfl
@[simp] theorem changeGroup_unit (g : GroupId) (f : Group → Group) (x : UnitId) : (s.changeGroup g f).unit x = s.unit x := rfl
@[simp] theorem countCrossing_unit (c : CrossingId) (f : CrossingCounters → CrossingCounters) (x : UnitId) : (s.countCrossing c f).unit x = s.unit x := rfl
@[simp] theorem countUnit_unit (u : UnitId) (f : UnitCounters → UnitCounters) (x : UnitId) : (s.countUnit u f).unit x = s.unit x := rfl
@[simp] theorem countCorridor_unit (f : CorridorCounters → CorridorCounters) (x : UnitId) : (s.countCorridor f).unit x = s.unit x := rfl
@[simp] theorem raise_unit (n : NoticeBody) (x : UnitId) : (s.raise n).unit x = s.unit x := rfl
@[simp] theorem respond_unit (t : Byte) (r : ReplyContent) (x : UnitId) : (s.respond t r).unit x = s.unit x := rfl
@[simp] theorem done_unit (t : Byte) (b : DoneBody) (x : UnitId) : (s.done t b).unit x = s.unit x := rfl
@[simp] theorem refuse_unit (t : Byte) (r : RefusalReason) (x : UnitId) : (s.refuse t r).unit x = s.unit x := rfl
@[simp] theorem transmit_unit (x : UnitId) : (s.transmit).unit x = s.unit x := rfl

@[simp] theorem changeCrossing_group (c : CrossingId) (f : Crossing → Crossing) (x : GroupId) : (s.changeCrossing c f).group x = s.group x := rfl
@[simp] theorem changeUnit_group (u : UnitId) (f : KerbUnit → KerbUnit) (x : GroupId) : (s.changeUnit u f).group x = s.group x := rfl
@[simp] theorem changeAudible_group (u : UnitId) (f : Audible → Audible) (x : GroupId) : (s.changeAudible u f).group x = s.group x := rfl
@[simp] theorem countCrossing_group (c : CrossingId) (f : CrossingCounters → CrossingCounters) (x : GroupId) : (s.countCrossing c f).group x = s.group x := rfl
@[simp] theorem countUnit_group (u : UnitId) (f : UnitCounters → UnitCounters) (x : GroupId) : (s.countUnit u f).group x = s.group x := rfl
@[simp] theorem countCorridor_group (f : CorridorCounters → CorridorCounters) (x : GroupId) : (s.countCorridor f).group x = s.group x := rfl
@[simp] theorem raise_group (n : NoticeBody) (x : GroupId) : (s.raise n).group x = s.group x := rfl
@[simp] theorem respond_group (t : Byte) (r : ReplyContent) (x : GroupId) : (s.respond t r).group x = s.group x := rfl
@[simp] theorem done_group (t : Byte) (b : DoneBody) (x : GroupId) : (s.done t b).group x = s.group x := rfl
@[simp] theorem refuse_group (t : Byte) (r : RefusalReason) (x : GroupId) : (s.refuse t r).group x = s.group x := rfl
@[simp] theorem transmit_group (x : GroupId) : (s.transmit).group x = s.group x := rfl

@[simp] theorem changeCrossing_callOf (c : CrossingId) (f : Crossing → Crossing) (x : CrossingId) : (s.changeCrossing c f).callOf x = s.callOf x := rfl
@[simp] theorem changeGroup_callOf (g : GroupId) (f : Group → Group) (x : CrossingId) : (s.changeGroup g f).callOf x = s.callOf x := rfl
@[simp] theorem changeUnit_callOf (u : UnitId) (f : KerbUnit → KerbUnit) (x : CrossingId) : (s.changeUnit u f).callOf x = s.callOf x := rfl
@[simp] theorem changeAudible_callOf (u : UnitId) (f : Audible → Audible) (x : CrossingId) : (s.changeAudible u f).callOf x = s.callOf x := rfl
@[simp] theorem countCrossing_callOf (c : CrossingId) (f : CrossingCounters → CrossingCounters) (x : CrossingId) : (s.countCrossing c f).callOf x = s.callOf x := rfl
@[simp] theorem countUnit_callOf (u : UnitId) (f : UnitCounters → UnitCounters) (x : CrossingId) : (s.countUnit u f).callOf x = s.callOf x := rfl
@[simp] theorem countCorridor_callOf (f : CorridorCounters → CorridorCounters) (x : CrossingId) : (s.countCorridor f).callOf x = s.callOf x := rfl
@[simp] theorem raise_callOf (n : NoticeBody) (x : CrossingId) : (s.raise n).callOf x = s.callOf x := rfl
@[simp] theorem respond_callOf (t : Byte) (r : ReplyContent) (x : CrossingId) : (s.respond t r).callOf x = s.callOf x := rfl
@[simp] theorem done_callOf (t : Byte) (b : DoneBody) (x : CrossingId) : (s.done t b).callOf x = s.callOf x := rfl
@[simp] theorem refuse_callOf (t : Byte) (r : RefusalReason) (x : CrossingId) : (s.refuse t r).callOf x = s.callOf x := rfl
@[simp] theorem transmit_callOf (x : CrossingId) : (s.transmit).callOf x = s.callOf x := rfl

/-! ### setTime: T set by a SYNC -/

@[simp] theorem setTime_running (t : Nat) : (s.setTime t).running = s.running := rfl
@[simp] theorem setTime_store (t : Nat) : (s.setTime t).store = s.store := rfl
@[simp] theorem setTime_calls (t : Nat) : (s.setTime t).calls = s.calls := rfl
@[simp] theorem setTime_crossings (t : Nat) : (s.setTime t).crossings = s.crossings := rfl
@[simp] theorem setTime_groups (t : Nat) : (s.setTime t).groups = s.groups := rfl
@[simp] theorem setTime_units (t : Nat) : (s.setTime t).units = s.units := rfl
@[simp] theorem setTime_kerb (t : Nat) : (s.setTime t).kerb = s.kerb := rfl
@[simp] theorem setTime_counters (t : Nat) : (s.setTime t).counters = s.counters := rfl
@[simp] theorem setTime_host (t : Nat) : (s.setTime t).host = s.host := rfl
@[simp] theorem setTime_freeCount (t : Nat) : (s.setTime t).freeCount = s.freeCount := rfl
@[simp] theorem setTime_pending (t : Nat) : (s.setTime t).pending = s.pending := rfl
@[simp] theorem setTime_clock (t : Nat) : (s.setTime t).clock = { s.clock with corridorTime := t } := rfl
@[simp] theorem setTime_due (t : Nat) : (s.setTime t).due = withoutBoundary s.due := rfl

@[simp] theorem mem_withoutBoundary (l : List Due) (d : Due) : d ∈ withoutBoundary l ↔ d ∈ l ∧ d ≠ .cycleBoundary := by
  simp [withoutBoundary]

/-! ### overtake: a walk begun while a command is on the line -/

@[simp] theorem overtake_lastPolled (k : KerbLink) (u : UnitId) : (k.overtake u).lastPolled = k.lastPolled := rfl
@[simp] theorem overtake_resting (k : KerbLink) (u : UnitId) : (k.overtake u).resting = k.resting := rfl
@[simp] theorem overtake_ended (k : KerbLink) (u : UnitId) : (k.overtake u).ended = k.ended := rfl

/-- The transaction in flight keeps its command, its window and its marks; walk has begun since it was built where its
unit is the one named. -/
theorem overtake_transaction (k : KerbLink) (u : UnitId) (x : Transaction) :
    (k.overtake u).transaction = some x ↔
      ∃ y, k.transaction = some y ∧ x = { y with beforeWalk := y.beforeWalk || decide (y.command.address = u) } := by
  cases h : k.transaction with
  | none => simp [KerbLink.overtake, h]
  | some y =>
    by_cases e : y.command.address = u <;> simp only [KerbLink.overtake, h, e, Option.map_some, Option.some.injEq,
      exists_eq_left', if_true, if_false, decide_true, decide_false, Bool.or_true, Bool.or_false] <;>
      exact ⟨Eq.symm, Eq.symm⟩

/-! ### The signal port: what an entry, a half change and a decisecond do to each of its fields -/

@[simp] theorem portEnter_conflict (p : SignalPort) (st : CrossingState) : (p.enter st).conflict = p.conflict := rfl
@[simp] theorem portEnter_walkFailed (p : SignalPort) (st : CrossingState) :
    (p.enter st).walkFailed = (p.walkFailed && decide (p.lines.walk.mode = commandedMode st .walk)) := rfl
@[simp] theorem portHalfChange_conflict (p : SignalPort) : p.halfChange.conflict = p.conflict := rfl
@[simp] theorem portHalfChange_walkFailed (p : SignalPort) : p.halfChange.walkFailed = p.walkFailed := rfl
@[simp] theorem portTick_conflict (p : SignalPort) (inputs : Lamps Bool) :
    (p.tick inputs).conflict = nextConflict p.conflict (conflictSeen inputs) := rfl
@[simp] theorem portTick_walkFailed (p : SignalPort) (inputs : Lamps Bool) :
    (p.tick inputs).walkFailed = (p.walkFailed || decide (p.raised .walk inputs.walk = some .walkFail)) := rfl

/-- All that a port can raise: what the output's timer gives, and WALK_FAIL only where it has not been raised since the
walk's mode changed. -/
theorem portRaised_eq (p : SignalPort) (lamp : Lamp) (sampled : Bool) (cls : FaultClass) :
    p.raised lamp sampled = some cls ↔
      (lampAt p.lines lamp).raised lamp sampled = some cls ∧ (cls = .walkFail → p.walkFailed = false) := by
  cases cls <;> cases h : p.walkFailed <;> simp [SignalPort.raised, Option.filter_eq_some_iff, h]

/-- All that a crossing's proving can find at an output: what the port raises, and otherwise, in the start-up, a fault
still standing whose class is not in the set. -/
theorem mismatchFound_cases (x : Crossing) (lamp : Lamp) (sampled : Bool) (cls : FaultClass)
    (h : x.mismatchFound lamp sampled = some cls) :
    x.port.raised lamp sampled = some cls ∨
      (x.state.startingUp = true ∧ (lampAt x.port.lines lamp).standing lamp sampled = some cls ∧ x.faults.has cls = false) := by
  unfold Crossing.mismatchFound at h
  split at h
  · exact .inl (by simp_all)
  · unfold Crossing.detectsAgain at h
    split at h
    · exact .inr (by simp_all [Option.filter_eq_some_iff])
    · cases h

/-- Outside the start-up a crossing's proving finds what the port raises and nothing else. -/
theorem mismatchFound_steady (x : Crossing) (lamp : Lamp) (sampled : Bool) (h : x.state.startingUp = false) :
    x.mismatchFound lamp sampled = x.port.raised lamp sampled := by
  unfold Crossing.mismatchFound Crossing.detectsAgain
  split <;> simp_all

/-! ### The host port under a notice -/

@[simp] theorem raise_host_receiver (n : NoticeBody) : (s.raise n).host.receiver = s.host.receiver := by
  simp only [State.raise, HostPort.raise]; split <;> [split; skip] <;> rfl

@[simp] theorem raise_host_requests (n : NoticeBody) : (s.raise n).host.requests = s.host.requests := by
  simp only [State.raise, HostPort.raise]; split <;> [split; skip] <;> rfl

@[simp] theorem raise_host_executing (n : NoticeBody) : (s.raise n).host.executing = s.host.executing := by
  simp only [State.raise, HostPort.raise]; split <;> [split; skip] <;> rfl

@[simp] theorem raise_host_reply (n : NoticeBody) : (s.raise n).host.reply = s.host.reply := by
  simp only [State.raise, HostPort.raise]; split <;> [split; skip] <;> rfl

@[simp] theorem raise_host_transmission (n : NoticeBody) : (s.raise n).host.transmission = s.host.transmission := by
  simp only [State.raise, HostPort.raise]; split <;> [split; skip] <;> rfl

@[simp] theorem raise_host_filter (n : NoticeBody) : (s.raise n).host.filter = s.host.filter := by
  simp only [State.raise, HostPort.raise]; split <;> [split; skip] <;> rfl

@[simp] theorem raise_host_restartHold (n : NoticeBody) : (s.raise n).host.restartHold = s.host.restartHold := by
  simp only [State.raise, HostPort.raise]; split <;> [split; skip] <;> rfl

end Sys2Proof.Machine
end

