-- ==== Sys2Proof/Laws/Steady.lean ====
section
/-!
SUPPORT. What the work of crossings, calls, groups and the audible level block leaves as it was: the clock, the plan
store, the announced events, the host port but for its notices, the kerb link's side of every unit, and every in-force
record. One lemma per shared operation.
-/

namespace Sys2Proof.Machine

/-- What the work of crossings, calls, groups and audible aids leaves as it was. -/
structure Steady (s t : State) : Prop where
  running : t.running = s.running
  clock : t.clock = s.clock
  store : t.store = s.store
  due : t.due = s.due
  freeCount : t.freeCount = s.freeCount
  pending : t.pending = s.pending
  receiver : t.host.receiver = s.host.receiver
  requests : t.host.requests = s.host.requests
  executing : t.host.executing = s.host.executing
  reply : t.host.reply = s.host.reply
  transmission : t.host.transmission = s.host.transmission
  filter : t.host.filter = s.host.filter
  restartHold : t.host.restartHold = s.host.restartHold
  links : ∀ u, (t.unit u).link = (s.unit u).link
  records : ∀ c, (t.crossing c).inForce = (s.crossing c).inForce
  lastPolled : t.kerb.lastPolled = s.kerb.lastPolled
  resting : t.kerb.resting = s.kerb.resting
  ended : t.kerb.ended = s.kerb.ended
  transaction : t.kerb.transaction.map (fun x => { x with actionLive := false, beforeWalk := false }) =
    s.kerb.transaction.map fun x => { x with actionLive := false, beforeWalk := false }
  corridorCounters : t.counters.corridor.work = s.counters.corridor.work

namespace Steady

variable {s t w : State}

theorem refl (s : State) : Steady s s := by constructor <;> intros <;> rfl

theorem trans (h : Steady s t) (k : Steady t w) : Steady s w where
  running := k.running.trans h.running
  clock := k.clock.trans h.clock
  store := k.store.trans h.store
  due := k.due.trans h.due
  freeCount := k.freeCount.trans h.freeCount
  pending := k.pending.trans h.pending
  receiver := k.receiver.trans h.receiver
  requests := k.requests.trans h.requests
  executing := k.executing.trans h.executing
  reply := k.reply.trans h.reply
  transmission := k.transmission.trans h.transmission
  filter := k.filter.trans h.filter
  restartHold := k.restartHold.trans h.restartHold
  links u := (k.links u).trans (h.links u)
  records c := (k.records c).trans (h.records c)
  lastPolled := k.lastPolled.trans h.lastPolled
  resting := k.resting.trans h.resting
  ended := k.ended.trans h.ended
  transaction := k.transaction.trans h.transaction
  corridorCounters := k.corridorCounters.trans h.corridorCounters

/-- A steady operation made after steady ones. -/
theorem after (k : Steady t w) (h : Steady s t) : Steady s w := h.trans k

/-- A list of steady operations is steady. -/
theorem foldl {α : Type} {f : State → α → State} (l : List α) (s : State) (h : ∀ s a, Steady s (f s a)) :
    Steady s (l.foldl f s) := foldl_related l s refl trans h

/-- A unit's map part follows from its side of the kerb link. -/
theorem mapping (h : Steady s t) (u : UnitId) : (t.unit u).mapping = (s.unit u).mapping :=
  (KerbUnit.mk.inj (h.links u)).1

/-- A unit's state follows from its side of the kerb link. -/
theorem unitState (h : Steady s t) (u : UnitId) : (t.unit u).state = (s.unit u).state :=
  (KerbUnit.mk.inj (h.links u)).2.1

end Steady

variable (s : State)

/-! ### Updates -/

theorem raise_steady (n : NoticeBody) : Steady s (s.raise n) := by constructor <;> intros <;> first | rfl | simp

theorem countCrossing_steady (c : CrossingId) (f : CrossingCounters → CrossingCounters) :
    Steady s (s.countCrossing c f) := by constructor <;> intros <;> rfl

theorem countUnit_steady (u : UnitId) (f : UnitCounters → UnitCounters) : Steady s (s.countUnit u f) := by
  constructor <;> intros <;> rfl

theorem changeGroup_steady (g : GroupId) (f : Group → Group) : Steady s (s.changeGroup g f) := by
  constructor <;> intros <;> rfl

/-- A change of the list of call records is steady. -/
theorem withCalls_steady (l : List CallRecord) : Steady s { s with calls := l } := by constructor <;> intros <;> rfl

theorem changeCrossing_steady (c : CrossingId) {f : Crossing → Crossing} (h : ∀ x, (f x).inForce = x.inForce) :
    Steady s (s.changeCrossing c f) := by
  constructor <;> intros <;> first | rfl | skip
  rw [changeCrossing_get]; split <;> simp [h]

theorem changeUnit_steady (u : UnitId) {f : KerbUnit → KerbUnit} (h : ∀ k, (f k).link = k.link) :
    Steady s (s.changeUnit u f) := by
  constructor <;> intros <;> first | rfl | skip
  rw [changeUnit_get]; split <;> simp [h]

theorem changeAudible_steady (u : UnitId) (f : Audible → Audible) : Steady s (s.changeAudible u f) :=
  changeUnit_steady s u fun _ => rfl

/-- Units rewritten without touching their side of the kerb link. -/
theorem rewriteUnits_steady {f : UnitId → KerbUnit → KerbUnit} (h : ∀ u k, (f u k).link = k.link) :
    Steady s { s with units := rewrite s.units f } := by
  constructor <;> intros <;> first | rfl | skip
  simp [State.unit, h]

/-! ### The audible level block -/

theorem relevelUnit_link (crossings : Vector Crossing 8) (q : Bool) (k : KerbUnit) :
    (relevelUnit crossings q k).link = k.link := by unfold relevelUnit; split <;> rfl

theorem relevel_steady (u : UnitId) : Steady s (s.relevel u) :=
  changeUnit_steady s u fun _ => relevelUnit_link _ _ _

theorem relevelAll_steady : Steady s s.relevelAll := rewriteUnits_steady s fun _ _ => relevelUnit_link _ _ _

theorem relevelCrossing_steady (c : CrossingId) : Steady s (s.relevelCrossing c) :=
  rewriteUnits_steady s fun _ k => by split <;> simp [relevelUnit_link]

theorem markAccessible_steady (c : CrossingId) (b : Bool) : Steady s (s.markAccessible c b) := by
  unfold State.markAccessible; split
  · exact .refl s
  · exact .after (relevelCrossing_steady _ c) (changeCrossing_steady s c fun _ => rfl)

theorem request_steady (u : UnitId) (a : SampleAction) : Steady s (s.request u a) := by
  refine Steady.after (t := s.changeUnit u fun k => { k with pendingAction := some a }) ?_
    (changeUnit_steady s u fun _ => rfl)
  constructor <;> intros <;> first | rfl | skip
  simp only [State.request, KerbLink.supersede, Option.map_map]
  congr 1; funext x; simp only [Function.comp]; split <;> rfl

theorem liftMutes_steady (u : UnitId) : Steady s (s.liftMutes u) := rewriteUnits_steady s fun _ _ => rfl

theorem endSample_steady (u : UnitId) (r : SampleReport) : Steady s (s.endSample u r) :=
  .after (changeAudible_steady _ u _) (liftMutes_steady s u)

theorem loseSample_steady (u : UnitId) (cancel : Bool) : Steady s (s.loseSample u cancel) := by
  unfold State.loseSample; split
  · exact .refl s
  · split
    · exact .after (request_steady _ u _) (endSample_steady s u _)
    · exact endSample_steady s u _

theorem abandonSample_steady (u : UnitId) : Steady s (s.abandonSample u) :=
  .after (countUnit_steady _ u _) (.after (request_steady _ u _) (endSample_steady s u _))

theorem closeSampleEarly_steady (u : UnitId) (t : Time) : Steady s (s.closeSampleEarly u t) :=
  .after (request_steady _ u _) (.after (changeAudible_steady _ u _) (liftMutes_steady s u))

theorem closeSampleWindow_steady (u : UnitId) (t : Time) : Steady s (s.closeSampleWindow u t) :=
  .after (changeAudible_steady _ u _) (liftMutes_steady s u)

theorem onsetAt_steady (v u : UnitId) : Steady s (s.onsetAt v u) := by
  unfold State.onsetAt; split
  · exact .refl s
  · split
    · split
      · exact abandonSample_steady s u
      · split
        · exact abandonSample_steady s u
        · exact closeSampleEarly_steady s u _
      · exact .refl s
    · exact .refl s

theorem onset_steady (v : UnitId) : Steady s (s.onset v) := .foldl _ s fun s u => onsetAt_steady s v u

theorem overtake_steady (u : UnitId) : Steady s { s with kerb := s.kerb.overtake u } := by
  constructor <;> intros <;> first | rfl | skip
  simp only [KerbLink.overtake, Option.map_map]
  congr 1; funext x; simp only [Function.comp]; split <;> rfl

theorem soundUnit_steady (c : CrossingId) (u : UnitId) : Steady s (s.soundUnit c u) := by
  unfold State.soundUnit; dsimp only; split
  · split
    · exact overtake_steady s u
    · exact .after (onset_steady _ u) <| .after (changeUnit_steady _ u fun _ => rfl) (overtake_steady s u)
  · exact .refl s

theorem soundCrossing_steady (c : CrossingId) : Steady s (s.soundCrossing c) :=
  .foldl _ s fun s u => soundUnit_steady s c u

theorem grant_steady (u : UnitId) : Steady s (s.grant u) := by
  unfold State.grant
  exact .after (request_steady _ u _) (.after (changeAudible_steady _ u _)
    (rewriteUnits_steady s fun _ k => by split <;> rfl))

theorem grantSamples_steady : Steady s s.grantSamples := by
  unfold State.grantSamples; split
  · refine .foldl _ s fun s u => ?_
    unfold State.considerGrant; split
    · exact grant_steady s u
    · exact .refl s
  · exact .refl s

/-! ### Admission -/

theorem removeCall_steady (c : CrossingId) (r : RemovalReason) : Steady s (s.removeCall c r) := by
  unfold State.removeCall; split
  · exact .refl s
  · exact .after (raise_steady _ _) (.after (changeCrossing_steady _ c fun _ => rfl) (withCalls_steady s _))

theorem await_steady (c : CrossingId) (r : Route) (w : WaitReason) : Steady s (s.await c r w) :=
  changeCrossing_steady s c fun _ => rfl

theorem raiseTruncated_steady (c : CrossingId) (k : Stage) (cut : Option Cut) : Steady s (s.raiseTruncated c k cut) := by
  cases cut
  · exact .refl s
  · exact raise_steady s _

theorem admitCall_steady (c : CrossingId) (call : CallRecord) (r : Record) (a : Admission) :
    Steady s (s.admitCall c call r a) := by
  unfold State.admitCall
  exact .after (raiseTruncated_steady _ _ _ _) <| .after (raise_steady _ _) <| .after (countCrossing_steady _ _ _) <|
    .after (markAccessible_steady _ _ _) <| .after (changeCrossing_steady _ c fun _ => rfl) (removeCall_steady s c _)

theorem evaluateBand_steady (c : CrossingId) (call : CallRecord) (r : Record) : Steady s (s.evaluateBand c call r) := by
  unfold State.evaluateBand; split
  · exact admitCall_steady s c call r _
  · exact await_steady s c _ _

theorem evaluateDirect_steady (c : CrossingId) (call : CallRecord) (r : Record) :
    Steady s (s.evaluateDirect c call r) := by
  unfold State.evaluateDirect; split
  · exact admitCall_steady s c call r _
  · exact await_steady s c _ _

theorem considerInGroup_steady (g : GroupId) (c : CrossingId) (call : CallRecord) (r : Record) :
    Steady s (s.considerInGroup g c call r) := by
  unfold State.considerInGroup; split
  · exact await_steady s c _ _
  · split
    · exact await_steady s c _ _
    · split
      · exact .after (admitCall_steady _ c call r _) (changeGroup_steady s g _)
      · exact await_steady s c _ _

theorem groupTurn_steady (g : GroupId) (c : CrossingId) : Steady s (s.groupTurn g c) := by
  unfold State.groupTurn; split
  · split
    · exact considerInGroup_steady s g c _ _
    · exact .refl s
  · exact .refl s

theorem evaluateGroup_steady (g : GroupId) : Steady s (s.evaluateGroup g) := .foldl _ s fun s c => groupTurn_steady s g c

theorem evaluateOn_steady (c : CrossingId) (call : CallRecord) (r : Record) (route : Route) :
    Steady s (s.evaluateOn c call r route) := by
  cases route
  · exact evaluateBand_steady s c call r
  · exact evaluateGroup_steady s _
  · exact evaluateDirect_steady s c call r

theorem evaluate_steady (c : CrossingId) : Steady s (s.evaluate c) := by
  unfold State.evaluate; split
  · split
    · exact await_steady s c _ _
    · exact evaluateOn_steady s c _ _ _
  · exact .refl s

theorem evaluateAll_steady : Steady s s.evaluateAll := .foldl _ s fun s c => evaluate_steady s c

theorem uncount_steady (g : Option GroupId) : Steady s (s.uncount g) := by
  cases g
  · exact .refl s
  · exact changeGroup_steady s _ _

theorem evaluateAfterEnd_steady (g : Option GroupId) : Steady s (s.evaluateAfterEnd g) := by
  cases g
  · exact .refl s
  · exact evaluateGroup_steady s _

/-! ### Offers -/

theorem registerCall_steady (c : CrossingId) (o : Offer) : Steady s (s.registerCall c o) :=
  .after (raise_steady _ _) (.after (countCrossing_steady _ c _) (withCalls_steady s _))

theorem mergeCall_steady (c : CrossingId) (o : Offer) : Steady s (s.mergeCall c o) := withCalls_steady s _

theorem intoQueue_steady (c : CrossingId) (o : Offer) : Steady s (s.intoQueue c o).2 := by
  unfold State.intoQueue; split
  · exact .after (evaluate_steady _ c) (registerCall_steady s c o)
  · exact .after (evaluate_steady _ c) (mergeCall_steady s c o)

theorem upgradeStage_steady (c : CrossingId) (k : Stage) (x r : Nat) : Steady s (s.upgradeStage c k x r) := by
  unfold State.upgradeStage
  exact .after (markAccessible_steady _ _ _) <| .after (raise_steady _ _) <| .after (countCrossing_steady _ _ _)
    (changeCrossing_steady s c fun _ => rfl)

theorem tryUpgrade_steady (c : CrossingId) (o : Offer) : Steady s (s.tryUpgrade c o).2 := by
  unfold State.tryUpgrade; dsimp only; split
  · exact .refl s
  · split
    · exact .refl s
    · exact upgradeStage_steady s c _ _ _
    · split
      · exact intoQueue_steady s c o
      · exact .refl s

theorem offer_steady (c : CrossingId) (o : Offer) : Steady s (s.offer c o).2 := by
  unfold State.offer; dsimp only; split
  · exact intoQueue_steady s c o
  · split
    · split
      · exact tryUpgrade_steady s c o
      · exact .refl s
    · exact .refl s

theorem handOver_steady (c : CrossingId) (side : Side) (p x : Nat) : Steady s (s.handOver c side p x) :=
  .after (offer_steady _ c _) (countCrossing_steady s c _)

theorem testFailRecall_steady (c : CrossingId) : Steady s (s.testFailRecall c) := by
  unfold State.testFailRecall; dsimp only; split
  · exact intoQueue_steady s c _
  · exact .refl s

theorem placeLink_steady (c : CrossingId) (k : Stage) : Steady s (s.placeLink c k) := by
  unfold State.placeLink; split
  · exact .refl s
  · split
    · exact .refl s
    · split
      · exact .refl s
      · split
        · exact .after (countCrossing_steady _ c _) (offer_steady s _ _)
        · exact countCrossing_steady s c _

theorem tellWorking_steady (c : CrossingId) (w : Sides) : Steady s (s.tellWorking c w) := by
  unfold State.tellWorking; split
  · exact .refl s
  · exact .after (testFailRecall_steady _ c) (changeCrossing_steady s c fun _ => rfl)

theorem reviewWorking_steady (c : CrossingId) : Steady s (s.reviewWorking c) := tellWorking_steady s c _

/-! ### Changes of crossing state -/

theorem reportState_steady (c : CrossingId) (cause : Cause) : Steady s (s.reportState c cause) := raise_steady s _

theorem loseService_steady (c : CrossingId) : Steady s (s.loseService c) :=
  .after (changeCrossing_steady _ c fun _ => rfl) (removeCall_steady s c _)

theorem enterStartup_steady (c : CrossingId) (cause : Cause) : Steady s (s.enterStartup c cause) := by
  unfold State.enterStartup
  exact .after (testFailRecall_steady _ c) (.after (reportState_steady _ c _) (changeCrossing_steady s c fun _ => rfl))

theorem enterUntimed_steady (c : CrossingId) (st : CrossingState) (cause : Cause) :
    Steady s (s.enterUntimed c st cause) := by
  unfold State.enterUntimed; dsimp only; split
  · exact .after (reportState_steady _ c _) (.after (loseService_steady _ c) (changeCrossing_steady s c fun _ => rfl))
  · exact .after (reportState_steady _ c _) (changeCrossing_steady s c fun _ => rfl)

theorem enterUnconfigured_steady (c : CrossingId) (cause : Cause) : Steady s (s.enterUnconfigured c cause) := by
  unfold State.enterUnconfigured; dsimp only; split
  · exact .after (enterStartup_steady _ c _) (enterUntimed_steady s c _ _)
  · exact enterUntimed_steady s c _ _

theorem discardStage_steady (c : CrossingId) : Steady s (s.discardStage c) :=
  .after (markAccessible_steady _ c _) (changeCrossing_steady s c fun _ => rfl)

theorem enterFaultFlash_steady (c : CrossingId) (cause : Cause) : Steady s (s.enterFaultFlash c cause) := by
  unfold State.enterFaultFlash
  exact .after (evaluateAfterEnd_steady _ _) <| .after (reportState_steady _ _ _) <|
    .after (changeCrossing_steady _ c fun _ => rfl) <| .after (loseService_steady _ _) <|
      .after (uncount_steady _ _) (discardStage_steady s c)

theorem enterTarget_steady (c : CrossingId) (t : Target) (cause : Cause) : Steady s (s.enterTarget c t cause) := by
  cases t
  · exact enterUntimed_steady s c _ _
  · exact enterUnconfigured_steady s c _
  · exact enterFaultFlash_steady s c _
  · exact enterUntimed_steady s c _ _

theorem setPending_steady (c : CrossingId) (t : Target) (cause : Cause) : Steady s (s.setPending c t cause) := by
  unfold State.setPending; dsimp only; split
  · have h := changeCrossing_steady s c (f := fun x => { x with pendingChange := some { target := t, cause := cause } })
      fun _ => rfl
    split <;> split
    · exact .after (reportState_steady _ c _) <| .after (changeCrossing_steady _ c fun _ => rfl) <|
        .after (reportState_steady _ c _) <| .after (loseService_steady _ c) h
    · exact .after (reportState_steady _ c _) <| .after (changeCrossing_steady _ c fun _ => rfl) <|
        .after (reportState_steady _ c _) h
    · exact .after (reportState_steady _ c _) <| .after (loseService_steady _ c) h
    · exact .after (reportState_steady _ c _) h
  · exact .refl s

theorem changeService_steady (c : CrossingId) (t : Target) (cause : Cause) : Steady s (s.changeService c t cause) := by
  unfold State.changeService; split
  all_goals first | exact enterTarget_steady s c t cause | exact setPending_steady s c t cause | exact .refl s

theorem actOnFault_steady (c : CrossingId) (cls : FaultClass) : Steady s (s.actOnFault c cls) := by
  unfold State.actOnFault; split
  all_goals first
    | exact .refl s
    | exact enterFaultFlash_steady s c _
    | exact changeService_steady s c _ _
    | exact enterUntimed_steady s c _ _

theorem faultEvent_steady (c : CrossingId) (lamp : Lamp) (cls : FaultClass) : Steady s (s.faultEvent c lamp cls) := by
  have h := changeCrossing_steady s c (f := fun x => { x with faults := x.faults.insert cls }) fun _ => rfl
  unfold State.faultEvent; dsimp only; split
  · exact .after (raise_steady _ _) <| .after (countCrossing_steady _ c _) <| .after (actOnFault_steady _ c cls) h
  · exact .after (actOnFault_steady _ c cls) h

theorem settleAdoption_steady (c : CrossingId) : Steady s (s.settleAdoption c) := by
  unfold State.settleAdoption; dsimp only; split
  · exact changeService_steady s c _ _
  · split
    · exact enterStartup_steady s c _
    · split
      · exact .after (testFailRecall_steady _ c) <| .after (reportState_steady _ c _) <|
          changeCrossing_steady s c fun _ => rfl
      · exact .refl s

/-! ### The crossing sequence -/

theorem beginWalk_steady (c : CrossingId) (k : Stage) : Steady s (s.beginWalk c k) := by
  unfold State.beginWalk
  exact .after (soundCrossing_steady _ c) <| .after (countCrossing_steady _ c _) <| .after (raise_steady _ _) <|
    .after (placeLink_steady _ c k) (changeCrossing_steady s c fun _ => rfl)

theorem startRecall_inForce (x : Crossing) (now : Time) : (x.startRecall now).inForce = x.inForce := by
  unfold Crossing.startRecall; split
  · split <;> rfl
  · rfl

theorem enterGreen_steady (c : CrossingId) : Steady s (s.enterGreen c) :=
  .after (testFailRecall_steady _ c) (changeCrossing_steady s c fun _ => rfl)

theorem endStage_steady (c : CrossingId) (k : Stage) : Steady s (s.endStage c k) := by
  have h := (discardStage_steady s c).trans <| (uncount_steady _ k.group).trans <|
    (changeCrossing_steady _ c (f := fun x => x.startRecall ((s.discardStage c).uncount k.group).clock.now)
      fun x => startRecall_inForce x _).trans <|
    raise_steady _ (.stageEnd c k.walk k.clearance k.upgraded
      (saturate (k.elapsed ((s.discardStage c).uncount k.group).clock.now)))
  unfold State.endStage
  refine .after (evaluateAfterEnd_steady _ _) ?_
  split
  · exact .after (enterGreen_steady _ c) h
  · exact .after (enterTarget_steady _ c _ _) h

theorem completeStartup_steady (c : CrossingId) : Steady s (s.completeStartup c) := by
  unfold State.completeStartup
  exact .after (testFailRecall_steady _ c) <| .after (reportState_steady _ c _) <|
    changeCrossing_steady s c fun x => startRecall_inForce _ _

theorem endClosing_steady (c : CrossingId) : Steady s (s.endClosing c) := by
  unfold State.endClosing; split
  · exact enterTarget_steady s c _ _
  · exact .refl s

theorem follow_steady (c : CrossingId) (st : CrossingState) (n : Nat) : Steady s (s.follow c st n) :=
  .after (testFailRecall_steady _ c) (changeCrossing_steady s c fun _ => rfl)

theorem endInterval_steady (c : CrossingId) : Steady s (s.endInterval c) := by
  unfold State.endInterval; dsimp only; split
  · split
    · exact follow_steady s c _ _
    · exact completeStartup_steady s c
    · split
      · exact endClosing_steady s c
      · split
        · exact follow_steady s c _ _
        · exact .refl s
    · split
      · exact beginWalk_steady s c _
      · exact .refl s
    · split
      · exact follow_steady s c _ _
      · exact .refl s
    · split
      · exact follow_steady s c _ _
      · exact .refl s
    · split
      · exact endStage_steady s c _
      · exact .refl s
    all_goals exact .refl s
  · exact .refl s

theorem expireGreen_steady (c : CrossingId) : Steady s (s.expireGreen c) := by
  unfold State.expireGreen; split
  · exact .after (evaluate_steady _ c) (changeCrossing_steady s c fun _ => rfl)
  · exact .refl s

theorem expireRecall_steady (c : CrossingId) : Steady s (s.expireRecall c) := by
  unfold State.expireRecall; split
  · split
    · exact .after (offer_steady _ c _) (changeCrossing_steady s c fun _ => rfl)
    · exact .refl s
  · exact .refl s

theorem arriveNotBefore_steady (c : CrossingId) : Steady s (s.arriveNotBefore c) := by
  unfold State.arriveNotBefore; split
  · split
    · exact .after (evaluate_steady _ c) (withCalls_steady s _)
    · exact .refl s
  · exact .refl s

theorem changeFlashHalf_steady (c : CrossingId) : Steady s (s.changeFlashHalf c) := by
  unfold State.changeFlashHalf; split
  · exact changeCrossing_steady s c fun _ => rfl
  · exact .refl s

theorem expireSpacing_steady (g : GroupId) : Steady s (s.expireSpacing g) := by
  unfold State.expireSpacing; split
  · split
    · exact .after (evaluateGroup_steady _ g) (changeGroup_steady s g _)
    · exact .refl s
  · exact .refl s

theorem closePairing_steady (g : GroupId) : Steady s (s.closePairing g) := by
  unfold State.closePairing; split
  · split
    · exact .after (evaluateGroup_steady _ g) (changeGroup_steady s g _)
    · exact .refl s
  · exact .refl s

end Sys2Proof.Machine
end

