-- ==== Sys2Proof/Laws/Turns.lean ====
section
/-!
SUPPORT. What a command's frame around its work comes to: a request at its turn, an event that is due, the transmitter's
look at the end of a step, the reply, and what steady work leaves undisturbed.
-/

namespace Sys2Proof.Machine

variable {s t : State}

/-! ### The step around a command's work -/

/-- A running part does the work and looks for a frame to send. -/
theorem live_running (h : s.running = true) (f : State → State) : s.live f = (f s).transmit := by simp [State.live, h]

/-- A request at its turn is taken from the queue and executed. -/
theorem serve_at_turn {fr : Frame} {rest : List Frame} (h : s.AtTurn fr rest) {is : Frame → Bool} (hi : is fr = true)
    (f : Frame → State → State) : (s.live fun s => s.serve is f) = (f fr (s.taking rest)).transmit := by
  obtain ⟨a, b, c⟩ := h
  simp [State.live, a, State.serve, b, c, hi, State.taking]

/-- A due event is taken from the announced events and its work done. -/
theorem take_due {d : Due} (h : s.IsDue d) (f : State → State) :
    (s.live fun s => s.take d f) = (f (s.without d)).transmit := by
  obtain ⟨a, b⟩ := h
  simp [State.live, a, State.take, b, State.without]

/-! ### What a request, an event and the transmitter leave -/

@[simp] theorem taking_running (l : List Frame) : (s.taking l).running = s.running := rfl
@[simp] theorem taking_clock (l : List Frame) : (s.taking l).clock = s.clock := rfl
@[simp] theorem taking_store (l : List Frame) : (s.taking l).store = s.store := rfl
@[simp] theorem taking_calls (l : List Frame) : (s.taking l).calls = s.calls := rfl
@[simp] theorem taking_crossing (l : List Frame) (c : CrossingId) : (s.taking l).crossing c = s.crossing c := rfl
@[simp] theorem taking_group (l : List Frame) (g : GroupId) : (s.taking l).group g = s.group g := rfl
@[simp] theorem taking_unit (l : List Frame) (u : UnitId) : (s.taking l).unit u = s.unit u := rfl
@[simp] theorem taking_callOf (l : List Frame) (c : CrossingId) : (s.taking l).callOf c = s.callOf c := rfl
@[simp] theorem taking_kerb (l : List Frame) : (s.taking l).kerb = s.kerb := rfl
@[simp] theorem taking_counters (l : List Frame) : (s.taking l).counters = s.counters := rfl
@[simp] theorem taking_due (l : List Frame) : (s.taking l).due = s.due := rfl

@[simp] theorem without_running (d : Due) : (s.without d).running = s.running := rfl
@[simp] theorem without_clock (d : Due) : (s.without d).clock = s.clock := rfl
@[simp] theorem without_store (d : Due) : (s.without d).store = s.store := rfl
@[simp] theorem without_calls (d : Due) : (s.without d).calls = s.calls := rfl
@[simp] theorem without_crossing (d : Due) (c : CrossingId) : (s.without d).crossing c = s.crossing c := rfl
@[simp] theorem without_group (d : Due) (g : GroupId) : (s.without d).group g = s.group g := rfl
@[simp] theorem without_unit (d : Due) (u : UnitId) : (s.without d).unit u = s.unit u := rfl
@[simp] theorem without_callOf (d : Due) (c : CrossingId) : (s.without d).callOf c = s.callOf c := rfl
@[simp] theorem without_kerb (d : Due) : (s.without d).kerb = s.kerb := rfl
@[simp] theorem without_counters (d : Due) : (s.without d).counters = s.counters := rfl
@[simp] theorem without_host (d : Due) : (s.without d).host = s.host := rfl

/-- The transmitter's look leaves the port's receiver, queue, execution, filter and hold. -/
theorem transmit_portKept (s : State) : PortKept s s.transmit := by
  constructor <;> simp only [State.transmit, HostPort.transmit] <;> split <;> (try split) <;> (try split) <;> rfl

namespace Undisturbed

/-- Steady work leaves the corridor, the kerb link, the port and the announced events undisturbed. -/
theorem ofSteady (h : Steady s t) : Undisturbed s t where
  corridor := ⟨h.running, h.clock, h.store, h.records, h.corridorCounters, h.freeCount, h.pending⟩
  kerb := ⟨h.links, h.lastPolled, h.resting, h.ended, h.transaction⟩
  port := ⟨h.receiver, h.requests, h.executing, h.filter, h.restartHold⟩
  due := h.due

/-- The transmitter's look after undisturbing work. -/
theorem transmit (h : Undisturbed s t) : Undisturbed s t.transmit where
  corridor := ⟨h.corridor.running, h.corridor.clock, h.corridor.store, h.corridor.records, h.corridor.corridorCounters,
    h.corridor.freeCount, h.corridor.pending⟩
  kerb := ⟨h.kerb.links, h.kerb.lastPolled, h.kerb.resting, h.kerb.ended, h.kerb.transaction⟩
  port :=
    let k := transmit_portKept t
    ⟨k.receiver.trans h.port.receiver, k.requests.trans h.port.requests, k.executing.trans h.port.executing,
      k.filter.trans h.port.filter, k.restartHold.trans h.port.restartHold⟩
  due := h.due

/-- Steady work on a due event: everything but the event's own announcement is undisturbed. -/
theorem ofDue {d : Due} (h : Steady (s.without d) t) :
    CorridorKept s t.transmit ∧ KerbKept s t.transmit ∧ PortKept s t.transmit ∧ t.transmit.due = s.due.erase d := by
  obtain ⟨a, b, c, e⟩ := (ofSteady h).transmit
  exact ⟨⟨a.1, a.2, a.3, a.4, a.5, a.6, a.7⟩, ⟨b.1, b.2, b.3, b.4, b.5⟩, ⟨c.1, c.2, c.3, c.4, c.5⟩, e⟩

/-- Steady work on a request at its turn, then its reply: the corridor, the kerb link and the announced events are
undisturbed, and the request has left the queue. -/
theorem ofTurn {rest : List Frame} {tag : Byte} {r : ReplyContent} (h : Steady (s.taking rest) t) :
    CorridorKept s (t.respond tag r).transmit ∧ KerbKept s (t.respond tag r).transmit ∧
      (t.respond tag r).transmit.host.requests = rest ∧ (t.respond tag r).transmit.due = s.due := by
  obtain ⟨a, b, c, e⟩ := ofSteady h
  refine ⟨⟨a.1, a.2, a.3, a.4, a.5, a.6, a.7⟩, ⟨b.1, b.2, b.3, b.4, b.5⟩, ?_, e⟩
  rw [(transmit_portKept _).requests]
  exact c.requests

end Undisturbed

/-- A reply placed in an empty slot after work that left the transmitter alone: the request is answered. -/
theorem answered_respond {tag : Byte} {r : ReplyContent}
    (ht : t.host.transmission = s.host.transmission) : Answered s (t.respond tag r).transmit tag r := by
  unfold Answered State.transmit HostPort.transmit State.respond
  cases h : s.host.transmission with
  | none => left; simp [ht, h]
  | some x => right; simp [ht, h]

end Sys2Proof.Machine
end

