-- ==== Sys2Proof/Laws/Reach.lean ====
section
/-!
SUPPORT. How far the work of one crossing reaches: `Within p s t` says that only crossings of `p` changed, with their
call records and counters; `UnitsKept s t` that of the kerb units only the levels changed. One lemma of each for every
shared operation of admission and demand.
-/

namespace Sys2Proof.Machine

/-- A crossing outside `p` keeps its controller, its call record and its counters. -/
def Within (p : CrossingId → Prop) (s t : State) : Prop :=
  ∀ d, ¬ p d → t.crossing d = s.crossing d ∧ t.callOf d = s.callOf d ∧ t.counters.crossings[d] = s.counters.crossings[d]

/-- `p` holds of the crossing and of every crossing its group takes with it. -/
def State.Covers (s : State) (p : CrossingId → Prop) (c : CrossingId) : Prop := p c ∧ ∀ d, s.shareGroup c d → p d

/-- Of every unit's entry only the levels changed; the units' counters and the press counters stand. -/
structure UnitsKept (s t : State) : Prop where
  unit : ∀ u, ({ t.unit u with audible := { (t.unit u).audible with locatorLevel := 0, walkLevel := 0 } } : KerbUnit) =
    { s.unit u with audible := { (s.unit u).audible with locatorLevel := 0, walkLevel := 0 } }
  counters : t.counters.units = s.counters.units
  presses : ∀ c : CrossingId, (t.counters.crossings[c]).presses = (s.counters.crossings[c]).presses ∧
    (t.counters.crossings[c]).extendedPresses = (s.counters.crossings[c]).extendedPresses

variable {p : CrossingId → Prop} {s t w : State}

namespace Within

theorem refl (s : State) : Within p s s := fun _ _ => ⟨rfl, rfl, rfl⟩

theorem trans (h : Within p s t) (k : Within p t w) : Within p s w := fun d hd =>
  ⟨(k d hd).1.trans (h d hd).1, (k d hd).2.1.trans (h d hd).2.1, (k d hd).2.2.trans (h d hd).2.2⟩

theorem after (k : Within p t w) (h : Within p s t) : Within p s w := h.trans k

end Within

namespace UnitsKept

theorem refl (s : State) : UnitsKept s s := ⟨fun _ => rfl, rfl, fun _ => ⟨rfl, rfl⟩⟩

theorem trans (h : UnitsKept s t) (k : UnitsKept t w) : UnitsKept s w :=
  ⟨fun u => (k.unit u).trans (h.unit u), k.counters.trans h.counters,
    fun c => ⟨(k.presses c).1.trans (h.presses c).1, (k.presses c).2.trans (h.presses c).2⟩⟩

theorem after (k : UnitsKept t w) (h : UnitsKept s t) : UnitsKept s w := h.trans k

theorem foldl {α : Type} {f : State → α → State} (l : List α) (s : State) (h : ∀ s a, UnitsKept s (f s a)) :
    UnitsKept s (l.foldl f s) := foldl_related l s refl trans h

end UnitsKept

/-- Sharing a group rests on the in-force records and the mode alone. -/
theorem shareGroup_of_steady (h : Steady s t) (c d : CrossingId) : t.shareGroup c d ↔ s.shareGroup c d := by
  simp only [State.shareGroup, Crossing.record, h.records, h.clock]

/-- Steady work leaves what `p` covers. -/
theorem covers_of_steady (h : Steady s t) {c : CrossingId} (k : s.Covers p c) : t.Covers p c :=
  ⟨k.1, fun d hd => k.2 d ((shareGroup_of_steady h c d).1 hd)⟩

variable (s)

/-! ### Updates -/

theorem raise_within (n : NoticeBody) : Within p s (s.raise n) := fun _ _ => ⟨rfl, rfl, rfl⟩

theorem changeCrossing_within {c : CrossingId} (f : Crossing → Crossing) (h : p c) : Within p s (s.changeCrossing c f) :=
  fun _ hd => ⟨changeCrossing_other s f fun e => hd (e ▸ h), rfl, rfl⟩

theorem countCrossing_within {c : CrossingId} (f : CrossingCounters → CrossingCounters) (h : p c) :
    Within p s (s.countCrossing c f) :=
  fun _ hd => ⟨rfl, rfl, change_get_ne _ f fun e => hd (e ▸ h)⟩

theorem changeGroup_within (g : GroupId) (f : Group → Group) : Within p s (s.changeGroup g f) := fun _ _ => ⟨rfl, rfl, rfl⟩

theorem changeUnit_within (u : UnitId) (f : KerbUnit → KerbUnit) : Within p s (s.changeUnit u f) := fun _ _ => ⟨rfl, rfl, rfl⟩

/-- A change of the list of call records that leaves every record outside `p`. -/
theorem withCalls_within {l : List CallRecord}
    (h : ∀ d, ¬ p d → (l.find? fun r => decide (r.crossing = d)) = s.calls.find? fun r => decide (r.crossing = d)) :
    Within p s { s with calls := l } := fun d hd => ⟨rfl, h d hd, rfl⟩

/-! ### The records of other crossings -/

theorem find_filter_other {l : List CallRecord} {c d : CrossingId} (h : d ≠ c) :
    ((l.filter fun q => decide (q.crossing ≠ c)).find? fun r => decide (r.crossing = d)) =
      l.find? fun r => decide (r.crossing = d) := by
  rw [List.find?_filter]
  congr 1; funext r
  by_cases e : r.crossing = d <;> simp [e, h]

theorem find_map_other {l : List CallRecord} {c d : CrossingId} (f : CallRecord → CallRecord)
    (hf : ∀ r, (f r).crossing = r.crossing) (h : d ≠ c) :
    ((l.map fun q => if q.crossing = c then f q else q).find? fun r => decide (r.crossing = d)) =
      l.find? fun r => decide (r.crossing = d) := by
  induction l with
  | nil => rfl
  | cons q l ih =>
    rw [List.map_cons, List.find?_cons, List.find?_cons]
    by_cases e : q.crossing = c
    · have : ¬ c = d := fun e' => h e'.symm
      simp only [e, if_true, hf, this, decide_false]; exact ih
    · simp only [e, if_false]; split
      · rfl
      · exact ih

/-- A record changed in place is the one found. -/
theorem find_map_self {l : List CallRecord} {c : CrossingId} (f : CallRecord → CallRecord)
    (hf : ∀ r, (f r).crossing = r.crossing) :
    ((l.map fun q => if q.crossing = c then f q else q).find? fun r => decide (r.crossing = c)) =
      (l.find? fun r => decide (r.crossing = c)).map f := by
  induction l with
  | nil => rfl
  | cons q l ih =>
    rw [List.map_cons, List.find?_cons, List.find?_cons]
    by_cases e : q.crossing = c
    · simp [e, hf]
    · simp [e, ih]

theorem find_filter_self {l : List CallRecord} {c : CrossingId} :
    ((l.filter fun q => decide (q.crossing ≠ c)).find? fun r => decide (r.crossing = c)) = none := by
  simp [List.find?_eq_none]

theorem find_append_other {l : List CallRecord} {r : CallRecord} {d : CrossingId} (h : r.crossing ≠ d) :
    ((l ++ [r]).find? fun q => decide (q.crossing = d)) = l.find? fun q => decide (q.crossing = d) := by
  simp [List.find?_append, h]

theorem find_append_self {l : List CallRecord} {r : CallRecord}
    (h : (l.find? fun q => decide (q.crossing = r.crossing)) = none) :
    ((l ++ [r]).find? fun q => decide (q.crossing = r.crossing)) = some r := by
  simp [List.find?_append, h]

/-- After its removal a crossing has no record. -/
theorem removeCall_callOf (c : CrossingId) (r : RemovalReason) : (s.removeCall c r).callOf c = none := by
  unfold State.removeCall; split
  · assumption
  · exact find_filter_self

/-! ### Admission: how far it reaches -/

theorem relevelCrossing_within (c : CrossingId) : Within p s (s.relevelCrossing c) := fun _ _ => ⟨rfl, rfl, rfl⟩

theorem markAccessible_within {c : CrossingId} (b : Bool) (h : p c) : Within p s (s.markAccessible c b) := by
  unfold State.markAccessible; split
  · exact .refl s
  · exact .after (relevelCrossing_within _ c) (changeCrossing_within s _ h)

theorem removeCall_within {c : CrossingId} (r : RemovalReason) (h : p c) : Within p s (s.removeCall c r) := by
  unfold State.removeCall; split
  · exact .refl s
  · exact .after (raise_within _ _) <| .after (changeCrossing_within _ _ h) <|
      withCalls_within s fun _ hd => find_filter_other fun e => hd (e ▸ h)

theorem await_within {c : CrossingId} (r : Route) (w : WaitReason) (h : p c) : Within p s (s.await c r w) :=
  changeCrossing_within s _ h

theorem raiseTruncated_within (c : CrossingId) (k : Stage) (cut : Option Cut) : Within p s (s.raiseTruncated c k cut) := by
  cases cut
  · exact .refl s
  · exact raise_within s _

theorem admitCall_within {c : CrossingId} (call : CallRecord) (r : Record) (a : Admission) (h : p c) :
    Within p s (s.admitCall c call r a) := by
  unfold State.admitCall
  exact .after (raiseTruncated_within _ _ _ _) <| .after (raise_within _ _) <| .after (countCrossing_within _ _ h) <|
    .after (markAccessible_within _ _ h) <| .after (changeCrossing_within _ _ h) (removeCall_within s _ h)

theorem evaluateBand_within {c : CrossingId} (call : CallRecord) (r : Record) (h : p c) :
    Within p s (s.evaluateBand c call r) := by
  unfold State.evaluateBand; split
  · exact admitCall_within s call r _ h
  · exact await_within s _ _ h

theorem evaluateDirect_within {c : CrossingId} (call : CallRecord) (r : Record) (h : p c) :
    Within p s (s.evaluateDirect c call r) := by
  unfold State.evaluateDirect; split
  · exact admitCall_within s call r _ h
  · exact await_within s _ _ h

theorem considerInGroup_within (g : GroupId) {c : CrossingId} (call : CallRecord) (r : Record) (h : p c) :
    Within p s (s.considerInGroup g c call r) := by
  unfold State.considerInGroup; split
  · exact await_within s _ _ h
  · split
    · exact await_within s _ _ h
    · split
      · exact .after (admitCall_within _ call r _ h) (changeGroup_within s g _)
      · exact await_within s _ _ h

/-- A group evaluation reaches the crossings whose route is that group's. -/
theorem evaluateGroup_within (g : GroupId)
    (h : ∀ d r, (s.crossing d).record = some r → routeOf s.clock.mode r = .group g → p d) :
    Within p s (s.evaluateGroup g) := by
  unfold State.evaluateGroup
  generalize s.calls.map (·.crossing) = l
  induction l generalizing s with
  | nil => exact .refl s
  | cons c l ih =>
    have one : Within p s (s.groupTurn g c) := by
      unfold State.groupTurn; split
      · rename_i r _ hr; split
        · rename_i hg; exact considerInGroup_within s g _ _ (h c r hr hg)
        · exact .refl s
      · exact .refl s
    have st := groupTurn_steady s g c
    refine one.trans (ih _ fun d r hr hg => ?_)
    rw [st.clock] at hg
    simp only [Crossing.record, st.records] at hr
    exact h d r hr hg

/-- An eligible call taken on by its route reaches its crossing and, by GROUP, the crossings of that group. -/
theorem evaluateOn_within {c : CrossingId} (call : CallRecord) (r : Record) (route : Route) (h : p c)
    (hg : ∀ g, route = .group g → ∀ d r', (s.crossing d).record = some r' → routeOf s.clock.mode r' = .group g → p d) :
    Within p s (s.evaluateOn c call r route) := by
  cases route with
  | band => exact evaluateBand_within s call r h
  | group g => exact evaluateGroup_within s g (hg g rfl)
  | direct => exact evaluateDirect_within s call r h

/-- The evaluation of a crossing's call reaches the crossing and those its group takes with it. -/
theorem evaluate_within {c : CrossingId} (h : s.Covers p c) : Within p s (s.evaluate c) := by
  unfold State.evaluate; split
  · rename_i hr; split
    · exact await_within s _ _ h.1
    · exact evaluateOn_within s _ _ _ h.1 fun g hg d r' hr' hg' => h.2 d ⟨_, r', g, hr, hr', hg, hg'⟩
  · exact .refl s

/-! ### Demand: how far it reaches -/

theorem registerCall_within {c : CrossingId} (o : Offer) (h : p c) : Within p s (s.registerCall c o) :=
  .after (raise_within _ _) <| .after (countCrossing_within _ _ h) <|
    withCalls_within s fun _ hd => find_append_other fun e => hd (e ▸ h)

theorem mergeCall_within {c : CrossingId} (o : Offer) (h : p c) : Within p s (s.mergeCall c o) :=
  withCalls_within s fun _ hd => find_map_other (fun r => r.merge o) (fun _ => rfl) fun e => hd (e ▸ h)

theorem intoQueue_within {c : CrossingId} (o : Offer) (h : s.Covers p c) : Within p s (s.intoQueue c o).2 := by
  unfold State.intoQueue; split
  · exact .after (evaluate_within _ (covers_of_steady (registerCall_steady s c o) h)) (registerCall_within s o h.1)
  · exact .after (evaluate_within _ (covers_of_steady (mergeCall_steady s c o) h)) (mergeCall_within s o h.1)

theorem upgradeStage_within {c : CrossingId} (k : Stage) (x r : Nat) (h : p c) : Within p s (s.upgradeStage c k x r) := by
  unfold State.upgradeStage
  exact .after (markAccessible_within _ _ h) <| .after (raise_within _ _) <| .after (countCrossing_within _ _ h)
    (changeCrossing_within s _ h)

theorem tryUpgrade_within {c : CrossingId} (o : Offer) (h : s.Covers p c) : Within p s (s.tryUpgrade c o).2 := by
  unfold State.tryUpgrade; dsimp only; split
  · exact .refl s
  · split
    · exact .refl s
    · exact upgradeStage_within s _ _ _ h.1
    · split
      · exact intoQueue_within s o h
      · exact .refl s

theorem offer_within {c : CrossingId} (o : Offer) (h : s.Covers p c) : Within p s (s.offer c o).2 := by
  unfold State.offer; dsimp only; split
  · exact intoQueue_within s o h
  · split
    · split
      · exact tryUpgrade_within s o h
      · exact .refl s
    · exact .refl s

theorem handOver_within {c : CrossingId} (side : Side) (a b : Nat) (h : s.Covers p c) :
    Within p s (s.handOver c side a b) :=
  .after (offer_within _ _ (covers_of_steady (countCrossing_steady s c _) h)) (countCrossing_within s _ h.1)

theorem testFailRecall_within {c : CrossingId} (h : s.Covers p c) : Within p s (s.testFailRecall c) := by
  unfold State.testFailRecall; dsimp only; split
  · exact intoQueue_within s _ h
  · exact .refl s

theorem tellWorking_within {c : CrossingId} (x : Sides) (h : s.Covers p c) : Within p s (s.tellWorking c x) := by
  unfold State.tellWorking; split
  · exact .refl s
  · exact .after (testFailRecall_within _ (covers_of_steady (changeCrossing_steady s c
      (f := fun y => { y with working := x, failRecall := !(x.a && x.b) }) fun _ => rfl) h)) (changeCrossing_within s _ h.1)

/-! ### Admission and demand: the units -/

theorem raise_unitsKept (n : NoticeBody) : UnitsKept s (s.raise n) := ⟨fun _ => rfl, rfl, fun _ => ⟨rfl, rfl⟩⟩

theorem withCalls_unitsKept (l : List CallRecord) : UnitsKept s { s with calls := l } := ⟨fun _ => rfl, rfl, fun _ => ⟨rfl, rfl⟩⟩

theorem changeCrossing_unitsKept (c : CrossingId) (f : Crossing → Crossing) : UnitsKept s (s.changeCrossing c f) :=
  ⟨fun _ => rfl, rfl, fun _ => ⟨rfl, rfl⟩⟩

theorem changeGroup_unitsKept (g : GroupId) (f : Group → Group) : UnitsKept s (s.changeGroup g f) :=
  ⟨fun _ => rfl, rfl, fun _ => ⟨rfl, rfl⟩⟩

theorem countCrossing_unitsKept (c : CrossingId) {f : CrossingCounters → CrossingCounters}
    (h : ∀ n, (f n).presses = n.presses ∧ (f n).extendedPresses = n.extendedPresses) : UnitsKept s (s.countCrossing c f) := by
  refine ⟨fun _ => rfl, rfl, fun d => ?_⟩
  have : (s.countCrossing c f).counters.crossings[d] =
      if c = d then f s.counters.crossings[d] else s.counters.crossings[d] := change_get _ _ _ _
  rw [this]; split <;> simp [h]

theorem relevelUnit_levels (crossings : Vector Crossing 8) (q : Bool) (k : KerbUnit) :
    ({ relevelUnit crossings q k with
      audible := { (relevelUnit crossings q k).audible with locatorLevel := 0, walkLevel := 0 } } : KerbUnit) =
      { k with audible := { k.audible with locatorLevel := 0, walkLevel := 0 } } := by
  unfold relevelUnit; split <;> rfl

theorem relevelCrossing_unitsKept (c : CrossingId) : UnitsKept s (s.relevelCrossing c) := by
  refine ⟨fun u => ?_, rfl, fun _ => ⟨rfl, rfl⟩⟩
  have : (s.relevelCrossing c).unit u = if (s.unit u).crossing = some c then relevelUnit s.crossings s.clock.quiet (s.unit u)
      else s.unit u := rewrite_get _ _ _
  rw [this]; split
  · exact relevelUnit_levels _ _ _
  · rfl

theorem markAccessible_unitsKept (c : CrossingId) (b : Bool) : UnitsKept s (s.markAccessible c b) := by
  unfold State.markAccessible; split
  · exact .refl s
  · exact .after (relevelCrossing_unitsKept _ c) (changeCrossing_unitsKept s c _)

theorem removeCall_unitsKept (c : CrossingId) (r : RemovalReason) : UnitsKept s (s.removeCall c r) := by
  unfold State.removeCall; split
  · exact .refl s
  · exact .after (raise_unitsKept _ _) (.after (changeCrossing_unitsKept _ c _) (withCalls_unitsKept s _))

theorem admitCall_unitsKept (c : CrossingId) (call : CallRecord) (r : Record) (a : Admission) :
    UnitsKept s (s.admitCall c call r a) := by
  have cut : ∀ (w : State) k, UnitsKept w (w.raiseTruncated c k a.cut) := fun w k => by
    cases a.cut
    · exact .refl w
    · exact raise_unitsKept w _
  unfold State.admitCall
  exact .after (cut _ _) <| .after (raise_unitsKept _ _) <| .after (countCrossing_unitsKept _ _ fun _ => ⟨rfl, rfl⟩) <|
    .after (markAccessible_unitsKept _ _ _) <| .after (changeCrossing_unitsKept _ c _) (removeCall_unitsKept s c _)

theorem evaluateBand_unitsKept (c : CrossingId) (call : CallRecord) (r : Record) : UnitsKept s (s.evaluateBand c call r) := by
  unfold State.evaluateBand; split
  · exact admitCall_unitsKept s c call r _
  · exact changeCrossing_unitsKept s c _

theorem evaluateDirect_unitsKept (c : CrossingId) (call : CallRecord) (r : Record) :
    UnitsKept s (s.evaluateDirect c call r) := by
  unfold State.evaluateDirect; split
  · exact admitCall_unitsKept s c call r _
  · exact changeCrossing_unitsKept s c _

theorem groupTurn_unitsKept (g : GroupId) (c : CrossingId) : UnitsKept s (s.groupTurn g c) := by
  unfold State.groupTurn; split
  · split
    · unfold State.considerInGroup; split
      · exact changeCrossing_unitsKept s c _
      · split
        · exact changeCrossing_unitsKept s c _
        · split
          · exact .after (admitCall_unitsKept _ c _ _ _) (changeGroup_unitsKept s g _)
          · exact changeCrossing_unitsKept s c _
    · exact .refl s
  · exact .refl s

theorem evaluateGroup_unitsKept (g : GroupId) : UnitsKept s (s.evaluateGroup g) :=
  .foldl _ s fun s c => groupTurn_unitsKept s g c

theorem evaluateOn_unitsKept (c : CrossingId) (call : CallRecord) (r : Record) (route : Route) :
    UnitsKept s (s.evaluateOn c call r route) := by
  cases route
  · exact evaluateBand_unitsKept s c call r
  · exact evaluateGroup_unitsKept s _
  · exact evaluateDirect_unitsKept s c call r

theorem evaluate_unitsKept (c : CrossingId) : UnitsKept s (s.evaluate c) := by
  unfold State.evaluate; split
  · split
    · exact changeCrossing_unitsKept s c _
    · exact evaluateOn_unitsKept s c _ _ _
  · exact .refl s

theorem intoQueue_unitsKept (c : CrossingId) (o : Offer) : UnitsKept s (s.intoQueue c o).2 := by
  unfold State.intoQueue; split
  · exact .after (evaluate_unitsKept _ c) <| .after (raise_unitsKept _ _) <|
      .after (countCrossing_unitsKept _ c fun _ => ⟨rfl, rfl⟩) (withCalls_unitsKept s _)
  · exact .after (evaluate_unitsKept _ c) (withCalls_unitsKept s _)

theorem upgradeStage_unitsKept (c : CrossingId) (k : Stage) (x r : Nat) : UnitsKept s (s.upgradeStage c k x r) := by
  unfold State.upgradeStage
  exact .after (markAccessible_unitsKept _ _ _) <| .after (raise_unitsKept _ _) <|
    .after (countCrossing_unitsKept _ _ fun _ => ⟨rfl, rfl⟩) (changeCrossing_unitsKept s c _)

theorem offer_unitsKept (c : CrossingId) (o : Offer) : UnitsKept s (s.offer c o).2 := by
  unfold State.offer; dsimp only; split
  · exact intoQueue_unitsKept s c o
  · split
    · split
      · unfold State.tryUpgrade; dsimp only; split
        · exact .refl s
        · split
          · exact .refl s
          · exact upgradeStage_unitsKept s c _ _ _
          · split
            · exact intoQueue_unitsKept s c o
            · exact .refl s
      · exact .refl s
    · exact .refl s

theorem testFailRecall_unitsKept (c : CrossingId) : UnitsKept s (s.testFailRecall c) := by
  unfold State.testFailRecall; dsimp only; split
  · exact intoQueue_unitsKept s c _
  · exact .refl s

theorem tellWorking_unitsKept (c : CrossingId) (x : Sides) : UnitsKept s (s.tellWorking c x) := by
  unfold State.tellWorking; split
  · exact .refl s
  · exact .after (testFailRecall_unitsKept _ c) (changeCrossing_unitsKept s c _)

/-! ### A call that may not start -/

/-- No call of the crossing may start now: it is not in VEH_GREEN with its green timer expired, or its not-before is
still to come. -/
def State.Barred (s : State) (c : CrossingId) : Prop :=
  (s.crossing c).greenExpired = false ∨ ∀ r, s.callOf c = some r → r.notBefore.isSome = true

/-- From `s` to `t` the crossing kept its call record, its counters and everything but its route and waiting reason. -/
structure Waits (c : CrossingId) (s t : State) : Prop where
  call : t.callOf c = s.callOf c
  crossing : ({ t.crossing c with route := none, waiting := none } : Crossing) =
    { s.crossing c with route := none, waiting := none }
  counters : t.counters.crossings[c] = s.counters.crossings[c]

variable {s} {c : CrossingId}

namespace Waits

theorem refl (c : CrossingId) (s : State) : Waits c s s := ⟨rfl, rfl, rfl⟩

theorem trans (h : Waits c s t) (k : Waits c t w) : Waits c s w :=
  ⟨k.call.trans h.call, k.crossing.trans h.crossing, k.counters.trans h.counters⟩

theorem greenExpired (h : Waits c s t) : (t.crossing c).greenExpired = (s.crossing c).greenExpired :=
  by
    have := h.crossing
    simp only [Crossing.mk.injEq] at this
    simp only [Crossing.greenExpired, this.1, this.2.2.2.1]

theorem barred (h : Waits c s t) (k : s.Barred c) : t.Barred c := by
  unfold State.Barred; rw [h.greenExpired, h.call]; exact k

end Waits

theorem ineligible_of_barred {call : CallRecord} (h : s.Barred c) (k : s.callOf c = some call) :
    (ineligible (s.crossing c) call).isSome = true := by
  unfold ineligible
  rcases h with h | h
  · split
    · rfl
    · rw [h]; rfl
  · rw [if_pos (h call k)]; rfl

theorem await_waits (r : Route) (x : WaitReason) : Waits c s (s.await c r x) :=
  ⟨rfl, by simp [State.await], rfl⟩

/-- An evaluation leaves a barred call waiting, whatever its route (R82). -/
theorem evaluate_waits (h : s.Barred c) : Waits c s (s.evaluate c) := by
  unfold State.evaluate; split
  · rename_i hc _; obtain ⟨x, hx⟩ := Option.isSome_iff_exists.1 (ineligible_of_barred h hc)
    rw [hx]; exact await_waits _ _
  · exact .refl c s

end Sys2Proof.Machine
end

