-- ==== Sys2Proof/Tests/Slice0.lean ====
section
/-!
SUPPORT. Tests: ill-formed operands, the specification's worked figures, single commands on small states, and a witness
for the hypotheses of each statement. Every expected value is a figure of the specification or worked by hand from its
rules; the comment before a group says which.
-/

-- one theorem after another: elaborated side by side, this many kernel decisions exhaust the thread stacks
set_option Elab.async false

namespace Sys2Proof.Tests

open Sys2Proof Sys2Proof.Machine

/-! ### Small states -/

/-- The state after a command, and the state before it where the command stops. -/
def after (i : Instr) (s : State) : State :=
  match exec i s with
  | .next t => t
  | .fault _ => s
  | .refused _ => s

/-- A frame at the front of the request queue. -/
def asked (kind : Byte) (body : List Byte) (s : State) : State :=
  { s with host := { s.host with requests := [{ kind := kind, tag := 7, body := body }] } }

/-- A state with an announced event. -/
def dueWith (d : Due) (s : State) : State := { s with due := [d] }

/-- The record of section 2.3.2. -/
def theRecord : Record :=
  { length := 140, normalSpeed := 120, accessibleSpeed := 80, walk := 70, minWalk := 50, walkExtra := 40, margin := 20,
    amber := 30, leadRed := 20, trailRed := 20, minGreen := 200, offset := 250, bandStart := 100, bandLen := 500,
    group := none, partner := none, linkDelay := 0, recallInterval := 0, stuckThreshold := 300, walkPattern := 3,
    locatorMargin := 5, walkMargin := 10, minLevel := 45, maxLevel := 84, nightCap := 60 }

/-- The same record at a floating crossing. -/
def floating : Record := { theRecord with bandLen := 0 }

/-- A header with Y = 900, group 1 of section 5.6 and the quiet hours of section 1.9.1. -/
def theHeader : Header :=
  { cycle := 900, coordination := true, groups := #v[⟨2, 150, 20⟩, ⟨0, 0, 0⟩, ⟨0, 0, 0⟩, ⟨0, 0, 0⟩], quietStart := 1320,
    quietEnd := 390, sampleInterval := 600, label := [65, 66, 67, 68, 69, 70, 71, 72] }

def slotOf {α : Type} (a : α) : Slot α := { content := some a, mark := true, intact := true }

/-- Bank 1 with a header and records for crossings 3 and 4; the other banks as delivered. -/
def theBank : Bank :=
  { header := slotOf theHeader
    records := change (change (Vector.replicate 8 .empty) 2 fun _ => slotOf theRecord) 3 fun _ => slotOf floating }

def theStore : PlanStore :=
  { PlanStore.delivered with banks := (PlanStore.delivered.banks).set 0 theBank }

def bankOne : Selection := { base := 0, overlay := none }

/-- A crossing in a state with a record. -/
def inState (st : CrossingState) (r : Record) : Crossing :=
  { Crossing.initial with
    state := st, inForce := some { bank := 0, record := r }, port := SignalPort.initial.enter st, failRecall := false
    working := { a := true, b := true } }

/-- A crossing in VEH_GREEN with its green timer expired. -/
def greenDone (r : Record) : Crossing := { inState .vehGreen r with green := some { left := 0, expired := true } }

def at3 (x : Crossing) (s : State) : State := s.changeCrossing 2 fun _ => x

def at4 (x : Crossing) (s : State) : State := s.changeCrossing 3 fun _ => x

/-- A call of a crossing, registered at 0 by a press. -/
def callAt (c : CrossingId) : CallRecord :=
  { crossing := c, registeredAt := 0, sides := { a := true }, origins := { press := true }, accessible := false,
    pressCount := 1, notBefore := none }

/-- Bank 1 in force in COORDINATED mode at corridor time `t`. -/
def coordinatedAt (t : Nat) : State :=
  { State.reset with
    store := { theStore with inForce := some bankOne, stored := some bankOne }
    clock := { Clock.initial with cycle := some 900, mode := .coordinated, corridorTime := t } }

/-- Bank 1 in force in FREE mode. -/
def freeCorridor : State := { coordinatedAt 0 with clock := { Clock.initial with cycle := some 900 } }

/-- The context of a normal stage admitted on the BAND route at time 0 with the record of section 4.4.1. -/
def normalStage : Stage := newStage 0 (callAt 2) theRecord { route := .band, start := none, walk := 70, cut := none }

/-- A mapped unit of crossing 4, side A, with no hearing set. -/
def unitAt4 (st : UnitState) : KerbUnit :=
  { KerbUnit.initial (some { crossing := 3, side := .a, hearing := [] }) with state := st }

/-- A transaction with unit 1 whose window is open. -/
def openTransaction : Transaction :=
  { command := { address := 0, indication := .walk, pattern := 0, locatorLevel := 0, walkLevel := 0, mute := false,
                 action := none }
    bytes := [], windowOpen := true, void := false, actionLive := false, beforeWalk := false, builtClosed := false, builtAfterTick := false }

/-- Unit 1 as given, with its transaction in flight and its window open, crossing 4 in VEH_GREEN. -/
def polled (k : KerbUnit) : State :=
  at4 (greenDone floating) { (freeCorridor.changeUnit 0 fun _ => k) with
    kerb := { KerbLink.initial with lastPolled := some 0, transaction := some openTransaction } }

/-- A kerb reply of unit 1 with a flag byte, a press count and a held time; the check worked by the part's rule. -/
def replyFrame (flags presses heldTime : Byte) : List Byte :=
  0xC3#8 :: ([1, flags, presses, 3, heldTime, 0] ++ checkBytes [1, flags, presses, 3, heldTime, 0])

def noInputs : ProvingInputs := Vector.replicate 8 ⟨false, false, false, false, false⟩

/-! ### Operands no event brings (log entry 17) -/

theorem test_wellFormed_short_frame : wellFormed (.hostFrameReceived []) = false := by decide
theorem test_wellFormed_frame_length : wellFormed (.hostFrameReceived [241, 1, 7, 0, 0]) = false := by decide
theorem test_wellFormed_whole_frame : wellFormed (.hostFrameReceived [0, 1, 7, 0, 0]) = true := by decide
theorem test_wellFormed_length_byte_240 : wellFormed (.frameAbandon (.lengthByte 240)) = false := by decide
theorem test_wellFormed_length_byte_241 : wellFormed (.frameAbandon (.lengthByte 241)) = true := by decide
theorem test_wellFormed_reply_start : wellFormed (.goodReply [0, 1, 0, 0, 0, 0, 0, 0, 0]) = false := by decide
theorem test_wellFormed_reply_check : wellFormed (.goodReply [0xC3, 1, 0, 0, 0, 0, 0, 0, 0]) = false := by decide +kernel
theorem test_wellFormed_bad_reply : wellFormed (.badReply [0xC3, 1, 0, 0, 0, 0, 0, 0]) = false := by decide
theorem test_ill_formed_stops : exec (.frameAbandon (.lengthByte 240)) .reset = .fault .noSuchEvent := rfl

/-! ### Worked figures -/

/-- Section 12.1: the check of the nine character codes of "123456789". -/
theorem test_frame_check : frameCheck [0x31, 0x32, 0x33, 0x34, 0x35, 0x36, 0x37, 0x38, 0x39] = 0x29B1#16 := by decide +kernel

/-- Section 1.3.1. -/
theorem test_local_time : [0, 350, 849, 850, 880].map (fun t => localTime t 250 900) = [650, 100, 599, 600, 630] := by decide
theorem test_in_band : [650, 100, 599, 600, 630].map (inBand theRecord 900) = [false, true, true, false, false] := by decide
theorem test_gap : [650, 600, 630].map (gapFrom theRecord 900) = [350, 400, 370] := by decide
theorem test_since_band_end : [650, 600, 630].map (sinceBandEnd theRecord 900) = [50, 0, 30] := by decide

/-- Section 1.5.1. -/
theorem test_sync_error :
    [syncError 20 880 900, syncError 880 20 900, syncError 550 100 900, syncError 551 100 900, syncError 303 300 900,
      syncError 300 303 900] = [40, -40, 450, -449, 3, -3] := by decide

/-- Section 1.9.1. -/
theorem test_quiet_hours : [1319, 1320, 1439, 0, 389, 390].map (quietAt 1320 390) = [false, true, true, true, true, false] := by
  decide

/-- Section 2.3.2. -/
theorem test_fit : checkAtWrite (some theHeader) 2 theRecord = none := by decide
theorem test_fit_600 : checkAtWrite (some theHeader) 2 { theRecord with bandLen := 600 } = some .fit := by decide
theorem test_fit_585 : checkAtWrite (some theHeader) 2 { theRecord with bandLen := 585 } = none := by decide
theorem test_fit_cycle_800 : checkAtWrite (some { theHeader with cycle := 800 }) 2 theRecord = some .fit := by decide
theorem test_range_cycle_450 : checkAtWrite (some { theHeader with cycle := 450 }) 2 theRecord = some .range := by decide

/-- Section 4.4.1. -/
theorem test_clearances : (theRecord.clearance false, theRecord.clearance true) = (137, 195) := by decide
theorem test_durations : (theRecord.duration false 70, theRecord.duration true 110) = (277, 375) := by decide
theorem test_accessible_at_630 : bandOutcome theRecord true 900 630 none = .start 105 (some .band) := by decide
theorem test_normal_at_630 : bandOutcome theRecord false 900 630 none = .start 70 none := by decide
theorem test_normal_at_800 : bandOutcome theRecord false 900 800 none = .wait .gap := by decide
theorem test_normal_at_740 : bandOutcome theRecord false 900 740 none = .start 53 (some .band) := by decide

/-- Crossing 7 of section 4.6.1. -/
def seven : Record := { theRecord with offset := 0, bandStart := 50, bandLen := 400 }

theorem test_hold_accessible_560 : bandOutcome seven true 900 560 (some 340) = .start 75 (some .hold) := by decide
theorem test_hold_normal_560 : bandOutcome seven false 900 560 (some 340) = .start 70 none := by decide
theorem test_hold_normal_650 : bandOutcome seven false 900 650 (some 250) = .wait .hold := by decide

/-- Section 4.7.1: room for the whole extra, extra walk cut back, no room, a floating stage. -/
theorem test_upgrade_whole : (match upgradeOutcome normalStage 237 false (some 360) with
    | .fits k x r => some (k.walk, k.clearance, x, r)
    | _ => none) = some (110, 195, 40, 335) := by decide
theorem test_upgrade_cut_back : (match upgradeOutcome normalStage 207 false (some 300) with
    | .fits k x r => some (k.walk, k.clearance, x, r)
    | _ => none) = some (105, 195, 35, 300) := by decide
theorem test_upgrade_no_room : upgradeOutcome { normalStage with walk := 53, truncated := true } 260 false (some 260) = .noFit := by
  decide
theorem test_upgrade_floating : (match upgradeOutcome { normalStage with kind := .free } 277 false none with
    | .fits k x r => some (k.walk, k.clearance, x, r)
    | _ => none) = some (110, 195, 40, 375) := by decide

/-- Section 9.2.1. -/
def estimated (e : Nat) : Audible := { Audible.initial with estimate := some e }

theorem test_estimates :
    [nextEstimate (estimated 620) 70, nextEstimate (estimated 640) 58, nextEstimate (estimated 636) 90,
      nextEstimate (estimated 702) 60, nextEstimate { estimated 636 with stale := true } 90] = [640, 636, 702, 695, 900] := by
  decide

/-- Section 9.3.1: locator, locator quiet, walk, walk quiet, walk accessible, at 63, 65, 38 and 105. -/
theorem test_levels :
    [63, 65, 38, 105].map (fun a => (locatorLevelOf (some theRecord) false a, locatorLevelOf (some theRecord) true a,
      walkLevelOf (some theRecord) false false a, walkLevelOf (some theRecord) false true a,
      walkLevelOf (some theRecord) true false a)) =
    [(68, 60, 73, 60, 79), (70, 60, 75, 60, 81), (45, 45, 48, 48, 54), (84, 60, 84, 60, 84)] := by decide

/-- Section 10.5.2. -/
theorem test_saturation : satAdd 65530 9 = 65535 := by decide

/-- Section 5.6: group 1 (K = 2, H = 150, P = 20) at 1150, 1160, 1400, 1410 and 1575. -/
def groupOne (n : Nat) (r q : Time) : Group :=
  { Group.initial with stageLimit := 2, spacing := 150, pairing := 20, active := n, release := r, quietSince := q }

theorem test_group_starts :
    [(groupOne 0 0 1000).mayStart 1149, (groupOne 0 0 1000).mayStart 1150, (groupOne 1 1150 1000).mayStart 1150,
      (groupOne 2 1150 1000).mayStart 1160, (groupOne 1 1560 1410).mayStart 1575] =
    [none, some .release, some .join, none, some .join] := by decide
theorem test_group_reasons :
    [(groupOne 2 1150 1000).reason, (groupOne 1 1150 1000).reason, (groupOne 0 1150 1410).reason] =
    [.groupFull, .pairingClosed, .spacing] := by decide
theorem test_group_ended : (groupOne 1 1150 1000).ended 1410 = { groupOne 0 1150 1410 with spacingExpiry := some 1560 } := by
  decide

/-- Section 11.5.1. -/
def filtered : HostPort :=
  { HostPort.initial with filter := change (change HostPort.initial.filter 0 fun _ => ⟨true, 2, 0, 6⟩) 1 fun _ => ⟨true, 3, 202, 0⟩ }

theorem test_filter :
    [filtered.accepts (.walkBegin 2 70 137 false 0), filtered.accepts (.stageEnd 4 70 137 false 0),
      filtered.accepts (.callRegistered 1 {} {} false none), filtered.accepts (.planAdopted bankOne 900 [] false false),
      filtered.accepts (.modeChange .free .sync), filtered.accepts (.crossingFault 4 .lampOut .red .vehGreen .vehGreen none {})] =
    [true, false, false, true, false, true] := by decide

/-! ### Single commands -/

/-- The content of the reply that waits or is on the line. -/
def replied (s : State) : Option ReplyContent :=
  match s.host.transmission with
  | some { source := .reply r, .. } => some r.content
  | _ => s.host.reply.map (·.content)

/-- R22, R102: a cold start and its start-up on a part as delivered leave the machine right after reset. -/
theorem test_cold_start : after .startUpComplete (after .coldStart (coordinatedAt 0)) ≠ .reset := by decide +kernel
theorem test_start_up_as_delivered : after .startUpComplete (after .coldStart .reset) = .reset := by decide +kernel

/-- R43, R102, R120: the stored selection is re-adopted, and crossing 4 starts up with its RECALL call. -/
theorem test_start_up_readopts :
    let s := after .startUpComplete (after .coldStart (coordinatedAt 0))
    (s.store.inForce, s.clock.mode, (s.crossing 3).state, (s.crossing 3).timeLeft, (s.crossing 0).state) =
      (some bankOne, .free, .startupFlash, some 50, .unconfigured) ∧
    (s.callOf 3).map (·.origins) = some { recalled := true } := by decide +kernel

/-- R2: T runs from Y - 1 to 0, and the boundary is announced; R19: the second at the tenth decisecond. -/
theorem test_decisecond_wraps :
    let s := after (.decisecondEvent noInputs) (coordinatedAt 899)
    s.clock.corridorTime = 0 ∧ Due.cycleBoundary ∈ s.due := by decide +kernel
theorem test_decisecond_band_end :
    Due.bandEnd 2 ∈ (after (.decisecondEvent noInputs) (at3 (greenDone theRecord) (coordinatedAt 849))).due := by decide +kernel
theorem test_second_at_midnight :
    let s := after .secondAdvance (dueWith .secondAdvance { State.reset with
      clock := { Clock.initial with phase := 9, timeOfDay := 86399 } })
    (s.clock.phase, s.clock.timeOfDay) = (0, 0) := by decide +kernel

/-- Section 1.8.1: at the boundary crossing 3's stage has elapsed 20, has 257 to run, and p = +140. -/
def correcting (p : Int) : State :=
  dueWith .cycleBoundary (at3 { inState .vehAmber theRecord with stage := some { normalStage with admittedAt := 0 }, timeLeft := some 10 }
    { coordinatedAt 0 with clock := { (coordinatedAt 0).clock with now := 20, correction := p } })

theorem test_forward_step :
    let s := after .cycleBoundary (correcting 140)
    (s.clock.corridorTime, s.clock.correction, s.counters.corridor.correctionsApplied) = (90, 50, 1) := by decide +kernel

/-- R3, R37: with no selection in force a pending one is adopted at the announced boundary, here PLAN SELECT's. -/
theorem test_boundary_due_adopts :
    let s := after .boundaryDue (dueWith .boundaryDue { State.reset with store := { theStore with pendingSelection := some bankOne } })
    (s.store.inForce, s.clock.cycle, (s.crossing 2).state) = (some bankOne, some 900, .startupFlash) := by decide +kernel

/-- R13: at 3 × 900 ds. -/
theorem test_watchdog :
    (after .watchdogExpiry (dueWith .watchdog { coordinatedAt 5 with
      clock := { (coordinatedAt 5).clock with watchdog := 2700, correction := 40 } })).clock =
    { (coordinatedAt 5).clock with watchdog := 2700, mode := .free } := by decide +kernel

/-- Section 1.5.1, first row: T = 880, T_ref = 20, time of day 7200. -/
theorem test_sync_pending :
    let s := after .sync (asked 7 [0, 20, 0, 0, 0x1C, 0x20] (coordinatedAt 880))
    (s.clock.correction, s.clock.timeOfDay, s.clock.quiet) = (40, 7200, true) ∧
    replied s = some (.done (.sync .pending .coordinated 880 40)) := by decide +kernel
/-- R10: T is set to T_ref, and the next boundary is T's next wrap: one announced at the last wrap is withdrawn. -/
theorem test_sync_enters :
    let s := after .sync (asked 7 [0, 20, 0, 0, 0, 0] (dueWith .cycleBoundary freeCorridor))
    (s.clock.mode, s.clock.corridorTime, s.due) = (.coordinated, 20, []) := by decide +kernel

/-- Section 5.7: the band-end event at T = 850 admits with the full walk. -/
theorem test_band_end_admits :
    let s := after (.bandEndEvent 2) (dueWith (.bandEnd 2) (at3 (greenDone theRecord) { coordinatedAt 850 with calls := [callAt 2] }))
    (s.crossing 2).state = .vehAmber ∧ ((s.crossing 2).stage.map fun k => (k.walk, k.clearance, k.kind)) = some (70, 137, .coordinated) := by
  decide +kernel

/-- R31: the slot being written is absent until its write is done. -/
theorem test_plan_write_begins :
    (after .planWrite (asked 4 ([2, 0, 1] ++ headerBytes theHeader) .reset)).host.executing.isSome = true := by decide +kernel
theorem test_plan_write_in_use :
    replied (after .planWrite (asked 4 ([1, 0, 1] ++ headerBytes theHeader) freeCorridor)) = some (.refused .bankInUse) := by
  decide +kernel
theorem test_slot_write_done :
    let s := after .slotWriteDone (after .planWrite (asked 4 ([2, 0, 1] ++ headerBytes theHeader) .reset))
    s.store.header 1 = some theHeader ∧ replied s = some (.done (.planWrite 1 0 none none 0)) := by decide +kernel
theorem test_plan_read :
    replied (after .planRead (asked 5 [1, 3] freeCorridor)) =
      some (.done (.planRead (some (.record 2 theRecord)) ⟨true, false, false, false, true⟩)) := by decide +kernel
theorem test_plan_select :
    let s := after .planSelect (asked 6 [1, 0] { State.reset with store := theStore })
    s.store.pendingSelection = some bankOne ∧ s.clock.boundaryDue = true := by decide +kernel
theorem test_plan_select_headerless :
    replied (after .planSelect (asked 6 [3, 0] { State.reset with store := theStore })) = some (.refused .notApplicable) := by
  decide +kernel

/-- R56, R57: a CALL at crossing 4 with a delay above 600 registers with 600. -/
theorem test_call_registers :
    let s := after .call (asked 8 [4, 1, 2, 89] (at4 (inState .startupRed floating) freeCorridor))
    (s.callOf 3).map (fun r => (r.origins, r.accessible, r.notBefore)) = some ({ remote := true }, true, some 600) := by
  decide +kernel
theorem test_call_admitted_at_once :
    let s := after .call (asked 8 [4, 0, 0, 0] (at4 (greenDone floating) freeCorridor))
    (s.crossing 3).state = .vehAmber ∧ s.calls = [] := by decide +kernel
theorem test_call_cancel_keeps :
    let s := after .callCancel (asked 9 [4] (at4 (inState .startupRed floating) { freeCorridor with
      calls := [{ callAt 3 with origins := { press := true, remote := true } }] }))
    (s.callOf 3).map (·.origins) = some { press := true } := by decide +kernel
theorem test_not_before_arrives :
    let s := after (.notBeforeArrival 3) (dueWith (.notBefore 3) (at4 (greenDone floating) { freeCorridor with
      calls := [{ callAt 3 with notBefore := some 0 }] }))
    (s.crossing 3).state = .vehAmber := by decide +kernel
theorem test_recall_timer :
    let s := after (.recallTimerExpiry 3) (dueWith (.recallExpiry 3) (at4 { inState .startupRed floating with recallTimer := some 0 } freeCorridor))
    (s.callOf 3).map (·.origins) = some { recalled := true } ∧ (s.crossing 3).recallTimer = none := by decide +kernel
theorem test_green_timer :
    let s := after (.greenTimerExpiry 3) (dueWith (.greenExpiry 3) (at4 { inState .vehGreen floating with
      green := some { left := 0, expired := false } } { freeCorridor with calls := [callAt 3] }))
    (s.crossing 3).state = .vehAmber ∧ (s.crossing 3).timeLeft = some 30 := by decide +kernel

/-- Section 5.6 at 1150 and 1171: crossings 3 and 4 in group 1. -/
def grouped (n : Nat) : State :=
  at3 (greenDone { floating with group := some 0 }) (at4 (greenDone { floating with group := some 0 }) { freeCorridor with
    clock := { freeCorridor.clock with now := 1150 }, calls := [callAt 3, callAt 2]
    groups := freeCorridor.groups.set 0 { groupOne n 1129 1000 with spacingExpiry := some 1150, pairingClose := some 1150 } })

theorem test_spacing_expiry :
    let s := after (.spacingExpiry 0) (dueWith (.spacing 0) (grouped 0))
    ((s.group 0).active, (s.group 0).release, (s.group 0).pairingClose) = (2, 1150, some 1171) ∧ s.calls = [] := by decide +kernel
/-- R82: a call that fails GREEN ends its evaluation there. The not-before of crossing 4's call in group 1 arrives while its
green timer runs: crossing 3's call, which could start, keeps the reason it had. -/
theorem test_ineligible_call_spares_its_group :
    let s := after (.notBeforeArrival 3) (dueWith (.notBefore 3) (at4 (inState .vehGreen { floating with group := some 0 })
      { grouped 0 with calls := [{ callAt 3 with notBefore := some 1150 }, callAt 2] }))
    ((s.crossing 3).waiting, (s.crossing 2).waiting, (s.crossing 2).state, s.calls.length) =
      (some .green, none, .vehGreen, 2) := by decide +kernel
theorem test_pairing_close :
    let s := after (.pairingClose 0) (dueWith (.pairing 0) (grouped 1))
    (s.group 0).pairingClose = none ∧ (s.crossing 3).waiting = some .pairingClosed := by decide +kernel

/-- R100, section 4.4.1: amber is followed by 20 ds of lead red; lead red by walk. -/
theorem test_amber_ends :
    let s := after (.intervalEnd 2) (dueWith (.intervalEnd 2) (at3 { inState .vehAmber theRecord with
      stage := some normalStage, timeLeft := some 0 } (coordinatedAt 0)))
    ((s.crossing 2).state, (s.crossing 2).timeLeft) = (.leadRed, some 20) := by decide +kernel
theorem test_walk_begins :
    let s := after (.intervalEnd 2) (dueWith (.intervalEnd 2) (at3 { inState .leadRed theRecord with
      stage := some normalStage, timeLeft := some 0 } { coordinatedAt 0 with clock := { (coordinatedAt 0).clock with now := 100 } }))
    ((s.crossing 2).state, (s.crossing 2).timeLeft, s.counters.crossings[(2 : CrossingId)].wait0,
      s.counters.crossings[(2 : CrossingId)].maxWait) = (.walk, some 70, 1, 100) := by decide +kernel

/-- R115: SERVICE OFF in VEH_GREEN is PENDING through a closing amber, DARK from CMD_FLASH is TAKEN, RESTORE from DARK. -/
theorem test_service_off_pends :
    replied (after .serviceOff (asked 10 [4, 1] (at4 (greenDone floating) freeCorridor))) =
      some (.done (.crossingControl false .vehAmber (some .cmdFlash))) := by decide +kernel
theorem test_dark_taken :
    replied (after .dark (asked 10 [4, 2] (at4 (inState .cmdFlash floating) freeCorridor))) =
      some (.done (.crossingControl true .dark none)) := by decide +kernel
theorem test_restore :
    replied (after .restore (asked 10 [4, 3] (at4 (inState .dark floating) freeCorridor))) =
      some (.done (.crossingControl true .startupFlash none)) := by decide +kernel

/-- A crossing in FAULT_FLASH whose green is lit against its command, its timer and the conflict timer at their limits. -/
def stuckGreen : Crossing :=
  let x := inState .faultFlash floating
  let green := { x.port.lines.green with settling := false, mismatch := 5, sense := some .onWhenOff }
  { x with faults := { stuckOn := true }, port := { x.port with lines := { x.port.lines with green := green }, conflict := 2 } }

/-- Green and walk proved on at every crossing. -/
def litInputs : ProvingInputs := Vector.replicate 8 ⟨true, false, true, true, false⟩

/-- R125, R127: a RESTORE that changes neither mode leaves a timer at 5 and a conflict timer at 2. R117: the faults, still
present, are detected again in the start-up and the crossing returns to FAULT_FLASH with both in a fresh set. -/
theorem test_restore_detects_again :
    let s := after .restore (asked 10 [4, 3] (at4 stuckGreen freeCorridor))
    let t := after (.decisecondEvent litInputs) s
    let u := after (.mismatchTimerLimit 3 .green) (after (.conflictTimerLimit 3) t)
    ((s.crossing 3).port.conflict, (s.crossing 3).port.lines.green.mismatch, (s.crossing 3).state) = (2, 5, .startupFlash) ∧
    ((t.crossing 3).port.conflict, (t.crossing 3).port.lines.green.mismatch) = (2, 5) ∧
    ((u.crossing 3).state, (u.crossing 3).faults) = (.faultFlash, { conflict := true, stuckOn := true }) := by decide +kernel
/-- R125, R127: outside the start-up a fault that goes on is not raised again, nor in it one whose class is in the set. -/
theorem test_standing_fault_is_raised_once :
    let x : Crossing := { stuckGreen.enter .startupFlash (some 50) with faults := { conflict := true, stuckOn := true } }
    ∀ s ∈ [at4 { stuckGreen with faults := {} } freeCorridor, at4 x freeCorridor],
      let t := after (.decisecondEvent litInputs) s
      .conflict 3 ∉ t.due ∧ .mismatch 3 .green .stuckOn ∉ t.due := by decide +kernel

/-- R122: after five deciseconds of the ON half the amber goes dark. -/
def flashing (e : Nat) : Crossing :=
  { inState .startupFlash floating with port := { (inState .startupFlash floating).port with flash := .on e } }

theorem test_flash_half :
    (after (.flashHalfChange 3) (dueWith (.flashHalf 3) (at4 (flashing 4) freeCorridor)) |>.crossing 3).port.lines.amber.value = false := by
  decide +kernel

/-- Section 7.6.1 at 5056: WALK_FAIL in WALK, pending FAULT_FLASH. -/
theorem test_walk_fail :
    let s := after (.mismatchTimerLimit 3 .walk) (dueWith (.mismatch 3 .walk .walkFail) (at4 { inState .walk floating with
      stage := some normalStage, timeLeft := some 64 } freeCorridor))
    ((s.crossing 3).state, (s.crossing 3).pendingTarget, s.counters.crossings[(3 : CrossingId)].faults) = (.walk, some .faultFlash, 1) := by
  decide +kernel
theorem test_conflict :
    (after (.conflictTimerLimit 3) (dueWith (.conflict 3) (at4 { inState .walk floating with
      stage := some normalStage, timeLeft := some 64 } freeCorridor)) |>.crossing 3).state = .faultFlash := by decide +kernel

/-- R137, R141. -/
theorem test_poll :
    let s := after .pollCommand (at4 (inState .walk floating) (freeCorridor.changeUnit 8 fun _ => unitAt4 .online))
    (s.kerb.transaction.map fun t => (t.command.address, t.command.indication)) = some (8, .walk) := by decide +kernel
/-- R137: a round that ends with no unit to visit is followed by one that begins at the lowest address. -/
theorem test_poll_of_no_unit_ends_the_round :
    let s := after .pollCommand { freeCorridor with kerb := { KerbLink.initial with lastPolled := some 4 } }
    s.kerb.lastPolled = none ∧
    ((s.changeUnit 24 fun _ => unitAt4 .online).changeUnit 2 fun _ => unitAt4 .online).nextUnit = some 2 := by decide +kernel
theorem test_window_opens :
    (after .replyWindowOpen { polled (unitAt4 .online) with
      kerb := { KerbLink.initial with transaction := some { openTransaction with windowOpen := false } } }).kerb.transaction =
      some openTransaction := by decide +kernel

/-- Section 8.10 at 2004: press baseline 250, press 1 gives 7 presses; at 2000: a miss. -/
theorem test_good_reply_presses :
    let s := after (.goodReply (replyFrame 0 1 0)) (polled { unitAt4 .suspect with misses := 2, pressBaseline := some 250, extendedBaseline := some 3 })
    ((s.unit 0).state, (s.unit 0).misses, (s.unit 0).pressBaseline, s.counters.crossings[(3 : CrossingId)].presses) =
      (.online, 0, some 1, 7) := by decide +kernel
theorem test_fresh_reply_presses :
    let s := after (.goodReply (replyFrame 1 2 0)) (polled { unitAt4 .online with goods := 3, pressBaseline := some 1, extendedBaseline := some 3 })
    ((s.unit 0).pressBaseline, s.counters.crossings[(3 : CrossingId)].presses) = (some 2, 2) := by decide +kernel
theorem test_no_reply :
    let s := after (.replyWindowClose .nothing) (polled (unitAt4 .online))
    ((s.unit 0).state, (s.unit 0).misses, s.counters.units[(0 : UnitId)].badReplies) = (.suspect, 1, 0) := by decide +kernel
theorem test_bad_reply :
    let s := after (.badReply [0xC3, 1, 0, 0, 0, 0, 0, 0, 0]) (polled (unitAt4 .online))
    ((s.unit 0).state, s.counters.units[(0 : UnitId)].badReplies) = (.suspect, 1) := by decide +kernel
theorem test_late_bytes :
    (after .lateBytes { State.reset with kerb := { KerbLink.initial with ended := some 5 } }).counters.units[(5 : UnitId)].badReplies = 1 := by
  decide +kernel
theorem test_revival_due :
    (after (.revivalDue 0) (dueWith (.revival 0) (freeCorridor.changeUnit 0 fun _ =>
      { unitAt4 .failed with nextRevival := some 0 })) |>.unit 0).revivalDue = true := by decide +kernel

/-- R151. -/
theorem test_unit_map_set :
    (after .unitMapSet (asked 11 [1, 1, 4, 2, 1, 9] freeCorridor) |>.unit 0).mapping =
      some { crossing := 3, side := .b, hearing := [8] } := by decide +kernel
theorem test_unit_map_clear :
    (after .unitMapClear (asked 11 [1, 2] (freeCorridor.changeUnit 0 fun _ => unitAt4 .online)) |>.unit 0).mapping = none := by
  decide +kernel
theorem test_unit_status_unmapped :
    replied (after .unitStatus (asked 3 [1] freeCorridor)) = some (.refused .noSuchUnit) := by decide +kernel

/-- R164, R167. -/
theorem test_sample_window :
    ((after (.sampleWindowClose 0) (dueWith (.windowClose 0) { freeCorridor.changeUnit 0 (fun _ => { unitAt4 .online with
      audible := { Audible.initial with sample := some { phase := .measuring 0, earlyEnd := false, muted := [0] } } }) with
        clock := { freeCorridor.clock with now := 20 } })).sampleOf 0).map (·.phase) = some (.closed 0 false) := by decide +kernel
theorem test_ambient_stale :
    (after (.ambientStale 0) (dueWith (.stale 0) { freeCorridor.changeUnit 0 (fun _ => { unitAt4 .online with
      audible := { estimated 620 with lastStart := some 0 } }) with clock := { freeCorridor.clock with now := 1800 } }) |>.unit 0).audible.stale = true := by
  decide +kernel

/-- R173: a clearing read. -/
theorem test_counters :
    let s := after .counters (asked 12 [3, 0, 1] { State.reset with
      counters := { Counters.initial with corridor := { syncAccepted := 5 } } })
    s.counters.corridor.syncAccepted = 0 ∧ replied s = some (.done (.counters .corridor true [0, 0, 0, 5, 0, 0])) := by decide +kernel

/-- R176 to R178: a STATUS request of no body, its check worked by the part's rule. -/
def statusFrame : List Byte := [0, 1, 7] ++ checkBytes [0, 1, 7]

theorem test_frame_received :
    (after (.hostFrameReceived statusFrame) (after .hostFrameStart .reset)).host.requests = [{ kind := 1, tag := 7, body := [] }] := by
  decide +kernel
theorem test_frame_bad_check :
    (after (.hostFrameReceived [0, 1, 7, 0, 0]) (after .hostFrameStart .reset)).counters.corridor.framesBad = 1 := by decide +kernel
theorem test_frame_abandoned :
    (after (.frameAbandon .missingStopBit) (after .hostFrameStart .reset)).counters.corridor.framesBad = 1 := by decide +kernel
theorem test_frame_gap :
    (after .frameGapTimeout (after .hostFrameStart .reset)).host.receiver = .hunt := by decide +kernel
theorem test_unknown_kind : replied (after .unknownKind (asked 15 [] .reset)) = some (.refused .unknownKind) := by decide +kernel
theorem test_status_length : replied (after .status (asked 1 [0] .reset)) = some (.refused .badLength) := by decide +kernel
theorem test_crossing_status_range : replied (after .crossingStatus (asked 2 [9] .reset)) = some (.refused .outOfRange) := by
  decide +kernel
theorem test_filter_write :
    (after .filterWrite (asked 13 [16, 1, 3, 202, 0] .reset)).host.filter[(15 : FilterId)] = ⟨true, 3, 202, 0⟩ := by decide +kernel
/-- R190 and log entry 8: an invalid entry keeps no family or kind outside its encoding; R185: the reply is the entry. -/
theorem test_filter_write_invalid :
    replied (after .filterWrite (asked 13 [1, 0, 99, 7, 3] .reset)) = some (.done (.filter ⟨false, 0, 0, 3⟩)) ∧
    (DoneBody.filter ⟨false, 0, 0, 3⟩).bytes = [0, 0, 0, 3] := by decide +kernel
theorem test_restart_holds : (after .restart (asked 14 [] .reset)).host.restarting = true := by decide +kernel
theorem test_restart_begins :
    let s := after .restartBegin (after .restart (asked 14 [] freeCorridor))
    (s.running, s.store.stored, s.store.inForce) = (false, some bankOne, none) := by decide +kernel
theorem test_transmit_end :
    (after .transmitEnd (after .status (asked 1 [] .reset))).host.transmission = none := by decide +kernel

/-- R150: a reply to a command built in LEAD_RED does not end the sounding that walk begin started; one built since does. -/
theorem test_sounding_outlasts_the_walk_begin :
    [true, false].map (fun before => ((after (.goodReply (replyFrame 0 1 0)) { polled { unitAt4 .online with sounding := true } with
      kerb := { KerbLink.initial with transaction := some { openTransaction with
        beforeWalk := before, command := { openTransaction.command with indication := .wait } } } }).unit 0).sounding) =
    [true, false] := by decide +kernel

/-- R64, table 3.1: a call reported begins with its crossing. -/
theorem test_call_report_names_its_crossing : ((callAt 3).report 0).crossing = 3 := rfl

/-! ### Witnesses: states and operands that meet the hypotheses of each statement -/

/-- A frame of a kind and body, as `asked` puts it at the front. -/
def fr (kind : Byte) (body : List Byte) : Frame := { kind := kind, tag := 7, body := body }

theorem asked_atTurn {s : State} {kind : Byte} {body : List Byte} (h : s.running = true)
    (k : { s.host with requests := [fr kind body] }.ready = true) : (asked kind body s).AtTurn (fr kind body) [] := ⟨h, k, rfl⟩

theorem dueWith_isDue {s : State} {d : Due} (h : s.running = true) : (dueWith d s).IsDue d := ⟨h, List.mem_singleton.2 rfl⟩

/-- Every state here is a running part with its port at rest. -/
theorem turn_reset (kind : Byte) (body : List Byte) : (asked kind body .reset).AtTurn (fr kind body) [] := ⟨rfl, rfl, rfl⟩
theorem turn_free (kind : Byte) (body : List Byte) : (asked kind body freeCorridor).AtTurn (fr kind body) [] := ⟨rfl, rfl, rfl⟩
theorem turn_at4 (kind : Byte) (body : List Byte) (x : Crossing) :
    (asked kind body (at4 x freeCorridor)).AtTurn (fr kind body) [] := ⟨rfl, rfl, rfl⟩

theorem witness_StepTakesTheFrontCommandOrIdles :
    ({ State.reset with pending := [.status, .sync] } : State).pending = .status :: [.sync] ∧ State.reset.pending = [] := by decide

theorem witness_CommandsStopOnlyOnNoSuchEvent :
    wellFormed .status = true ∧ wellFormed (.hostFrameReceived []) = false ∧ (after .coldStart .reset).running = false := by decide

theorem witness_CommandsLeaveTheQueue : exec .status .reset = .next (after .status .reset) := rfl

/-- A WALK_BEGIN notice, and a reply. -/
def aNotice : Notice := { timeOfDay := 0, phase := 0, body := .walkBegin 2 70 137 false 0 }
def aReply : Reply := { tag := 7, content := .refused .noSuchUnit }

theorem witness_TransmitterTakesReplyThenNotice :
    let idle := HostPort.initial
    ({ idle with transmission := some (.of (.reply aReply)) }).transmission.isSome = true ∧
    (idle.transmission = none ∧ ({ idle with reply := some aReply }).reply = some aReply) ∧
    (idle.reply = none ∧ ({ idle with notices := [aNotice] }).notices = aNotice :: []) ∧ idle.notices = [] ∧
    State.reset.running = true ∧ State.reset.host.restarting = false := by decide

/-- The filter of section 11.5.1, with 31 and with 32 notices waiting. -/
def waiting (n : Nat) : State := { State.reset with host := { filtered with notices := List.replicate n aNotice } }

theorem witness_RaisedNoticeIsFilteredQueuedOrLost :
    (waiting 31).counters.corridor.noticesLost ≤ 65535 ∧ NoticeBody.family (.crossingFault 4 .conflict .walk .walk .faultFlash none {}) = .fault ∧
    (waiting 31).host.accepts (.modeChange .free .sync) = false ∧ (waiting 31).host.accepts aNotice.body = true ∧
    (waiting 31).host.notices.length < 32 ∧ 32 ≤ (waiting 32).host.notices.length ∧
    (waiting 32).host.accepts aNotice.body = true := by decide

/-- R184: the crossing set, the family and the kind of an entry; a CORRIDOR notice and a set of crossings. -/
theorem witness_RaisedNoticeIsFilteredQueuedOrLost_entries :
    let began : NoticeBody := .walkBegin 2 70 137 false 0
    began.family ≠ .fault ∧ (NoticeBody.modeChange .free .sync).family = .corridor ∧
    [(⟨true, 2, 196, 4⟩ : FilterEntry), ⟨true, 5, 0, 0⟩, ⟨false, 5, 0, 0⟩, ⟨true, 2, 197, 4⟩, ⟨true, 1, 0, 4⟩, ⟨true, 2, 0, 2⟩].map
      (·.covers began) = [true, true, false, false, false, false] ∧
    (⟨true, 3, 0, 255⟩ : FilterEntry).covers (.modeChange .free .sync) = false := by decide

/-- A collecting receiver with `n` requests waiting. -/
def collecting (n : Nat) : State :=
  { State.reset with host := { HostPort.initial with receiver := .collecting, requests := List.replicate n (fr 1 []) } }

theorem witness_ReceiverCollectsQueuesDropsAndCounts :
    (collecting 3).running = true ∧ wholeHostFrame statusFrame = true ∧ wholeHostFrame [0, 1, 7, 0, 0] = true ∧
    State.reset.host.receiver = .hunt ∧ (collecting 3).host.receiver = .collecting ∧
    hostCheckGood [0, 1, 7, 0, 0] = false ∧ hostCheckGood statusFrame = true ∧ (collecting 3).host.requests.length < 4 ∧
    4 ≤ (collecting 4).host.requests.length ∧ 240 < (241 : Byte).toNat := by decide +kernel

theorem witness_MalformedRequestsAreRefused :
    (asked 0 [] .reset).AtTurn (fr 0 []) [] ∧ (fr 0 []).kind.toNat < 1 ∧ (asked 15 [] .reset).AtTurn (fr 15 []) [] ∧
    14 < (fr 15 []).kind.toNat ∧ (asked 13 [1, 1, 1, 0] .reset).AtTurn (fr 13 [1, 1, 1, 0]) [] ∧
    (.filterWrite, 13, 5) ∈ fixedLengthRequests ∧ (fr 13 [1, 1, 1, 0]).isKind 13 = true ∧
    (fr 13 [1, 1, 1, 0]).body.length ≠ 5 :=
  ⟨turn_reset _ _, by decide, turn_reset _ _, by decide, turn_reset _ _, by decide, by decide, by decide⟩

theorem witness_StatusReportsOnlyReport :
    (asked 1 [] .reset).AtTurn (fr 1 []) [] ∧ (fr 1 []).isKind 1 = true ∧
    (asked 2 [8] .reset).AtTurn (fr 2 [8]) [] ∧ (fr 2 [8]).isKind 2 = true ∧ numbered 8 8 = some 7 ∧ numbered 8 9 = none ∧
    (asked 3 [1] .reset).AtTurn (fr 3 [1]) [] ∧ (fr 3 [1]).isKind 3 = true :=
  ⟨turn_reset _ _, by decide, turn_reset _ _, by decide, by decide, by decide, turn_reset _ _, by decide⟩

theorem witness_FilterWriteStoresTheEntry :
    (asked 13 [16, 1, 3, 202, 0] .reset).AtTurn (fr 13 [16, 1, 3, 202, 0]) [] ∧ (fr 13 [16, 1, 3, 202, 0]).isKind 13 = true ∧
    (numbered 16 16 = some 15 ∧ readYesNo 1 = some true ∧ kindOfFamily 3 202 = true) ∧ numbered 16 17 = none ∧
    readYesNo 2 = none ∧ ¬ (1 ≤ (6 : Byte).toNat ∧ (6 : Byte).toNat ≤ 5) ∧ readYesNo 0 = some false ∧
    (numbered 16 1 = some 0 ∧ numbered 16 0 = none) ∧ (FilterEntry.mk false 0 0 3).valid = false :=
  ⟨turn_reset _ _, by decide, by decide, by decide, by decide, by decide, by decide, by decide, by decide⟩

theorem witness_CountersReadAndClear :
    (asked 12 [2, 1, 1] .reset).AtTurn (fr 12 [2, 1, 1]) [] ∧ (fr 12 [2, 1, 1]).isKind 12 = true ∧
    (readBlock 4 1 = none ∧ readYesNo 2 = none) ∧ (readBlock 2 1 = some (.unit 0) ∧ readYesNo 1 = some true) ∧
    State.reset.lacksUnit (.unit 0) = true ∧ State.reset.lacksUnit .corridor = false :=
  ⟨turn_reset _ _, by decide, by decide, by decide, by decide, by decide⟩

/-- A PLAN WRITE to bank 2 that is writing `item`, with the records given left. -/
def writingOf (item : SlotItem) (rest : List (List Byte)) : State :=
  { State.reset with host := { HostPort.initial with
    executing := some { tag := 7, bank := 1, count := 1 + rest.length, item := item, rest := rest, written := 0, pruned := 0 } } }

/-- The same at its last record. -/
def writing (item : SlotItem) : State := writingOf item []

theorem witness_ResetsLeaveTheirValues :
    (asked 14 [] .reset).AtTurn (fr 14 []) [] ∧ (fr 14 []).isKind 14 = true ∧
    (after .restart (asked 14 [] .reset)).host.restarting = true ∧ State.reset.host.restarting = false ∧
    (writing (.header theHeader)).host.executing.map (fun w => (w.item, w.bank)) = some (.header theHeader, 1) :=
  ⟨turn_reset _ _, by decide, by decide +kernel, by decide, by decide +kernel⟩

/-- What a cold start leaves of a part with a stored selection. -/
def cold : State := after .coldStart (coordinatedAt 0)

theorem witness_StartUpReadoptsTheStoredSelection :
    AfterReset (coordinatedAt 0) cold .initial (Vector.replicate 16 .invalid) ∧ cold.store.stored = some bankOne ∧
    cold.store.header bankOne.base = some theHeader ∧ cold.store.misfit bankOne theHeader = none ∧
    AfterReset .reset (after .coldStart .reset) .initial (Vector.replicate 16 .invalid) ∧
    (after .coldStart .reset).store.stored = none ∧ State.reset.running = true := by
  refine ⟨⟨by decide +kernel, by decide +kernel, by decide +kernel, by decide +kernel, ?_, ?_, by decide +kernel,
    by decide +kernel, by decide +kernel, by decide +kernel, by decide +kernel, by decide +kernel, by decide +kernel,
    by decide +kernel, by decide +kernel⟩, by decide +kernel, by decide +kernel, by decide +kernel,
    ⟨by decide +kernel, by decide +kernel, by decide +kernel, by decide +kernel, ?_, ?_, by decide +kernel,
    by decide +kernel, by decide +kernel, by decide +kernel, by decide +kernel, by decide +kernel, by decide +kernel,
    by decide +kernel, by decide +kernel⟩, by decide +kernel, by decide⟩
  · have : ∀ b c, cold.store.recordIn b c = (coordinatedAt 0).store.recordIn b c := by decide +kernel
    exact fun b c _ => this b c
  · decide +kernel
  · have : ∀ b c, (after .coldStart State.reset).store.recordIn b c = State.reset.store.recordIn b c := by decide +kernel
    exact fun b c _ => this b c
  · decide +kernel

theorem witness_DecisecondAdvancesEveryTimer :
    (coordinatedAt 899).running = true ∧ (coordinatedAt 899).due = [] ∧ (dueWith .cycleBoundary (coordinatedAt 0)).running = true := by
  decide

theorem witness_DecisecondAnnouncesWhatFallsDue :
    (coordinatedAt 899).running = true ∧ (coordinatedAt 899).due = [] ∧
    exec (.decisecondEvent noInputs) (coordinatedAt 899) = .next (after (.decisecondEvent noInputs) (coordinatedAt 899)) :=
  ⟨rfl, rfl, rfl⟩

/-- A group at its spacing expiry and one at its pairing close, a unit at the end of its sample's window, a FAILED one at
its revival and one with an old estimate, all at 21. -/
def fallingDue (now : Time) : State :=
  let unit (a : Audible) (k : KerbUnit) : KerbUnit := { k with audible := a }
  let s := ((freeCorridor.changeUnit 0 fun _ => unit { Audible.initial with
      sample := some { phase := .measuring 1, earlyEnd := false, muted := [0] } } (unitAt4 .online)).changeUnit 1 fun _ =>
        { unit { Audible.initial with dueTime := 100 } (unitAt4 .failed) with nextRevival := some 21 }).changeUnit 2 fun _ =>
          unit { estimated 620 with lastStart := some (21 - 1800), dueTime := 100 } (unitAt4 .online)
  { s with
    clock := { s.clock with now := now }
    groups := change (s.groups.set 0 { groupOne 0 0 0 with spacingExpiry := some 21 }) 1 fun _ =>
      { groupOne 1 0 0 with pairingClose := some 21 } }

theorem witness_DecisecondAnnouncesWhatFallsDue_groups_and_units :
    (fallingDue 20).running = true ∧ (fallingDue 20).due = [] ∧
    exec (.decisecondEvent noInputs) (fallingDue 20) = .next (after (.decisecondEvent noInputs) (fallingDue 20)) ∧
    (fallingDue 20).store.headerInForce = some theHeader ∧
    ([.spacing 0, .pairing 1, .windowClose 0, .revival 1, .stale 2] : List Due).map
      (fun d => [19, 20].map fun n => decide (d ∈ (after (.decisecondEvent noInputs) (fallingDue n)).due)) =
      List.replicate 5 [false, true] :=
  ⟨rfl, rfl, rfl, by decide +kernel, by decide +kernel⟩

theorem witness_SecondAdvanceRunsTheTimeOfDay :
    let s : State := { State.reset with clock := { Clock.initial with phase := 9, timeOfDay := 86399 } }
    (dueWith .secondAdvance s).IsDue .secondAdvance ∧ (dueWith .secondAdvance s).clock.phase = 9 ∧ 390 < 1320 :=
  ⟨dueWith_isDue rfl, rfl, by decide⟩

/-- Bank 1 pending at a boundary of a corridor running under it, with the deferral mark as given. -/
def boundaryWith (deferral : Bool) (x : Crossing) : State :=
  dueWith .cycleBoundary (at3 x { coordinatedAt 0 with
    store := { theStore with inForce := some bankOne, pendingSelection := some bankOne, deferral := deferral } })

/-- A stage with 400 ds to run: more than the gap of 350 that section 1.3.1 gives at T = 0. -/
def longStage : Crossing :=
  { inState .walk theRecord with stage := some { normalStage with clearance := 300, trailRed := 30 }, timeLeft := some 70 }

theorem witness_BoundaryAdoptsThePendingSelection :
    (boundaryWith false (greenDone theRecord)).IsDue .cycleBoundary ∧
    (boundaryWith false (greenDone theRecord)).store.pendingSelection = some bankOne ∧
    (boundaryWith false (greenDone theRecord)).store.header bankOne.base = some theHeader ∧
    (boundaryWith false (greenDone theRecord)).failing bankOne theHeader = none ∧
    (boundaryWith true longStage).store.deferral = true ∧ (boundaryWith true longStage).IsDue .cycleBoundary ∧
    (dueWith .boundaryDue { State.reset with store := { theStore with pendingSelection := some bankOne } }).IsDue .boundaryDue :=
  ⟨dueWith_isDue rfl, by decide +kernel, by decide +kernel, by decide +kernel, by decide +kernel, dueWith_isDue rfl,
    dueWith_isDue rfl⟩

/-- What the boundary finds at a crossing that bank 1 has no record for, and at one that it has a record for. -/
theorem witness_BoundaryAdoptsThePendingSelection_crossings :
    let s := (boundaryWith true (greenDone theRecord)).changeCrossing 4 fun _ => greenDone floating
    s.IsDue .cycleBoundary ∧ s.store.deferral = true ∧ s.store.pendingSelection = some bankOne ∧
    s.store.header bankOne.base = some theHeader ∧ s.store.effective bankOne 4 = none ∧ (s.crossing 4).pendingChange = none ∧
    (s.crossing 4).state = .vehGreen ∧ (s.crossing 4).state.serving = true ∧ longStage.state.ofStage = true ∧
    CrossingState.dark.serving = false ∧ (inState .startupRed floating).state = .startupRed ∧
    s.store.effective bankOne 2 = some { bank := 0, record := theRecord } ∧ Crossing.initial.state = .unconfigured ∧
    ({ longStage with pendingChange := some { target := .unconfigured, cause := .plan } }).pendingTarget = some .unconfigured ∧
    longStage.closingAmber = false ∧ (s.crossing 2).pendingChange = none :=
  ⟨dueWith_isDue rfl, by decide +kernel, by decide +kernel, by decide +kernel, by decide +kernel, by decide +kernel,
    by decide +kernel, by decide +kernel, by decide, by decide, rfl, by decide +kernel, rfl, rfl, rfl, by decide +kernel⟩

theorem witness_FailedStageTestDefersTheAdoption :
    (boundaryWith false longStage).IsDue .cycleBoundary ∧ (boundaryWith false longStage).store.deferral = false ∧
    (boundaryWith false longStage).store.pendingSelection = some bankOne ∧
    (boundaryWith false longStage).store.header bankOne.base = some theHeader ∧
    (boundaryWith false longStage).failing bankOne theHeader = some { crossing := 2, remaining := 400, gap := some 350 } ∧
    0 < 900 :=
  ⟨dueWith_isDue rfl, by decide +kernel, by decide +kernel, by decide +kernel, by decide +kernel, by decide⟩

/-- The deferral with a correction of -40, 0 and 40 pending, and in FREE mode; nobody fails without the long stage. -/
theorem witness_FailedStageTestDefersTheAdoption_correction :
    (∀ p ∈ [(-40 : Int), 0, 40], ∀ m ∈ [Mode.coordinated, Mode.free],
      let s := boundaryWith false longStage
      ({ s with clock := { s.clock with correction := p, mode := m } } : State).failing bankOne theHeader =
        some { crossing := 2, remaining := 400, gap := some 350 }) ∧
    (boundaryWith false longStage).clock.mode = .coordinated ∧ (boundaryWith false longStage).clock.cycle = some 900 ∧
    (boundaryWith false (greenDone theRecord)).failing bankOne theHeader = none := by decide +kernel

theorem witness_BoundaryStepsTheCorrection :
    (correcting 140).IsDue .cycleBoundary ∧ (correcting 140).store.pendingSelection = none ∧
    (correcting 140).clock.mode = .coordinated ∧ (correcting 140).clock.cycle = some 900 ∧ (correcting 0).clock.correction = 0 :=
  ⟨dueWith_isDue rfl, by decide +kernel, by decide +kernel, by decide +kernel, by decide +kernel⟩

/-- Section 1.8.1: with 257 to run crossing 3 allows 350 - 257 = 93 forward, above floor(900 / 10), and 50 - 20 = 30
backward; with 297 to run it allows 53; with no stage no crossing sets a bound. -/
theorem witness_BoundaryStepsTheCorrection_allowances :
    ((correcting 140).crossing 2).stage.map (·.kind) = some .coordinated ∧
    ((correcting 140).crossing 2).record = some theRecord ∧ 0 < theRecord.bandLen ∧
    ((correcting 140).crossing 2).timeLeft = some 10 ∧ ((correcting 140).crossing 2).state = .vehAmber ∧
    (normalStage.leadRed + normalStage.walk + normalStage.clearance + normalStage.trailRed) = 247 ∧
    ([correcting 140, correcting (-140), (correcting 140).changeCrossing 2 fun x => { x with timeLeft := some 50 }].map
      fun s => (after .cycleBoundary s).clock.correction) = [140 - 90, -140 + 30, 140 - 53] ∧
    (after .cycleBoundary ((correcting 140).changeCrossing 2 fun x => { x with stage := none, state := .vehGreen })).clock.correction =
      140 - 90 := by decide +kernel

/-- A watchdog count in COORDINATED mode with Y = 900. -/
def watching (n : Nat) : State :=
  dueWith .watchdog { coordinatedAt 0 with clock := { (coordinatedAt 0).clock with watchdog := n } }

theorem witness_WatchdogExpiryDropsToFree :
    (watching 2700).IsDue .watchdog ∧ 3 * (watching 2700).clock.cycle.getD 0 ≤ (watching 2700).clock.watchdog ∧
    (watching 2700).clock.mode = .coordinated ∧ (watching 2699).IsDue .watchdog ∧
    (watching 2699).clock.watchdog < 3 * (watching 2699).clock.cycle.getD 0 ∧
    (dueWith .watchdog freeCorridor).clock.mode = .free :=
  ⟨dueWith_isDue rfl, by decide, by decide, dueWith_isDue rfl, by decide, by decide⟩

theorem witness_SyncIsRefusedOrSetsTheClock :
    (asked 7 [0, 0, 0, 1, 0x51, 0x80] freeCorridor).AtTurn (fr 7 [0, 0, 0, 1, 0x51, 0x80]) [] ∧
    86400 ≤ readFour [0, 0, 0, 1, 0x51, 0x80] 2 ∧
    (freeCorridor.store.inForce.isSome = true ∧ freeCorridor.clock.cycle.getD 0 ≤ readTwo [3, 132, 0, 1, 0x51, 0x7F] 0) ∧
    (fr 7 [3, 131, 0, 1, 0x51, 0x7F]).isKind 7 = true ∧ (fr 7 [3, 131, 0, 1, 0x51, 0x7F]).body.length = 6 ∧
    readFour [3, 131, 0, 1, 0x51, 0x7F] 2 < 86400 ∧ readTwo [3, 131, 0, 1, 0x51, 0x7F] 0 < freeCorridor.clock.cycle.getD 0 ∧
    freeCorridor.store.headerInForce.isSome = true ∧ State.reset.store.headerInForce = none ∧
    (asked 7 [0, 20, 0, 0, 0, 0] (dueWith .cycleBoundary freeCorridor)).AtTurn (fr 7 [0, 20, 0, 0, 0, 0]) [] ∧
    freeCorridor.anyCoordinatedStage = false ∧ (at3 longStage freeCorridor).anyCoordinatedStage = true ∧
    theHeader.coordination = true ∧ (coordinatedAt 880).clock.mode = .coordinated :=
  ⟨turn_free _ _, by decide, by decide, by decide, by decide, by decide, by decide, by decide +kernel, by decide, ⟨rfl, rfl, rfl⟩,
    by decide +kernel, by decide +kernel, rfl, rfl⟩

/-- Crossing 3 with a call at a band end at corridor time `t`: in band at 849, room for the whole stage at 850, for a cut
one at 90, for none at 150. -/
def bandEndAt (t : Nat) : State :=
  dueWith (.bandEnd 2) (at3 (greenDone theRecord) { coordinatedAt t with calls := [callAt 2] })

theorem witness_BandEndDecidesTheCall :
    (bandEndAt 850).IsDue (.bandEnd 2) ∧ (bandEndAt 850).clock.mode = .coordinated ∧ (bandEndAt 850).clock.hold = false ∧
    (bandEndAt 850).clock.cycle = some 900 ∧ (bandEndAt 850).callOf 2 = some (callAt 2) ∧ (callAt 2).notBefore = none ∧
    ((bandEndAt 850).crossing 2).record = some theRecord ∧ 0 < theRecord.bandLen ∧
    ((bandEndAt 850).crossing 2).greenExpired = true ∧
    [849, 850, 90, 150].map (fun t => bandOutcome theRecord false 900 (localTime t 250 900) none) =
      [.wait .inBand, .start 70 none, .start 53 (some .band), .wait .gap] :=
  ⟨dueWith_isDue rfl, by decide, by decide, by decide, by decide +kernel, rfl, by decide +kernel, by decide, by decide +kernel,
    by decide⟩

theorem witness_PlanWriteIsCheckedThenBegins :
    let good : List Byte := [2, 8, 1] ++ recordBytes theRecord
    (asked 4 good { State.reset with store := theStore }).AtTurn (fr 4 good) [] ∧ (fr 4 good).isKind 4 = true ∧
    (numbered 4 5 = none ∧ numbered 4 2 = some 1) ∧ (8 < (9 : Byte).toNat ∧ 8 < (8 : Byte).toNat + (2 : Byte).toNat - 1) ∧
    freeCorridor.store.inUse 0 = true ∧ theStore.inUse 1 = false ∧ (recordBytes theRecord).length = 35 ∧
    theStore.validate 1 8 (recordBytes theRecord) = .refused .noHeader ∧
    theStore.validate 1 0 (headerBytes theHeader) = .valid (.header theHeader) ∧ (headerBytes theHeader).length = 33 :=
  ⟨⟨rfl, rfl, rfl⟩, by decide, by decide, by decide, by decide +kernel, by decide +kernel, by decide +kernel,
    by decide +kernel, by decide +kernel, by decide +kernel⟩

/-- A header and a record, of which the record waits; and bodies of no and of two bytes. -/
theorem witness_PlanWriteIsCheckedThenBegins_rest :
    let good : List Byte := [2, 0, 2] ++ headerBytes theHeader ++ recordBytes theRecord
    (asked 4 good { State.reset with store := theStore }).AtTurn (fr 4 good) [] ∧ (fr 4 good).isKind 4 = true ∧
    (headerBytes theHeader ++ recordBytes theRecord).length = 33 + 35 * ((2 : Byte).toNat - 1) ∧
    theStore.validate 1 0 ((headerBytes theHeader ++ recordBytes theRecord).take 33) = .valid (.header theHeader) ∧
    0 < (2 : Byte).toNat - 1 ∧
    (after .planWrite (asked 4 good { State.reset with store := theStore })).host.executing.map (·.rest) =
      some [recordBytes theRecord] ∧
    (asked 4 [] freeCorridor).AtTurn (fr 4 []) [] ∧ (fr 4 [1, 0]).body.length < 3 ∧
    replied (after .planWrite (asked 4 [1, 0] freeCorridor)) = some (.refused .badLength) :=
  ⟨⟨rfl, rfl, rfl⟩, by decide, by decide +kernel, by decide +kernel, by decide, by decide +kernel, turn_free _ _, by decide,
    by decide +kernel⟩

theorem witness_LastSlotWriteEndsThePlanWrite :
    (writing (.header theHeader)).running = true ∧ (writing (.record 2 theRecord)).running = true ∧
    (writing (.header theHeader)).host.executing.map (·.rest) = some [] ∧
    (writing (.record 2 theRecord)).host.executing.map (·.item) = some (.record 2 theRecord) := by decide +kernel

/-- With records left: crossing 1's fits the header just written, or names its own crossing as partner. The last slot that
another can follow is crossing 7's. -/
theorem witness_LastSlotWriteEndsThePlanWrite_next :
    let good := writingOf (.header theHeader) [recordBytes theRecord]
    let bad := writingOf (.header theHeader) [recordBytes { theRecord with partner := some 0 }]
    good.running = true ∧ bad.running = true ∧ (SlotItem.header theHeader).slot < 8 ∧ (SlotItem.record 6 theRecord).slot = 7 ∧
    good.host.executing.map (·.rest) = some (recordBytes theRecord :: []) ∧
    (after .slotWriteDone good).host.executing.map (·.item) = some (.record 0 theRecord) ∧
    replied (after .slotWriteDone bad) = some (.done (.planWrite 1 1 (some 1) (some .partner) 0)) := by decide +kernel

/-- Bank 1 as base and bank 2 as overlay. -/
def overlaid : Selection := { base := 0, overlay := some 1 }

theorem witness_RecordsAreCheckedAndResolved :
    ({ base := 1, overlay := some 0 } : Selection).overlay = some 0 ∧
    theStore.recordIn 0 2 = some { bank := 0, record := theRecord } ∧ overlaid.overlay = some 1 ∧ theStore.recordIn 1 2 = none := by
  decide +kernel

/-- A header and a crossing record at bounds of their ranges and just outside them. -/
theorem witness_RecordsAreCheckedAndResolved_bytes :
    (headerBytes theHeader).length = 33 ∧ (recordBytes theRecord).length = 35 ∧
    [400, 399, 2400, 2401].map (fun y => theStore.validate 1 0 (headerBytes { theHeader with cycle := y })) =
      [.valid (.header { theHeader with cycle := 400 }), .refused .range,
        .valid (.header { theHeader with cycle := 2400 }), .refused .range] ∧
    [0, 1, 300, 3000, 3001].map (fun n => theStore.validate 0 3 (recordBytes { theRecord with recallInterval := n })) =
      [.valid (.record 2 theRecord), .refused .range, .valid (.record 2 { theRecord with recallInterval := 300 }),
        .valid (.record 2 { theRecord with recallInterval := 3000 }), .refused .range] ∧
    theStore.validate 0 3 (recordBytes { theRecord with partner := some 2 }) = .refused .partner ∧
    theStore.validate 0 3 ((recordBytes theRecord).set 21 5) = .refused .range := by decide +kernel

theorem witness_PlanReadReportsTheSlot :
    (asked 5 [1, 8] freeCorridor).AtTurn (fr 5 [1, 8]) [] ∧ (fr 5 [1, 8]).isKind 5 = true := ⟨turn_free _ _, by decide⟩

theorem witness_PlanSelectMakesTheSelectionPending :
    (asked 6 [1, 2] freeCorridor).AtTurn (fr 6 [1, 2]) [] ∧ (fr 6 [1, 2]).isKind 6 = true ∧
    (numbered 4 0 = none ∧ 4 < (5 : Byte).toNat) ∧ (numbered 4 1 = some 0 ∧ numbered 4 2 = some 1) ∧
    freeCorridor.store.header 1 = none ∧ freeCorridor.store.header 0 = some theHeader ∧
    freeCorridor.store.misfit overlaid theHeader = none ∧
    ({ theStore with banks := (theStore.banks).set 0 { theBank with header := slotOf { theHeader with cycle := 800 } } } : PlanStore).misfit
      bankOne { theHeader with cycle := 800 } = some (2, .fit) :=
  ⟨turn_free _ _, by decide, by decide, by decide, by decide +kernel, by decide +kernel, by decide +kernel, by decide +kernel⟩

theorem witness_ClearanceRoundsUpExactly :
    50 ≤ theRecord.accessibleSpeed ∧ theRecord.accessibleSpeed ≤ theRecord.normalSpeed ∧ 20 ≤ theRecord.length ∧
    theRecord.length ≤ 400 ∧ theRecord.normalSpeed ≤ 150 ∧ theRecord.margin ≤ 50 ∧ (callAt 2).accessible = false ∧
    ({ theRecord with length := 400, accessibleSpeed := 50, margin := 50 }).clearance true = 850 ∧
    ({ theRecord with length := 20, normalSpeed := 150, margin := 0 }).clearance false = 14 := by decide

theorem witness_CoordinatedStageEndsByBandStart :
    theRecord.minWalk ≤ theRecord.walk ∧ bandOutcome theRecord true 900 630 none = .start 105 (some .band) ∧
    bandOutcome seven false 900 650 (some 250) = .wait .hold := by decide

theorem witness_UpgradeFitsWithinTheRoom :
    ({ normalStage with accessible := true }).accessible = true ∧ .cycleBoundary ∉ (at4 (inState .walk floating) (coordinatedAt 899)).due ∧
    (inState .walk floating).record.map (·.bandLen) = some 0 ∧ (inState .walk theRecord).record.map (·.bandLen) = some 500 ∧
    normalStage.accessible = false ∧ ({ normalStage with kind := .free }).kind = .free ∧ normalStage.kind = .coordinated ∧
    237 + (clearanceOf normalStage.length normalStage.accessibleSpeed normalStage.margin - normalStage.clearance) ≤ 360 ∧
    260 < 260 + (clearanceOf normalStage.length normalStage.accessibleSpeed normalStage.margin - normalStage.clearance) := by decide

/-- Crossing 4 in WALK of a normal stage of its own record. -/
def walking : Crossing :=
  { inState .walk floating with
    stage := some (newStage 0 (callAt 3) floating { route := .direct, start := none, walk := 70, cut := none }), timeLeft := some 50 }

theorem witness_CallIsRefusedAbsorbedOrUpgrades :
    (asked 8 [4, 1, 2, 88] (at4 walking freeCorridor)).AtTurn (fr 8 [4, 1, 2, 88]) [] ∧ (fr 8 [4, 1, 2, 88]).isKind 8 = true ∧
    (numbered 8 9 = none ∧ 1 < (2 : Byte).toNat ∧ numbered 8 4 = some 3) ∧ (Crossing.initial).inService = false ∧
    walking.inService = true ∧ walking.inCommittedStage = true ∧ walking.stage.isSome = true ∧
    (walking.stage.map fun k => upgradeOutcome k (walking.remaining k) ((at4 walking freeCorridor).upgradeBarred 3)
      ((at4 walking freeCorridor).upgradeLimit 3)) =
      walking.stage.map fun k => .fits (k.upgradedBy 195 40) 40 305 :=
  ⟨turn_at4 _ _ _, by decide, by decide, by decide, by decide, by decide, by decide, by decide +kernel⟩

/-- A REMOTE call of crossing 4 that may not start yet. -/
def later4 : CallRecord := { callAt 3 with origins := { remote := true }, notBefore := some 9 }

theorem witness_CallRegistersOrMerges :
    (asked 8 [4, 1, 2, 89] (at4 (greenDone floating) freeCorridor)).AtTurn (fr 8 [4, 1, 2, 89]) [] ∧
    (fr 8 [4, 1, 2, 89]).isKind 8 = true ∧ numbered 8 4 = some 3 ∧ (greenDone floating).inService = true ∧
    (greenDone floating).state.registering = true ∧ (inState .startupRed floating).greenExpired = false ∧
    (inState .startupRed floating).inService = true ∧ (inState .startupRed floating).state.registering = true ∧
    min ((2 : Byte).toNat * 256 + (89 : Byte).toNat) 600 = 600 ∧ freeCorridor.callOf 3 = none ∧
    ({ freeCorridor with calls := [later4] } : State).callOf 3 = some later4 ∧ later4.notBefore.isSome = true :=
  ⟨turn_at4 _ _ _, by decide, by decide, by decide, by decide, by decide, by decide, by decide, by decide, by decide +kernel,
    by decide +kernel, by decide⟩

/-- An accessible CALL in a committed stage of crossing 3 whose upgrade does not fit before the band. -/
theorem witness_CallRegistersOrMerges_no_fit :
    let x : Crossing := { inState .walk theRecord with stage := some normalStage, timeLeft := some 70 }
    let s := asked 8 [3, 1, 0, 0] (at3 x (coordinatedAt 100))
    s.AtTurn (fr 8 [3, 1, 0, 0]) [] ∧ x.inService = true ∧ x.inCommittedStage = true ∧ x.stage = some normalStage ∧
    upgradeOutcome normalStage (x.remaining normalStage) (s.upgradeBarred 2) (s.upgradeLimit 2) = .noFit ∧
    x.greenExpired = false ∧ s.callOf 2 = none :=
  ⟨⟨rfl, rfl, rfl⟩, by decide, by decide, rfl, by decide +kernel, by decide, by decide +kernel⟩

/-- CALL in VEH_GREEN with the green timer expired: a stage that starts on the DIRECT route, and a call that waits for its
group. -/
theorem witness_CallRegistersOrMerges_at_once :
    let direct := asked 8 [4, 0, 0, 0] (at4 (greenDone floating) freeCorridor)
    let full := asked 8 [4, 0, 0, 0] { grouped 2 with calls := [] }
    direct.AtTurn (fr 8 [4, 0, 0, 0]) [] ∧ (greenDone floating).greenExpired = true ∧ direct.clock.hold = false ∧
    (direct.crossing 3).record = some floating ∧
    direct.StartsAs 3 false floating { route := .direct, start := none, walk := 70, cut := none } ∧
    full.AtTurn (fr 8 [4, 0, 0, 0]) [] ∧ (full.crossing 3).greenExpired = true ∧
    full.WaitsFor 3 false { floating with group := some 0 } (.group 0) .groupFull :=
  ⟨turn_at4 _ _ _, by decide, rfl, by decide +kernel, .inl ⟨by decide, by decide⟩, ⟨rfl, rfl, rfl⟩, by decide +kernel,
    .inl ⟨0, rfl, by decide, by decide +kernel, by decide +kernel, by decide +kernel⟩⟩

/-- The same on the BAND route, where a stage fits whole, fits cut, and does not fit. -/
theorem witness_CallRegistersOrMerges_band :
    let s := fun t => asked 8 [3, 0, 0, 0] (at3 (greenDone theRecord) (coordinatedAt t))
    (s 850).AtTurn (fr 8 [3, 0, 0, 0]) [] ∧
    (s 850).StartsAs 2 false theRecord { route := .band, start := none, walk := 70, cut := none } ∧
    (s 90).StartsAs 2 false theRecord { route := .band, start := none, walk := 53, cut := some .band } ∧
    (s 150).WaitsFor 2 false theRecord .band .gap ∧ (s 849).WaitsFor 2 false theRecord .band .inBand :=
  ⟨⟨rfl, rfl, rfl⟩, .inr (.inr ⟨by decide, 900, rfl, by decide +kernel, .inl ⟨by decide +kernel, by decide⟩⟩),
    .inr (.inr ⟨by decide, 900, rfl, by decide +kernel, .inr ⟨by decide +kernel, by decide +kernel, by decide +kernel⟩⟩),
    .inr ⟨rfl, by decide, 900, rfl, .inr (by decide +kernel)⟩, .inr ⟨rfl, by decide, 900, rfl, .inl (by decide +kernel)⟩⟩

theorem witness_OffersMergeIntoTheRecord :
    ({ freeCorridor with calls := [callAt 2, later4] } : State).callOf 3 = some later4 ∧ later4.notBefore.isSome = true ∧
    (remoteOffer 0 true 600).notBefore.isSome = true ∧ (callAt 2).crossing ≠ 3 := by decide +kernel

theorem witness_CallCancelWithdrawsRemote :
    (asked 9 [4] (at4 (greenDone floating) { freeCorridor with calls := [later4] })).AtTurn (fr 9 [4]) [] ∧
    (fr 9 [4]).isKind 9 = true ∧ (numbered 8 0 = none ∧ numbered 8 4 = some 3) ∧ freeCorridor.callOf 3 = none ∧
    (callAt 3).origins.remote = false ∧ later4.origins.remote = true ∧
    (later4.origins.press || later4.origins.link || later4.origins.recalled) = false ∧
    (greenDone floating).failRecall = false ∧ ({ press := true, remote := true } : Origins).remote = true :=
  ⟨⟨rfl, rfl, rfl⟩, by decide, by decide, by decide +kernel, rfl, rfl, by decide, rfl, rfl⟩

/-- Crossing 4's recall timer arrives. -/
def recallDue (x : Crossing) : State := dueWith (.recallExpiry 3) (at4 { x with recallTimer := some 0 } freeCorridor)

theorem witness_NotBeforeAndRecallReachTheQueue :
    let s := dueWith (.notBefore 3) (at4 (inState .startupRed floating) { freeCorridor with
      calls := [{ callAt 3 with notBefore := some 0 }] })
    s.IsDue (.notBefore 3) ∧ s.callOf 3 = some { callAt 3 with notBefore := some 0 } ∧ reached s.clock.now 0 = true ∧
    (s.crossing 3).greenExpired = false ∧ (recallDue walking).IsDue (.recallExpiry 3) ∧
    ((recallDue walking).crossing 3).recallTimer = some 0 ∧ walking.state.registering = false ∧
    (inState .startupRed floating).inService = true ∧ (inState .startupRed floating).state.registering = true ∧
    (recallDue (inState .startupRed floating)).callOf 3 = none :=
  ⟨dueWith_isDue rfl, by decide +kernel, by decide, by decide +kernel, dueWith_isDue rfl, by decide +kernel, by decide,
    by decide, by decide, by decide +kernel⟩

/-- Crossing 4's green timer has just run out, with the calls given. -/
def greenOut (calls : List CallRecord) : State :=
  dueWith (.greenExpiry 3) (at4 { inState .vehGreen floating with green := some { left := 0, expired := false } }
    { freeCorridor with calls := calls })

theorem witness_GreenTimerExpiryAdmitsDirectly :
    (greenOut []).IsDue (.greenExpiry 3) ∧ ((greenOut []).crossing 3).green = some { left := 0, expired := false } ∧
    ((greenOut []).crossing 3).state = .vehGreen ∧ (greenOut []).clock.hold = false ∧
    ((greenOut []).crossing 3).record = some floating ∧ routeOf (greenOut []).clock.mode floating = .direct ∧
    (greenOut []).callOf 3 = none ∧ (greenOut [later4]).callOf 3 = some later4 ∧ later4.notBefore.isSome = true ∧
    (greenOut [callAt 3]).callOf 3 = some (callAt 3) ∧ (callAt 3).notBefore = none :=
  ⟨dueWith_isDue rfl, by decide +kernel, by decide +kernel, rfl, by decide +kernel, by decide, by decide +kernel,
    by decide +kernel, by decide, by decide +kernel, rfl⟩

/-- Group 1 at its spacing expiry with the calls given. -/
def released (calls : List CallRecord) : State := dueWith (.spacing 0) { grouped 0 with calls := calls }

theorem witness_GroupExpiriesDisarmReleaseAndJoin :
    (released []).IsDue (.spacing 0) ∧ (∀ c, (released []).callOf c = none) ∧
    ((released []).group 0).spacingExpiry = some 1150 ∧ reached (released []).clock.now 1150 = true ∧
    ((released []).group 0).active = 0 ∧ (dueWith (.pairing 0) { grouped 1 with calls := [] }).IsDue (.pairing 0) ∧
    ((grouped 1).group 0).pairingClose = some 1150 ∧ 0 < ((grouped 1).group 0).active ∧
    (released [callAt 3]).calls = [callAt 3] ∧ ((released [callAt 3]).crossing 3).greenExpired = true ∧
    ((released [callAt 3]).crossing 3).record = some { floating with group := some 0 } ∧
    routeOf (released [callAt 3]).clock.mode { floating with group := some 0 } = .group 0 ∧
    0 < ((released []).group 0).stageLimit ∧
    ((released []).group 0).spacing ≤ since (released []).clock.now ((released []).group 0).quietSince ∧
    (released []).clock.hold = false :=
  ⟨dueWith_isDue rfl, by decide +kernel, by decide +kernel, by decide, by decide +kernel, dueWith_isDue rfl, by decide +kernel,
    by decide +kernel, rfl, by decide +kernel, by decide +kernel, by decide, by decide +kernel, by decide +kernel, rfl⟩

/-- The two calls at the spacing expiry, with K as it is and with K = 1. -/
theorem witness_GroupExpiriesDisarmReleaseAndJoin_two_calls :
    let s := released [callAt 3, callAt 2]
    s.IsDue (.spacing 0) ∧ s.calls = [callAt 3, callAt 2] ∧ (callAt 3).crossing ≠ (callAt 2).crossing ∧
    (callAt 2).notBefore = none ∧ (s.crossing 2).greenExpired = true ∧ (s.crossing 3).greenExpired = true ∧
    (s.crossing 2).record = some { floating with group := some 0 } ∧ (s.group 0).stageLimit = 2 ∧
    (s.changeGroup 0 fun q => { q with stageLimit := 1 }).IsDue (.spacing 0) ∧
    ((s.changeGroup 0 fun q => { q with stageLimit := 1 }).group 0).stageLimit = 1 :=
  ⟨dueWith_isDue rfl, rfl, by decide, rfl, by decide +kernel, by decide +kernel, by decide +kernel, by decide +kernel,
    dueWith_isDue rfl, by decide +kernel⟩

/-- PAIRING_CLOSE at 1150, the window shut since 1149: crossing 3's call waits with PAIRING_CLOSED, crossing 4's with GREEN. -/
theorem witness_GroupExpiriesDisarmReleaseAndJoin_pairing :
    let s := dueWith (.pairing 0) (at4 (inState .vehGreen { floating with group := some 0 }) (grouped 1))
    let t := after (.pairingClose 0) s
    s.IsDue (.pairing 0) ∧ (s.group 0).pairingClose = some 1150 ∧ reached s.clock.now 1150 = true ∧ 0 < (s.group 0).active ∧
    (s.group 0).pairing < since s.clock.now (s.group 0).release ∧ s.callOf 2 = some (callAt 2) ∧
    s.callOf 3 = some (callAt 3) ∧ (s.crossing 2).record = some { floating with group := some 0 } ∧
    ((t.crossing 2).waiting, (t.crossing 3).waiting) = (some .pairingClosed, some .green) :=
  ⟨dueWith_isDue rfl, by decide +kernel, by decide, by decide +kernel, by decide +kernel, by decide +kernel,
    by decide +kernel, by decide +kernel, by decide +kernel⟩

/-- Crossing 4's green timer runs out with its call waiting in group 1, `n` stages active since a release at `r`. -/
def greenInGroup (n : Nat) (r : Time) : State :=
  dueWith (.greenExpiry 3) (at4 { inState .vehGreen { floating with group := some 0 } with green := some { left := 0, expired := false } }
    { grouped n with calls := [callAt 3], groups := freeCorridor.groups.set 0 (groupOne n r 1000) })

theorem witness_GroupExpiriesDisarmReleaseAndJoin_green_timer :
    (greenInGroup 0 0).IsDue (.greenExpiry 3) ∧
    ((greenInGroup 0 0).crossing 3).green = some { left := 0, expired := false } ∧
    ((greenInGroup 0 0).crossing 3).state = .vehGreen ∧ (greenInGroup 0 0).clock.hold = false ∧
    (greenInGroup 0 0).calls = [callAt 3] ∧ ((greenInGroup 0 0).crossing 3).record = some { floating with group := some 0 } ∧
    [greenInGroup 0 0, greenInGroup 1 1130, greenInGroup 1 1129, greenInGroup 2 1150].map
      (fun s => (s.group 0).mayStart s.clock.now) = [some .release, some .join, none, none] :=
  ⟨dueWith_isDue rfl, by decide +kernel, by decide +kernel, rfl, rfl, by decide +kernel, by decide +kernel⟩

/-- Crossing 4 at the end of an interval of a normal stage. -/
def ending (st : CrossingState) : State :=
  dueWith (.intervalEnd 3) (at4 { inState st floating with stage := walking.stage, timeLeft := some 0 } freeCorridor)

/-- Crossing 4 at the end of a closing amber bound for a target, with the in-force record given. -/
def closingTo (target : Target) (f : Option InForce) : State :=
  dueWith (.intervalEnd 3) (at4 { inState .vehAmber floating with
    inForce := f, closingAmber := true, timeLeft := some 0, pendingChange := some { target := target, cause := .command } } freeCorridor)

def closing : State := closingTo .dark (some { bank := 0, record := floating })

theorem witness_IntervalEndEntersTheNextInterval_closing :
    (closingTo .unconfigured none).IsDue (.intervalEnd 3) ∧ ((closingTo .unconfigured none).crossing 3).stage = none ∧
    ((closingTo .unconfigured none).crossing 3).timeLeft = some 0 ∧
    ((closingTo .unconfigured none).crossing 3).state = .vehAmber ∧
    ((closingTo .unconfigured none).crossing 3).inForce = none ∧
    ((closingTo .unconfigured (some { bank := 0, record := floating })).crossing 3).inForce.isSome = true ∧
    ((closingTo .faultFlash none).crossing 3).pendingTarget = some .faultFlash :=
  ⟨dueWith_isDue rfl, by decide +kernel, by decide +kernel, by decide +kernel, by decide +kernel, by decide +kernel,
    by decide +kernel⟩

theorem witness_IntervalEndEntersTheNextInterval :
    (ending .vehAmber).IsDue (.intervalEnd 3) ∧ ((ending .vehAmber).crossing 3).timeLeft = some 0 ∧
    ((ending .vehAmber).crossing 3).failRecall = false ∧ ((ending .vehAmber).crossing 3).closingAmber = false ∧
    ((ending .vehAmber).crossing 3).stage = walking.stage ∧ ((ending .startupFlash).crossing 3).state = .startupFlash ∧
    ((ending .walk).crossing 3).state = .walk ∧ ((ending .clearance).crossing 3).state = .clearance ∧
    ((ending .startupRed).crossing 3).pendingChange = none ∧ closing.IsDue (.intervalEnd 3) ∧
    (closing.crossing 3).closingAmber = true ∧ ((closing.crossing 3).pendingChange.map (·.target)) = some .dark :=
  ⟨dueWith_isDue rfl, by decide +kernel, by decide +kernel, by decide +kernel, by decide +kernel, by decide +kernel,
    by decide +kernel, by decide +kernel, by decide +kernel, dueWith_isDue rfl, by decide +kernel, by decide +kernel⟩

/-- R60, R106: fail recall at the end of WALK, and no record placed by it. -/
theorem witness_IntervalEndEntersTheNextInterval_fail_recall :
    let flagged := fun st => { ending st with crossings := (ending st).crossings.map fun x => { x with failRecall := true } }
    (∀ st ∈ [CrossingState.vehAmber, .startupFlash, .startupRed, .walk, .clearance],
      ((flagged st).crossing 3).timeLeft = some 0 ∧ ((flagged st).crossing 3).failRecall = true ∧
      ((flagged st).crossing 3).inService = true ∧ (flagged st).callOf 3 = none ∧
      ((flagged st).crossing 3).stage = walking.stage ∧ (flagged st).due = [.intervalEnd 3]) ∧
    (after (.intervalEnd 3) (flagged .walk)).calls.map (·.origins) = [{ recalled := true }] ∧
    (after (.intervalEnd 3) (flagged .vehAmber)).calls = [] := by decide +kernel

theorem witness_EntryCommandsTheOutputsOfTheState :
    commandedMode .clearance .dontWalk = .flashing ∧ commandedMode .walk .walk = .on ∧
    (lampAt (inState .startupFlash floating).port.lines .amber).mode = commandedMode .faultFlash .amber ∧
    (lampAt (inState .walk floating).port.lines .dontWalk).mode ≠ commandedMode .clearance .dontWalk := by decide

/-- The same with crossing 3 as link partner, in service or not. -/
def linked (st : CrossingState) : State :=
  dueWith (.intervalEnd 3) (at3 (inState st floating) (at4 { inState .leadRed { floating with partner := some 2 } with
    stage := walking.stage, timeLeft := some 0 } freeCorridor))

theorem witness_LeadRedEndBeginsTheWalk :
    (linked .startupRed).IsDue (.intervalEnd 3) ∧ ((linked .startupRed).crossing 3).timeLeft = some 0 ∧
    ((linked .startupRed).crossing 3).state = .leadRed ∧ ((linked .startupRed).crossing 3).stage = walking.stage ∧
    ((linked .startupRed).crossing 3).record.map (·.partner) = some (some 2) ∧
    (walking.stage.map (·.origins.linkAlone)) = some false ∧ ((linked .startupRed).crossing 2).inService = true ∧
    ((linked .startupRed).crossing 2).state.registering = true ∧ ((linked .dark).crossing 2).inService = false :=
  ⟨dueWith_isDue rfl, by decide +kernel, by decide +kernel, by decide +kernel, by decide +kernel, by decide, by decide +kernel,
    by decide +kernel, by decide +kernel⟩

/-- A partner that absorbs the linked call, and one at which it merges; with a link delay its record may not start yet. -/
theorem witness_LeadRedEndBeginsTheWalk_link :
    let delayed := at4 { inState .leadRed { floating with partner := some 2, linkDelay := 30 } with
      stage := walking.stage, timeLeft := some 0 } (linked .startupRed)
    ((linked .walk).crossing 2).inService = true ∧ ((linked .walk).crossing 2).state.registering = false ∧
    (linked .startupRed).callOf 2 = none ∧ ((linked .startupRed).crossing 2).greenExpired = false ∧
    ({ linked .startupRed with calls := [callAt 2] } : State).callOf 2 = some (callAt 2) ∧
    ((after (.intervalEnd 3) delayed).callOf 2).map (fun q => (q.origins, q.notBefore)) =
      some ({ link := true }, some (delayed.clock.now + 30)) := by decide +kernel

/-- Unit 1 of crossing 4 with a sample, in the mute set of which it stands, when crossing 4's walk begins at 100. -/
def sampledAt (phase : SamplePhase) (sounding : Bool) : State :=
  let s := ending .leadRed
  { s.changeUnit 0 (fun _ => { unitAt4 .online with
      sounding := sounding, audible := { Audible.initial with sample := some { phase := phase, earlyEnd := false, muted := [0] } } }) with
    clock := { s.clock with now := 100 }, kerb := { KerbLink.initial with transaction := some openTransaction } }

theorem witness_LeadRedEndBeginsTheWalk_samples :
    let k : Sample := { phase := .measuring 89, earlyEnd := false, muted := [0] }
    (sampledAt (.measuring 89) false).IsDue (.intervalEnd 3) ∧ ((sampledAt (.measuring 89) false).crossing 3).timeLeft = some 0 ∧
    ((sampledAt (.measuring 89) false).crossing 3).state = .leadRed ∧
    ((sampledAt (.measuring 89) false).crossing 3).stage = walking.stage ∧
    ((sampledAt (.measuring 89) false).crossing 3).record.bind (·.partner) = none ∧
    (walking.stage.map fun q => ({ q with origins := { link := true } } : Stage).origins.linkAlone) = some true ∧
    ((sampledAt (.measuring 89) false).unit 0).audible.sample = some k ∧
    (sampledAt (.measuring 89) false).onsetReaches 3 k ∧ ¬ (sampledAt (.measuring 89) true).onsetReaches 3 k ∧
    [88, 89].map (fun start => decide (since (sampledAt .requested false).clock.now start < 12)) = [false, true] ∧
    ((sampledAt .requested false).unit 1).audible.sample = none ∧
    (sampledAt .requested false).kerb.transaction = some openTransaction := by
  refine ⟨dueWith_isDue rfl, by decide +kernel, by decide +kernel, by decide +kernel, by decide +kernel, by decide,
    by decide +kernel, ⟨0, by decide, by decide +kernel, by decide +kernel, by decide +kernel⟩, ?_, by decide +kernel,
    by decide +kernel, by decide +kernel⟩
  rintro ⟨v, hv, -, -, h⟩
  obtain rfl := List.mem_singleton.1 hv
  exact absurd h (by decide +kernel)

/-- The same at the end of TRAIL_RED, counted in group 1. -/
def trailEnd : State :=
  dueWith (.intervalEnd 3) (at4 { inState .trailRed floating with
    stage := walking.stage.map fun k => { k with group := some 0 }, timeLeft := some 0 } (grouped 1 |> fun s => { s with calls := [] }))

theorem witness_TrailRedEndEndsTheStage :
    trailEnd.IsDue (.intervalEnd 3) ∧ (trailEnd.crossing 3).timeLeft = some 0 ∧ (trailEnd.crossing 3).state = .trailRed ∧
    (trailEnd.crossing 3).stage.map (·.group) = some (some 0) ∧ (trailEnd.crossing 3).pendingChange = none ∧
    (trailEnd.crossing 3).record = some floating ∧ trailEnd.calls = [] ∧ (trailEnd.crossing 3).failRecall = false :=
  ⟨dueWith_isDue rfl, by decide +kernel, by decide +kernel, by decide +kernel, by decide +kernel, by decide +kernel, rfl,
    by decide +kernel⟩

/-- The same with a change pending. -/
def trailEndTo (target : Target) : State :=
  trailEnd.changeCrossing 3 fun x => { x with pendingChange := some { target := target, cause := .plan } }

theorem witness_TrailRedEndEndsTheStage_change :
    (trailEndTo .unconfigured).IsDue (.intervalEnd 3) ∧ ((trailEndTo .unconfigured).crossing 3).timeLeft = some 0 ∧
    ((trailEndTo .unconfigured).crossing 3).state = .trailRed ∧
    ((trailEndTo .unconfigured).crossing 3).stage.map (·.group) = some (some 0) ∧
    ((trailEndTo .unconfigured).crossing 3).inForce.isSome = true ∧
    ((trailEndTo .faultFlash).crossing 3).pendingTarget = some .faultFlash ∧ (trailEndTo .dark).calls = [] ∧
    ((trailEndTo .dark).crossing 3).failRecall = false :=
  ⟨dueWith_isDue rfl, by decide +kernel, by decide +kernel, by decide +kernel, by decide +kernel, by decide +kernel, rfl,
    by decide +kernel⟩

theorem witness_ServiceCommandsFollowTheTable_out_of_range :
    (∀ body ∈ [[(0 : Byte), 1], [9, 2], [0, 3], [4, 0], [4, 4]],
      (asked 10 body freeCorridor).AtTurn (fr 10 body) [] ∧ (fr 10 body).isKind 10 = true) ∧
    8 < (9 : Byte).toNat ∧ 3 < (4 : Byte).toNat := ⟨fun _ _ => ⟨turn_free _ _, rfl⟩, by decide, by decide⟩

theorem witness_ServiceCommandsFollowTheTable :
    (asked 10 [4, 2] (at4 walking freeCorridor)).AtTurn (fr 10 [4, 2]) [] ∧ (fr 10 [4, 2]).isKind 10 = true ∧
    numbered 8 4 = some 3 ∧ (inState .cmdFlash floating).state = .cmdFlash ∧ (greenDone floating).state = .vehGreen ∧
    (greenDone floating).pendingChange = none ∧ walking.state.ofStage = true ∧ walking.pendingChange = none ∧
    Crossing.initial.state.ofStage = false ∧ Crossing.initial.state ≠ .vehGreen ∧
    (asked 10 [4, 3] (at4 (inState .dark floating) freeCorridor)).AtTurn (fr 10 [4, 3]) [] ∧
    (inState .dark floating).state = .dark :=
  ⟨turn_at4 _ _ _, by decide, by decide, rfl, rfl, rfl, by decide, rfl, by decide, by decide, turn_at4 _ _ _, rfl⟩

/-- RESTORE with timers at their limits and below them, on outputs whose mode stays, and with an output whose mode changes. -/
theorem witness_ServiceCommandsFollowTheTable_timers :
    (asked 10 [4, 3] (at4 stuckGreen freeCorridor)).AtTurn (fr 10 [4, 3]) [] ∧ stuckGreen.state = .faultFlash ∧
    stuckGreen.inForce.isSome = true ∧ (lampAt stuckGreen.port.lines .green).mode = commandedMode .startupFlash .green ∧
    (lampAt stuckGreen.port.lines .green).mismatch = 5 ∧ stuckGreen.port.conflict = 2 ∧
    (lampAt stuckGreen.port.lines .walk).mode = commandedMode .startupFlash .walk ∧
    (lampAt stuckGreen.port.lines .walk).mismatch < 5 ∧
    (lampAt (inState .dark floating).port.lines .amber).mode ≠ commandedMode .startupFlash .amber :=
  ⟨turn_at4 _ _ _, rfl, rfl, by decide, by decide, by decide, by decide, by decide, by decide⟩

theorem witness_FlashHalfChangesEveryFiveDeciseconds :
    (dueWith (.flashHalf 3) (at4 (flashing 4) freeCorridor)).IsDue (.flashHalf 3) ∧ (flashing 4).port.flash.complete = true ∧
    (flashing 3).port.flash.complete = false ∧ (flashing 4).port.flash = .on 4 :=
  ⟨dueWith_isDue rfl, by decide, by decide, by decide⟩

/-- An output commanded on whose mismatch timer counts 4. -/
def fading : OutputLine :=
  { mode := .on, value := true, settling := false, proved := false, mismatch := 4, sense := some .offWhenOn }

theorem witness_JudgementCountsMismatches :
    ((fading.mismatch = 0 ↔ fading.sense = none) ∧ fading.mismatch ≤ 5 ∧ fading.settling = false ∧ false ≠ fading.value) ∧
    (OutputLine.initial.mismatch = 0 ↔ OutputLine.initial.sense = none) ∧ OutputLine.initial.settling = true ∧
    fading.sense = some (if fading.value then .offWhenOn else .onWhenOff) := by decide

/-- Proved walk with green for a second decisecond, and a flash half that runs. -/
theorem witness_JudgementCountsMismatches_decisecond :
    let both : ProvingInputs := Vector.replicate 8 ⟨false, false, true, true, false⟩
    let s := at4 { flashing 3 with port := { (flashing 3).port with conflict := 1 } } freeCorridor
    s.running = true ∧ s.due = [] ∧
    ((after (.decisecondEvent both) s).crossing 3).port.conflict = 2 ∧
    ((after (.decisecondEvent both) s).crossing 3).port.flash = .on 4 ∧
    ((after (.decisecondEvent noInputs) s).crossing 3).port.conflict = 0 := by decide +kernel

theorem witness_ProvingAnnouncesFaultsByClass :
    (coordinatedAt 5).running = true ∧ (coordinatedAt 5).due = [] ∧
    exec (.decisecondEvent noInputs) (coordinatedAt 5) = .next (after (.decisecondEvent noInputs) (coordinatedAt 5)) ∧
    (∀ c, ((coordinatedAt 5).crossing c).port.lines.red.mismatch ≤ 5 ∧ ((coordinatedAt 5).crossing c).port.conflict ≤ 2) :=
  ⟨rfl, rfl, rfl, by decide +kernel⟩

/-- A crossing in WALK whose walk lamp's timer counts 4, with a WALK_FAIL raised earlier in the WALK or none. -/
def fadingWalk (failed : Bool) : State :=
  at4 { walking with port := { walking.port with
    lines := { walking.port.lines with walk := fading }, walkFailed := failed } } freeCorridor

/-- R132: WALK_FAIL is raised at most once in a stage; what was raised is forgotten at the end of WALK. -/
theorem test_walk_fail_once_in_a_stage :
    let first := after (.decisecondEvent noInputs) (fadingWalk false)
    let second := after (.decisecondEvent noInputs) (fadingWalk true)
    .mismatch 3 .walk .walkFail ∈ first.due ∧ (first.crossing 3).port.walkFailed = true ∧
    .mismatch 3 .walk .walkFail ∉ second.due ∧ (second.crossing 3).port.lines.walk.mismatch = 5 ∧
    ((first.crossing 3).enter .clearance none).port.walkFailed = false := by decide +kernel

theorem witness_ProvingAnnouncesFaultsByClass_start_up :
    let s := after .restore (asked 10 [4, 3] (at4 stuckGreen freeCorridor))
    s.running = true ∧ s.due = [] ∧ (s.crossing 3).state = .startupFlash ∧ (s.crossing 3).faults = {} ∧
    (lampAt (s.crossing 3).port.lines .green).mismatch = 5 ∧
    (lampAt (s.crossing 3).port.lines .green).sense = some .onWhenOff ∧
    (lampAt (s.crossing 3).port.lines .green).settling = false ∧ (s.crossing 3).port.conflict = 2 ∧
    .mismatch 3 .green .stuckOn ∈ (after (.decisecondEvent litInputs) s).due ∧
    .conflict 3 ∈ (after (.decisecondEvent litInputs) s).due := by decide +kernel

theorem witness_ProvingAnnouncesFaultsByClass_walk :
    (fadingWalk true).running = true ∧ (fadingWalk true).due = [] ∧ ((fadingWalk true).crossing 3).port.walkFailed = true ∧
    exec (.decisecondEvent noInputs) (fadingWalk true) = .next (after (.decisecondEvent noInputs) (fadingWalk true)) ∧
    (lampAt ((fadingWalk true).crossing 3).port.lines .walk).mismatch = 4 := ⟨rfl, rfl, by decide, rfl, by decide⟩

theorem witness_ImmediateFaultEntersFaultFlash :
    (dueWith (.conflict 3) (at4 walking freeCorridor)).IsDue (.conflict 3) ∧
    (dueWith (.mismatch 3 .red .redLoss) (at4 walking freeCorridor)).IsDue (.mismatch 3 .red .redLoss) ∧
    (∀ cls', .mismatch 3 .red cls' ∈ (dueWith (.mismatch 3 .red .redLoss) (at4 walking freeCorridor)).due → cls' = .redLoss) ∧
    walking.state ≠ .faultFlash ∧ walking.state ≠ .dark := by
  refine ⟨dueWith_isDue rfl, dueWith_isDue rfl, fun cls h => ?_, by decide, by decide⟩
  simpa [dueWith] using h

theorem witness_OtherFaultsActByClass :
    (dueWith (.mismatch 3 .walk .walkFail) (at4 walking freeCorridor)).IsDue (.mismatch 3 .walk .walkFail) ∧
    (∀ cls', .mismatch 3 .walk cls' ∈ (dueWith (.mismatch 3 .walk .walkFail) (at4 walking freeCorridor)).due → cls' = .walkFail) ∧
    walking.state.ofStage = true ∧ walking.faults.walkFail = false ∧ walking.faults.lampOut = false ∧
    (dueWith (.mismatch 3 .green .lampOut) (at4 walking freeCorridor)).IsDue (.mismatch 3 .green .lampOut) ∧
    (dueWith (.mismatch 3 .amber .flashFail) (at4 (flashing 0) freeCorridor)).IsDue (.mismatch 3 .amber .flashFail) ∧
    (flashing 0).state.flashing = true ∧ (flashing 0).pendingChange = none ∧
    ({ (inState .dark floating) with faults := { stuckOn := true } }).faults.has .stuckOn = true := by
  refine ⟨dueWith_isDue rfl, fun cls h => ?_, by decide, rfl, rfl, dueWith_isDue rfl, dueWith_isDue rfl, by decide, rfl, rfl⟩
  simpa [dueWith] using h

/-- R113, R130: a class new to the set in FAULT_FLASH and in DARK. -/
theorem witness_OtherFaultsActByClass_recorded :
    let dark := dueWith (.mismatch 3 .green .stuckOn) (at4 (inState .dark floating) freeCorridor)
    let flash := dueWith (.conflict 3) (at4 (inState .faultFlash floating) freeCorridor)
    dark.IsDue (.mismatch 3 .green .stuckOn) ∧ (dark.crossing 3).faults.has .stuckOn = false ∧ (dark.crossing 3).state = .dark ∧
    (∀ cls', .mismatch 3 .green cls' ∈ dark.due → cls' = .stuckOn) ∧ flash.IsDue (.conflict 3) ∧
    (flash.crossing 3).state = .faultFlash ∧ (flash.crossing 3).faults.conflict = false ∧
    (after (.conflictTimerLimit 3) flash).counters.crossings[(3 : CrossingId)].faults = 1 := by
  refine ⟨dueWith_isDue rfl, by decide +kernel, by decide +kernel, fun cls h => ?_, dueWith_isDue rfl, by decide +kernel,
    by decide +kernel, by decide +kernel⟩
  simpa [dueWith] using h

theorem witness_PollSendsTheNextUnitItsCommand :
    (polled (unitAt4 .online)).running = true ∧ (polled (unitAt4 .online)).kerb.transaction.isSome = true ∧
    State.reset.kerb.transaction = none ∧ State.reset.kerb.resting = false ∧ State.reset.nextUnit = none ∧
    (freeCorridor.changeUnit 0 fun _ => unitAt4 .online).nextUnit = some 0 ∧
    ((freeCorridor.changeUnit 0 fun _ => unitAt4 .online).unit 0).mapping.isSome = true := by decide +kernel

theorem witness_KerbTimingCommandsMarkTheirUnit :
    let s := dueWith (.revival 0) (freeCorridor.changeUnit 0 fun _ => { unitAt4 .failed with nextRevival := some 0 })
    State.reset.running = true ∧ ({ KerbLink.initial with ended := some 5 } : KerbLink).ended = some 5 ∧
    KerbLink.initial.ended = none ∧ s.IsDue (.revival 0) ∧ (s.unit 0).nextRevival = some 0 ∧ reached s.clock.now 0 = true ∧
    (s.unit 0).state = .failed :=
  ⟨rfl, rfl, rfl, dueWith_isDue rfl, by decide +kernel, by decide, by decide +kernel⟩

theorem witness_MissMovesTheUnit :
    (polled (unitAt4 .online)).running = true ∧ (polled (unitAt4 .online)).kerb.transaction = some openTransaction ∧
    openTransaction.windowOpen = true ∧ openTransaction.void = false ∧ openTransaction.command.address = 0 ∧
    ((polled (unitAt4 .online)).unit 0).mapping = some { crossing := 3, side := .a, hearing := [] } ∧
    wholeKerbReply [0xC3, 1, 0, 0, 0, 0, 0, 0, 0] = true ∧ kerbCheckGood [0xC3, 1, 0, 0, 0, 0, 0, 0, 0] = false ∧
    ({ unitAt4 .suspect with misses := 5 }).misses = 5 ∧ ({ unitAt4 .joining with misses := 4 }).misses < 5 := by decide +kernel

theorem witness_GoodReplyMovesTheUnitAndCountsPresses :
    (polled (unitAt4 .online)).running = true ∧ (polled (unitAt4 .online)).kerb.transaction = some openTransaction ∧
    openTransaction.windowOpen = true ∧ openTransaction.void = false ∧ openTransaction.command.address = 0 ∧
    ((polled (unitAt4 .online)).unit 0).mapping = some { crossing := 3, side := .a, hearing := [] } ∧
    wholeKerbReply (replyFrame 0 1 0) = true ∧ kerbCheckGood (replyFrame 0 1 0) = true ∧
    (replyFrame 0 1 0).getD 1 0 = number (0 : UnitId) ∧ (inState .startupRed floating).inService = true ∧
    (inState .startupRed floating).state.registering = true ∧ (inState .startupRed floating).greenExpired = false ∧
    freeCorridor.callOf 3 = none := by decide +kernel

/-- Unit 1 with presses to hand over to crossing 4 in STARTUP_RED, which has no call, or one. -/
theorem witness_GoodReplyMovesTheUnitAndCountsPresses_record :
    let k := { unitAt4 .online with pressBaseline := some 0, extendedBaseline := some 2 }
    let s (calls : List CallRecord) := at4 (inState .startupRed floating) { polled k with calls := calls }
    (s []).running = true ∧ (s []).kerb.transaction = some openTransaction ∧
    ((s []).unit 0).mapping = some { crossing := 3, side := .a, hearing := [] } ∧
    ((s []).unit 0).state = .online ∧ ((s []).unit 0).stuck = false ∧ (readKerbReply (replyFrame 0 1 0)).heldNow = false ∧
    modY (((readKerbReply (replyFrame 0 1 0)).presses : Int) - 0) 256 = 1 ∧
    modY (((readKerbReply (replyFrame 0 1 0)).extended : Int) - 2) 256 = 1 ∧
    ((s []).crossing 3).inService = true ∧ ((s []).crossing 3).state.registering = true ∧
    ((s []).crossing 3).greenExpired = false ∧ (s []).callOf 3 = none ∧ (s [later4]).callOf 3 = some later4 ∧
    ((after (.goodReply (replyFrame 0 1 0)) (s [])).callOf 3).map (·.pressCount) = some 2 := by decide +kernel

/-- Unit 1 in its transaction with a sample in the phase given, and replies that start, lose, take and leave it. -/
theorem witness_GoodReplyMovesTheUnitAndCountsPresses_samples :
    let s (phase : SamplePhase) := polled { unitAt4 .online with
      pressBaseline := some 1, extendedBaseline := some 3
      audible := { Audible.initial with sample := some { phase := phase, earlyEnd := false, muted := [0] } } }
    (∀ f ∈ [replyFrame 0 1 0, replyFrame 0 2 0, replyFrame 1 1 0, replyFrame 8 1 0],
      wholeKerbReply f = true ∧ kerbCheckGood f = true ∧ f.getD 1 0 = number (0 : UnitId)) ∧
    (s .requested).running = true ∧ (s .requested).kerb.transaction = some openTransaction ∧
    ((s .requested).unit 0).mapping = some { crossing := 3, side := .a, hearing := [] } ∧
    [replyFrame 0 1 0, replyFrame 0 2 0].map (fun f => modY (((readKerbReply f).presses : Int) - 1) 256) = [0, 1] ∧
    ((s (.measuring 0)).unit 0).audible.sample.map (·.phase) = some (.measuring 0) ∧
    (readKerbReply (replyFrame 1 1 0)).fresh = true ∧ (readKerbReply (replyFrame 0 1 0)).fresh = false ∧
    (readKerbReply (replyFrame 8 1 0)).sample.isSome = true ∧ (readKerbReply (replyFrame 0 1 0)).sample = none ∧
    ((s (.closed 0 true)).unit 0).audible.sample.map (·.phase) = some (.closed 0 true) := by decide +kernel

theorem witness_UnitMapWriteSetsAndClearsEntries :
    let mapped := freeCorridor.changeUnit 0 fun _ => unitAt4 .online
    (asked 11 [32, 1, 8, 2, 1, 1] freeCorridor).AtTurn (fr 11 [32, 1, 8, 2, 1, 1]) [] ∧
    (fr 11 [32, 1, 8, 2, 1, 1]).isKind 11 = true ∧
    (fr 11 [32, 1, 8, 2, 1, 1]).body = 32 :: 1 :: 8 :: 2 :: byte [(1 : Byte)].length :: [1] ∧
    (numbered 32 32 = some 31 ∧ numbered 8 8 = some 7 ∧ [(1 : Byte)] = [(0 : UnitId)].map number ∧ (31 : UnitId) ∉ [(0 : UnitId)]) ∧
    numbered 32 33 = none ∧ (freeCorridor.unit 0).mapping = none ∧
    (asked 11 [1, 2] mapped).AtTurn (fr 11 [1, 2]) [] ∧ (mapped.unit 0).mapping = some { crossing := 3, side := .a, hearing := [] } ∧
    ¬ [(5 : Byte), 5].Nodup ∧ (freeCorridor.crossing 7).greenExpired = false :=
  ⟨turn_free _ _, by decide, by decide, by decide, by decide, by decide +kernel, ⟨rfl, rfl, rfl⟩, by decide +kernel, by decide,
    by decide +kernel⟩

/-- UNIT MAP WRITE bodies that are too short, too long, of a count that is not its members' or above 6, and of no action. -/
theorem witness_UnitMapWriteSetsAndClearsEntries_refused :
    (∀ body ∈ [[], [(1 : Byte)], [1, 1, 8, 2], [1, 1, 8, 2, 2, 3], [1, 1, 8, 2, 7, 3], [1, 2, 9], [1, 3], [1, 0, 5]],
      (asked 11 body freeCorridor).AtTurn (fr 11 body) [] ∧ (fr 11 body).isKind 11 = true) ∧
    [[], [1, 1, 8, 2], [1, 1, 8, 2, 2, 3], [1, 1, 8, 2, 7, 3], [1, 3]].map
      (fun body => replied (after .unitMapSet (asked 11 body freeCorridor))) =
      [some (.refused .badLength), some (.refused .badLength), some (.refused .badLength), some (.refused .outOfRange),
        some (.refused .outOfRange)] ∧
    [[1], [1, 2, 9], [1, 0, 5]].map (fun body => replied (after .unitMapClear (asked 11 body freeCorridor))) =
      [some (.refused .badLength), some (.refused .badLength), some (.refused .outOfRange)] :=
  ⟨fun _ _ => ⟨turn_free _ _, rfl⟩, by decide +kernel, by decide +kernel⟩

/-- Unit 1 at the end of its sample's window, and with an estimate of 62.0 dB grown 3 × 600 ds old. -/
def sampled : State :=
  dueWith (.windowClose 0) { freeCorridor.changeUnit 0 (fun _ => { unitAt4 .online with
    audible := { Audible.initial with sample := some { phase := .measuring 0, earlyEnd := false, muted := [0] } } }) with
    clock := { freeCorridor.clock with now := 20 } }

def aged : State :=
  dueWith (.stale 0) { freeCorridor.changeUnit 0 (fun _ => { unitAt4 .online with
    audible := { estimated 620 with lastStart := some 0 } }) with clock := { freeCorridor.clock with now := 1800 } }

theorem witness_SamplesCloseAndEstimatesMove :
    sampled.IsDue (.windowClose 0) ∧ (sampled.unit 0).audible.sample = some { phase := .measuring 0, earlyEnd := false, muted := [0] } ∧
    20 ≤ since sampled.clock.now 0 ∧ aged.IsDue (.stale 0) ∧ (aged.unit 0).mapping.isSome = true ∧
    (aged.unit 0).audible.estimate = some 620 ∧ (aged.unit 0).audible.stale = false ∧
    (aged.unit 0).audible.lastStart = some 0 ∧ aged.store.headerInForce = some theHeader ∧
    3 * theHeader.sampleInterval ≤ since aged.clock.now 0 ∧ (Audible.initial.estimate = none) ∧
    (estimated 620).estimate = some 620 :=
  ⟨dueWith_isDue rfl, by decide +kernel, by decide, dueWith_isDue rfl, by decide +kernel, by decide +kernel, by decide +kernel,
    by decide +kernel, by decide +kernel, by decide, rfl, rfl⟩

/-- Unit 1 due for a sample at the next decisecond event, alone; in the state given. -/
def sampleDue (st : UnitState) : State :=
  freeCorridor.changeUnit 0 fun _ => { unitAt4 st with audible := { Audible.initial with dueTime := 1 } }

theorem witness_SamplesCloseAndEstimatesMove_grant :
    (sampleDue .online).running = true ∧ (sampleDue .online).due = [] ∧ (sampleDue .online).store.inForce.isSome = true ∧
    ((sampleDue .online).unit 0).mapping = some { crossing := 3, side := .a, hearing := [] } ∧
    ((sampleDue .online).unit 0).audible.sample = none ∧
    reached ((sampleDue .online).clock.now + 1) ((sampleDue .online).unit 0).audible.dueTime = true ∧
    (∀ v, v ≠ 0 → ((sampleDue .online).unit v).mapping = none) ∧ ((sampleDue .online).unit 0).state = .online ∧
    ((sampleDue .online).unit 0).sounding = false ∧ ((sampleDue .online).unit 0).audible.muteSet = [] ∧
    ((sampleDue .suspect).unit 0).state ≠ .online ∧
    State.reset.running = true ∧ State.reset.due = [] ∧ State.reset.store.inForce = none := by decide +kernel

/-! ### The laws hold in a corridor with a crossing in WALK and a mapped unit, and its next step answers a next state -/

/-- Crossing 4 in WALK of a stage admitted directly, unit 1 mapped to it, and a decisecond event waiting. -/
def busy : State :=
  let s := at3 (greenDone theRecord) (at4 { walking with port := { walking.port with walkFailed := true } } (freeCorridor.changeUnit 0 fun _ => { unitAt4 .suspect with misses := 1 }))
  { s with
    crossings := rewrite s.crossings fun c x => { x with
      working := s.workingSides c, failRecall := !((s.workingSides c).a && (s.workingSides c).b) }
    units := rewrite s.units fun _ k => relevelUnit s.crossings s.clock.quiet k
    pending := [.decisecondEvent noInputs] }

theorem witness_busy_steps : step busy = .next (match step busy with | .next t => t | _ => busy) := rfl

theorem witness_EveryStepKeepsTheOutputsOfTheStates : ∀ c, (busy.crossing c).OutputsLaw := by
  have h : ∀ c, (∀ o ∈ allLamps, (lampAt (busy.crossing c).port.lines o).mode = commandedMode (busy.crossing c).state o ∧
      (lampAt (busy.crossing c).port.lines o).value =
        valueOf (commandedMode (busy.crossing c).state o) (busy.crossing c).port.flash ∧
      (lampAt (busy.crossing c).port.lines o).mismatch ≤ 5) ∧
      ((busy.crossing c).port.flash = .idle ↔ ∀ o ∈ allLamps, commandedMode (busy.crossing c).state o ≠ .flashing) ∧
      (busy.crossing c).port.conflict ≤ 2 ∧
      ((busy.crossing c).port.walkFailed = true → commandedMode (busy.crossing c).state .walk = .on) := by decide +kernel
  exact fun c => ⟨fun o => (h c).1 o (mem_allLamps o), (h c).2.1.trans
    ⟨fun k o => k o (mem_allLamps o), fun k o _ => k o⟩, (h c).2.2⟩

theorem witness_EveryStepKeepsTheCallQueueSound :
    let s := { busy with calls := [callAt 2] }
    s.StoppedLaw ∧ s.CallLaw := by
  refine ⟨fun h => ?_, ?_⟩
  · cases h
  · unfold State.CallLaw; decide +kernel

theorem witness_EveryStepKeepsTheClockAndThePlan : busy.StoppedLaw ∧ busy.HeaderLaw ∧ busy.TimeLaw ∧ busy.PlanLaw := by
  have e : busy.host.executing = none := rfl
  have p : busy.store.pendingSelection = none := rfl
  have i : busy.store.inForce = some bankOne := rfl
  have h : ∀ b, busy.store.header b = none ∨ busy.store.header b = some theHeader := by decide +kernel
  refine ⟨fun h => ?_, ⟨fun b h' k => ?_, fun w _ k => ?_⟩, ⟨by decide +kernel, fun y k => ?_, fun k => ?_, by decide +kernel⟩,
    fun w k => ?_, fun sel k => ?_, fun sel k => ?_, by decide +kernel⟩
  · cases h
  · rcases h b with h | h <;> rw [h] at k <;> cases k
    exact ⟨by decide, by decide⟩
  · rw [e] at k; cases k
  · cases k; decide +kernel
  · cases k
  · rw [e] at k; cases k
  · rw [i] at k; cases k; decide +kernel
  · rw [p] at k; cases k

/-- The law of the plan also holds in the corridor that reads bank 1's slot 3 back, where crossing 3 runs on it. -/
theorem witness_PlanReadReportsTheSlot_in_force :
    (asked 5 [1, 3] busy).AtTurn (fr 5 [1, 3]) [] ∧ (asked 5 [1, 3] busy).PlanLaw ∧
    ((asked 5 [1, 3] busy).crossing 2).inForce = some { bank := 0, record := theRecord } := by
  refine ⟨⟨rfl, rfl, rfl⟩, ?_, by decide +kernel⟩
  obtain ⟨_, _, _, h1, h2, h3, h4⟩ := witness_EveryStepKeepsTheClockAndThePlan
  exact ⟨h1, h2, h3, h4⟩

theorem witness_EveryStepKeepsTheGroupCounts : busy.GroupLaw := by
  refine ⟨fun c => ?_, by decide +kernel⟩
  constructor <;> revert c <;> decide +kernel

theorem witness_EveryStepKeepsTheLevels : busy.LevelLaw := by
  unfold State.LevelLaw; decide +kernel

theorem witness_EveryStepKeepsTheUnitsAndTheirButtons :
    busy.StoppedLaw ∧ (∀ u, (busy.unit u).CountLaw) ∧ busy.WorkingLaw := by
  refine ⟨fun h => ?_, fun u => ?_, ?_⟩
  · cases h
  · have : ∀ u, ((busy.unit u).state = .joining ∧ (busy.unit u).misses ≤ 5 ∧ (busy.unit u).goods ≤ 2) ∨
        ((busy.unit u).state = .suspect ∧ 1 ≤ (busy.unit u).misses ∧ (busy.unit u).misses ≤ 5 ∧ (busy.unit u).goods = 0) := by
      decide +kernel
    unfold KerbUnit.CountLaw
    rcases this u with ⟨h, k⟩ | ⟨h, k⟩ <;> rw [h] <;> exact k
  · unfold State.WorkingLaw; decide +kernel

theorem witness_EveryStepKeepsTheBounds : busy.QueueLaw ∧ busy.counters.Saturated := by
  unfold State.QueueLaw Counters.Saturated; decide +kernel

end Sys2Proof.Tests
end

section
/-!
The dispatch of a command: every command but those of a reset works in a running part alone, and stops only on operands
that no event brings.
-/

namespace Sys2Proof.Machine

/-- A command with operands its row's event can bring, and no row of a reset, is some work of a running part. -/
theorem exec_live {i : Instr} (h : wellFormed i = true) (hc : i ≠ .coldStart) (hs : i ≠ .startUpComplete)
    (hr : i ≠ .restartBegin) : ∃ f : State → State, ∀ s, exec i s = .next (s.live f) := by
  cases i
  case coldStart => exact absurd rfl hc
  case startUpComplete => exact absurd rfl hs
  case restartBegin => exact absurd rfl hr
  case hostFrameReceived bytes => exact ⟨State.receiveFrame bytes, fun s => if_pos h⟩
  case frameAbandon cause => exact ⟨State.abandonFrame, fun s => if_pos h⟩
  case goodReply frame => exact ⟨State.receiveGood frame, fun s => if_pos h⟩
  case badReply frame => exact ⟨State.receiveBad frame, fun s => if_pos h⟩
  all_goals exact ⟨_, fun s => rfl⟩

/-- A command with operands its row's event can bring answers a next state. -/
theorem exec_next {i : Instr} (h : wellFormed i = true) (s : State) : ∃ t, exec i s = .next t := by
  by_cases hc : i = .coldStart
  · subst hc; exact ⟨_, rfl⟩
  by_cases hs : i = .startUpComplete
  · subst hs; exact ⟨_, rfl⟩
  by_cases hr : i = .restartBegin
  · subst hr; exact ⟨_, rfl⟩
  obtain ⟨f, hf⟩ := exec_live h hc hs hr
  exact ⟨_, hf s⟩

/-- The four commands whose operands can be ill-formed stop on ill-formed ones (log entry 17). -/
theorem exec_fault {i : Instr} (h : wellFormed i = false) (s : State) : exec i s = .fault .noSuchEvent := by
  cases i
  case hostFrameReceived bytes => exact if_neg (by simpa [wellFormed] using h)
  case frameAbandon cause => exact if_neg (by simpa [wellFormed] using h)
  case goodReply frame => exact if_neg (by simpa [wellFormed] using h)
  case badReply frame => exact if_neg (by simpa [wellFormed] using h)
  all_goals cases h

/-- Nothing is done in a stopped part. -/
theorem live_stopped {s : State} (h : s.running = false) (f : State → State) : s.live f = s := by simp [State.live, h]

/-- Settles O1. -/
theorem stepTakesTheFrontCommandOrIdles : Obligations.StepTakesTheFrontCommandOrIdles := by
  unfold Obligations.StepTakesTheFrontCommandOrIdles
  refine ⟨fun i rest s h => ?_, fun s h => ?_⟩ <;> simp only [step, h]

/-- Settles O2: the work of a command is done by `live`, which leaves a stopped part alone. -/
theorem commandsStopOnlyOnNoSuchEvent : Obligations.CommandsStopOnlyOnNoSuchEvent := by
  unfold Obligations.CommandsStopOnlyOnNoSuchEvent
  refine ⟨fun i s => ⟨fun h => exec_next h s, fun h => exec_fault h s⟩, fun i s hrun h hc hs hr => ?_⟩
  obtain ⟨f, hf⟩ := exec_live h hc hs hr
  rw [hf, live_stopped hrun]

end Sys2Proof.Machine
end

section
/-!
The laws of the corridor's operations: what each leaves of both links (`LinksKept`), and the clock, the plan store, the
in-force records and the counters after it.
-/

namespace Sys2Proof.Machine

variable {s t w : State}

/-! ### Both links -/

/-- The part runs on, and the host port but for its notices and every unit's side of the kerb link are as they were. -/
structure LinksKept (s t : State) : Prop where
  running : t.running = s.running
  freeCount : t.freeCount = s.freeCount
  pending : t.pending = s.pending
  receiver : t.host.receiver = s.host.receiver
  requests : t.host.requests = s.host.requests
  executing : t.host.executing = s.host.executing
  reply : t.host.reply = s.host.reply
  transmission : t.host.transmission = s.host.transmission
  filter : t.host.filter = s.host.filter
  restartHold : t.host.restartHold = s.host.restartHold
  kerb : KerbKept s t

namespace LinksKept

theorem ofSteady (h : Steady s t) : LinksKept s t :=
  ⟨h.running, h.freeCount, h.pending, h.receiver, h.requests, h.executing, h.reply, h.transmission, h.filter,
    h.restartHold, (Undisturbed.ofSteady h).kerb⟩

theorem refl (s : State) : LinksKept s s := ofSteady (.refl s)

theorem trans (h : LinksKept s t) (k : LinksKept t w) : LinksKept s w where
  running := k.running.trans h.running
  freeCount := k.freeCount.trans h.freeCount
  pending := k.pending.trans h.pending
  receiver := k.receiver.trans h.receiver
  requests := k.requests.trans h.requests
  executing := k.executing.trans h.executing
  reply := k.reply.trans h.reply
  transmission := k.transmission.trans h.transmission
  filter := k.filter.trans h.filter
  restartHold := k.restartHold.trans h.restartHold
  kerb := ⟨fun u => (k.kerb.links u).trans (h.kerb.links u), k.kerb.lastPolled.trans h.kerb.lastPolled,
    k.kerb.resting.trans h.kerb.resting, k.kerb.ended.trans h.kerb.ended, k.kerb.transaction.trans h.kerb.transaction⟩

/-- What follows a corridor operation, made after it. -/
theorem after (k : LinksKept t w) (h : LinksKept s t) : LinksKept s w := h.trans k

/-- After the transmitter's look both links are still undisturbed. -/
theorem transmit (h : LinksKept s t) : KerbKept s t.transmit ∧ PortKept s t.transmit :=
  ⟨⟨h.kerb.links, h.kerb.lastPolled, h.kerb.resting, h.kerb.ended, h.kerb.transaction⟩,
    let k := transmit_portKept t
    ⟨k.receiver.trans h.receiver, k.requests.trans h.requests, k.executing.trans h.executing, k.filter.trans h.filter,
      k.restartHold.trans h.restartHold⟩⟩

end LinksKept

/-- Nothing of the links follows from the clock, the plan store, the announced events and the corridor's counters. -/
theorem linksKept_corridor (s : State) (k : Clock) (p : PlanStore) (l : List Due) (n : CorridorCounters) :
    LinksKept s { s with clock := k, store := p, due := l, counters := { s.counters with corridor := n } } :=
  ⟨rfl, rfl, rfl, rfl, rfl, rfl, rfl, rfl, rfl, rfl, ⟨fun _ => rfl, rfl, rfl, rfl, rfl⟩⟩

variable (s)

theorem without_links (d : Due) : LinksKept s (s.without d) := linksKept_corridor s _ _ _ _

theorem withClock_links (k : Clock) : LinksKept s { s with clock := k } := linksKept_corridor s _ _ _ _

theorem countCorridor_links (f : CorridorCounters → CorridorCounters) : LinksKept s (s.countCorridor f) :=
  linksKept_corridor s _ _ _ _

/-! ### The quiet flag (R20) -/

@[simp] theorem reviewQuiet_clock :
    s.reviewQuiet.clock = { s.clock with quiet := quietNow s.clock s.store.headerInForce } := by
  unfold State.reviewQuiet; dsimp only; split
  · rename_i h; rw [← h]
  · rfl

@[simp] theorem reviewQuiet_store : s.reviewQuiet.store = s.store := by unfold State.reviewQuiet; dsimp only; split <;> rfl
@[simp] theorem reviewQuiet_calls : s.reviewQuiet.calls = s.calls := by unfold State.reviewQuiet; dsimp only; split <;> rfl
@[simp] theorem reviewQuiet_crossings : s.reviewQuiet.crossings = s.crossings := by
  unfold State.reviewQuiet; dsimp only; split <;> rfl
@[simp] theorem reviewQuiet_groups : s.reviewQuiet.groups = s.groups := by unfold State.reviewQuiet; dsimp only; split <;> rfl
@[simp] theorem reviewQuiet_kerb : s.reviewQuiet.kerb = s.kerb := by unfold State.reviewQuiet; dsimp only; split <;> rfl
@[simp] theorem reviewQuiet_counters : s.reviewQuiet.counters = s.counters := by
  unfold State.reviewQuiet; dsimp only; split <;> rfl
@[simp] theorem reviewQuiet_host : s.reviewQuiet.host = s.host := by unfold State.reviewQuiet; dsimp only; split <;> rfl
@[simp] theorem reviewQuiet_due : s.reviewQuiet.due = s.due := by unfold State.reviewQuiet; dsimp only; split <;> rfl
@[simp] theorem reviewQuiet_crossing (c : CrossingId) : s.reviewQuiet.crossing c = s.crossing c :=
  crossing_of_eq (reviewQuiet_crossings s) c

/-- Where the quiet flag does not change, no level is computed. -/
theorem reviewQuiet_units (h : s.reviewQuiet.clock.quiet = s.clock.quiet) : s.reviewQuiet.units = s.units := by
  rw [reviewQuiet_clock] at h
  unfold State.reviewQuiet
  rw [if_pos h.symm]

theorem reviewQuiet_links : LinksKept s s.reviewQuiet := by
  unfold State.reviewQuiet; dsimp only; split
  · exact .refl s
  · exact .after (.ofSteady (relevelAll_steady _)) (withClock_links s _)

/-! ### The other clock events (R13, R19) -/

theorem advanceSecond_links : LinksKept s s.advanceSecond := by
  unfold State.advanceSecond; split
  · dsimp only; split
    · exact withClock_links s _
    · exact .after (reviewQuiet_links _) (withClock_links s _)
  · exact .refl s

theorem dropToFree_links (cause : ModeCause) : LinksKept s (s.dropToFree cause) :=
  .after (.ofSteady (raise_steady _ _)) (withClock_links s _)

theorem expireWatchdog_links : LinksKept s s.expireWatchdog := by
  unfold State.expireWatchdog; split
  · exact .after (.ofSteady (evaluateAll_steady _)) (dropToFree_links s _)
  · exact .refl s

theorem bandEndEvent_steady (c : CrossingId) : Steady s (s.bandEndEvent c) := by
  unfold State.bandEndEvent; split
  · exact evaluate_steady s c
  · exact .refl s

/-! ### The boundary (R18) -/

theorem deferAdoption_links (sel : Selection) (f : Failing) : LinksKept s (s.deferAdoption sel f) :=
  .after (.ofSteady (raise_steady _ _)) (linksKept_corridor s _ _ _ _)

/-- An adoption touches a unit's audible items alone (R159). -/
theorem rescheduled_link (n : Nat) (k : KerbUnit) : (rescheduled n k).link = k.link := by
  unfold rescheduled; split <;> rfl

theorem install_links (sel : Selection) (h : Header) : LinksKept s (s.install sel h) where
  running := rfl
  freeCount := rfl
  pending := rfl
  receiver := rfl
  requests := rfl
  executing := rfl
  reply := rfl
  transmission := rfl
  filter := rfl
  restartHold := rfl
  kerb := ⟨fun u => by simp [State.unit, State.install, rescheduled_link], rfl, rfl, rfl, rfl⟩

theorem dropIfDisallowed_links (h : Header) : LinksKept s (s.dropIfDisallowed h) := by
  unfold State.dropIfDisallowed; split
  · exact dropToFree_links s _
  · exact .refl s

/-- The adoption as it stands when the crossings are settled: every block's items replaced, PLAN_ADOPTED sent, and the mode
dropped where the header does not allow coordination. -/
def State.adopting (s : State) (sel : Selection) (h : Header) : State :=
  ((s.install sel h).announceAdoption sel h (decide (s.clock.cycle ≠ some h.cycle)) s.store.deferral).dropIfDisallowed h

theorem adopt_eq (sel : Selection) (h : Header) :
    s.adopt sel h = (allCrossings.foldl State.settleAdoption (s.adopting sel h)).reviewQuiet.relevelAll := rfl

theorem adopting_links (sel : Selection) (h : Header) : LinksKept s (s.adopting sel h) :=
  .after (dropIfDisallowed_links _ h) <| .after (.ofSteady (raise_steady _ _)) <|
    .after (countCorridor_links _ _) (install_links s sel h)

/-- Settling the crossings at an adoption is steady. -/
theorem settleAdoptions_steady : Steady s (allCrossings.foldl State.settleAdoption s) :=
  .foldl _ s fun s c => settleAdoption_steady s c

theorem adopt_links (sel : Selection) (h : Header) : LinksKept s (s.adopt sel h) := by
  rw [adopt_eq]
  exact .after (.ofSteady (relevelAll_steady _)) <| .after (reviewQuiet_links _) <|
    .after (.ofSteady (settleAdoptions_steady _)) (adopting_links s sel h)

theorem planBoundary_links : LinksKept s s.planBoundary.2 := by
  unfold State.planBoundary; split
  · exact .refl s
  · split
    · exact .refl s
    · dsimp only; split
      · exact adopt_links s _ _
      · split
        · exact adopt_links s _ _
        · exact deferAdoption_links s _ _

theorem applyStep_links (d : Int) : LinksKept s (s.applyStep d) :=
  .after (.ofSteady (raise_steady _ _)) <| .after (countCorridor_links _ _) (withClock_links s _)

theorem correct_links (deferred : Bool) : LinksKept s (s.correct deferred).2 := by
  unfold State.correct; dsimp only; split
  · exact withClock_links s _
  · exact applyStep_links s _

theorem clockBoundary_links (o : PlanOutcome) : LinksKept s (s.clockBoundary o).2 := by
  unfold State.clockBoundary; split
  · exact correct_links s _
  · exact .refl s

theorem reviewGroup_steady (before : Vector Group 4) (g : GroupId) : Steady s (s.reviewGroup before g) := by
  unfold State.reviewGroup; split
  · exact .refl s
  · exact evaluateGroup_steady s g

/-- The announced events with which the evaluations of a boundary begin (R5). -/
def State.withDueFor (s : State) (timeStepped : Bool) : State :=
  if timeStepped then { s with due := withoutBandEnds s.due } else s

/-- But for the band ends that give way, the evaluations of a boundary are steady. -/
theorem evaluateBoundary_steady (before : Vector Group 4) (timeStepped : Bool) :
    Steady (s.withDueFor timeStepped) (s.evaluateBoundary before timeStepped) :=
  .after (evaluateAll_steady _) (.foldl _ _ fun s g => reviewGroup_steady s before g)

@[simp] theorem withDueFor_clock (b : Bool) : (s.withDueFor b).clock = s.clock := by cases b <;> rfl
@[simp] theorem withDueFor_store (b : Bool) : (s.withDueFor b).store = s.store := by cases b <;> rfl
@[simp] theorem withDueFor_crossing (b : Bool) (c : CrossingId) : (s.withDueFor b).crossing c = s.crossing c := by cases b <;> rfl
@[simp] theorem withDueFor_group (b : Bool) (g : GroupId) : (s.withDueFor b).group g = s.group g := by cases b <;> rfl
@[simp] theorem withDueFor_callOf (b : Bool) (c : CrossingId) : (s.withDueFor b).callOf c = s.callOf c := by cases b <;> rfl
@[simp] theorem withDueFor_counters (b : Bool) : (s.withDueFor b).counters = s.counters := by cases b <;> rfl

theorem withDueFor_links (b : Bool) : LinksKept s (s.withDueFor b) := by
  cases b
  · exact .refl s
  · exact linksKept_corridor s _ _ _ _

theorem evaluateBoundary_links (before : Vector Group 4) (timeStepped : Bool) :
    LinksKept s (s.evaluateBoundary before timeStepped) :=
  .after (.ofSteady (evaluateBoundary_steady s before timeStepped)) (withDueFor_links s timeStepped)

/-- The state in which a boundary's work begins: the hold is cleared (R18). -/
def State.unheld (s : State) : State := { s with clock := { s.clock with hold := false } }

theorem boundary_eq :
    s.boundary = (s.unheld.planBoundary.2.clockBoundary s.unheld.planBoundary.1).2.evaluateBoundary s.groups
      (s.unheld.planBoundary.1.isAdoption || (s.unheld.planBoundary.2.clockBoundary s.unheld.planBoundary.1).1) := rfl

theorem boundary_links : LinksKept s s.boundary := by
  rw [boundary_eq]
  exact .after (evaluateBoundary_links _ _ _) <| .after (clockBoundary_links _ _) <|
    .after (planBoundary_links _) (withClock_links s _)

/-! ### SYNC (R8 to R11) -/

theorem takeTimeOfDay_links (n : Nat) : LinksKept s (s.takeTimeOfDay n) :=
  .after (reviewQuiet_links _) <| .after (countCorridor_links _ _) (withClock_links s _)

theorem setTime_links (n : Nat) : LinksKept s (s.setTime n) := linksKept_corridor s _ _ _ _

theorem timeStep_links : LinksKept s s.timeStep :=
  .after (.ofSteady (evaluateAll_steady _)) (linksKept_corridor s _ _ _ _)

theorem enterCoordinated_links (n : Nat) : LinksKept s (s.enterCoordinated n) :=
  .after (timeStep_links _) <| .after (.ofSteady (raise_steady _ _)) <| .after (withClock_links _ _) (setTime_links s n)

theorem setCorridorTime_links (n : Nat) : LinksKept s (s.setCorridorTime n) :=
  .after (timeStep_links _) (setTime_links s n)

theorem takeReference_links (n : Nat) : LinksKept s (s.takeReference n).2 := by
  unfold State.takeReference; split
  · split
    · exact .refl s
    · split
      · exact .refl s
      · split
        · dsimp only; exact enterCoordinated_links s n
        · dsimp only; exact setCorridorTime_links s n
  · dsimp only; split <;> exact withClock_links s _

end Sys2Proof.Machine
end

section
/-!
The laws of the clock and the plan, kept by every step (O55). `Clock.Lawful` is the part of the laws that the clock alone
decides; `State.Planned` is all of them in a running part.
-/

namespace Sys2Proof.Machine

variable {s t : State}

/-- A value modulo Y lies in 0 to Y - 1. -/
theorem modY_lt (a : Int) {y : Nat} (h : 0 < y) : modY a y < y := by
  have lt : a % (y : Int) < y := Int.emod_lt_of_pos a (by omega)
  have ge : 0 ≤ a % (y : Int) := Int.emod_nonneg a (by omega)
  unfold modY
  omega

/-! ### The clock's laws (R2, R3, R16, R19) -/

/-- The laws of a clock, where `inForce` says whether a selection is in force. -/
structure Clock.Lawful (k : Clock) (inForce : Bool) : Prop where
  cycle : k.cycle.isSome = inForce
  range : ∀ y, k.cycle = some y → 400 ≤ y ∧ y ≤ 2400 ∧ k.corridorTime < y
  bare : k.cycle = none → k.corridorTime = 0 ∧ k.mode = .free
  day : k.timeOfDay < 86400
  phase : k.phase ≤ 9
  watchdog : k.watchdog ≤ 65535
  zeroSteps : k.zeroSteps ≤ 2

theorem timeLaw_iff (s : State) : s.TimeLaw ↔ s.clock.Lawful s.store.inForce.isSome :=
  ⟨fun ⟨a, b, c, d, e, f, g⟩ => ⟨a, b, c, d, e, f, g⟩, fun h => ⟨h.1, h.2, h.3, h.4, h.5, h.6, h.7⟩⟩

namespace Clock.Lawful

variable {k : Clock} {b : Bool}

theorem initial : Clock.initial.Lawful false := by
  constructor <;> simp [Clock.initial]

/-- In COORDINATED mode there is a cycle length. -/
theorem cycle_of_coordinated (h : k.Lawful b) (m : k.mode = .coordinated) : ∃ y, k.cycle = some y := by
  cases e : k.cycle with
  | none => exact absurd (h.bare e).2 (by simp [m])
  | some y => exact ⟨y, rfl⟩

/-- The flags, the correction, the count N and a time of day in range are free. -/
theorem retimed (h : k.Lawful b) {k' : Clock} (cycle : k'.cycle = k.cycle) (time : k'.corridorTime = k.corridorTime)
    (mode : k'.mode = k.mode ∨ k'.mode = .free) (day : k'.timeOfDay < 86400) (phase : k'.phase ≤ 9)
    (watchdog : k'.watchdog ≤ 65535) (zeroSteps : k'.zeroSteps ≤ 2) : k'.Lawful b where
  cycle := cycle ▸ h.cycle
  range y e := by rw [time]; exact h.range y (cycle ▸ e)
  bare e := by
    obtain ⟨h0, hm⟩ := h.bare (cycle ▸ e)
    exact ⟨time.trans h0, mode.elim (·.trans hm) id⟩
  day := day
  phase := phase
  watchdog := watchdog
  zeroSteps := zeroSteps

theorem tick (h : k.Lawful b) : (k.tick b).Lawful b where
  cycle := h.cycle
  range y e := by
    change k.cycle = some y at e
    obtain ⟨lo, hi, lt⟩ := h.range y e
    have hb : b = true := by rw [← h.cycle, e]; rfl
    simp only [Clock.tick, hb, e, if_true, Option.getD_some]
    refine ⟨lo, hi, ?_⟩
    split <;> omega
  bare e := by
    change k.cycle = none at e
    have hb : b = false := by rw [← h.cycle, e]; rfl
    simpa [Clock.tick, hb] using h.bare e
  day := h.day
  phase := Nat.min_le_right _ _
  watchdog := Nat.min_le_right _ _
  zeroSteps := h.zeroSteps

theorem countZeroStep (h : k.Lawful b) : k.countZeroStep.Lawful b := by
  unfold Clock.countZeroStep
  split_ifs <;> exact h.retimed rfl rfl (.inl rfl) h.day h.phase h.watchdog (by simp [h.zeroSteps])

/-- A step leaves T in 0 to Y - 1 (R15). -/
theorem applyStep (h : k.Lawful b) {y : Nat} (e : k.cycle = some y) (d : Int) : (k.applyStep d).Lawful b where
  cycle := h.cycle
  range y' e' := by
    obtain rfl : y = y' := by simpa [Clock.applyStep, e] using e'
    obtain ⟨lo, hi, -⟩ := h.range y e
    refine ⟨lo, hi, ?_⟩
    simp only [Clock.applyStep, e, Option.getD_some]
    exact modY_lt d (by omega)
  bare e' := by simp [Clock.applyStep, e] at e'
  day := h.day
  phase := h.phase
  watchdog := h.watchdog
  zeroSteps := Nat.zero_le _

/-- The clock under an adopted header keeps its laws: a changed Y starts T from 0 (R41). -/
theorem adopt (h : k.Lawful b) {d : Header} (hd : d.CycleInRange) : (k.adopt d).Lawful true := by
  unfold Clock.adopt
  split
  · rename_i e
    obtain ⟨lo, hi, lt⟩ := h.range _ e
    refine ⟨by simp [e], fun y e' => ?_, fun e' => ?_, h.day, h.phase, h.watchdog, h.zeroSteps⟩
    · exact h.range y e'
    · simp [e] at e'
  · refine ⟨rfl, fun y e' => ?_, fun e' => (by simp at e'), h.day, h.phase, h.watchdog, Nat.zero_le _⟩
    obtain rfl : d.cycle = y := by simpa using e'
    obtain ⟨lo, hi⟩ := hd
    exact ⟨lo, hi, Nat.lt_of_lt_of_le (Nat.succ_pos 399) lo⟩

/-- T set below Y, in either mode, where there is a Y (R6, R10). -/
theorem set (h : k.Lawful b) {y n : Nat} (e : k.cycle = some y) (hn : n < y) (m : Mode) (p : Int) {z : Nat} (hz : z ≤ 2) :
    Lawful { k with corridorTime := n, mode := m, correction := p, zeroSteps := z } b where
  cycle := h.cycle
  range y' e' := by
    obtain rfl : y = y' := by simpa [e] using e'
    obtain ⟨lo, hi, -⟩ := h.range y e
    exact ⟨lo, hi, hn⟩
  bare e' := by simp [e] at e'
  day := h.day
  phase := h.phase
  watchdog := h.watchdog
  zeroSteps := hz

end Clock.Lawful

end Sys2Proof.Machine
end

section
/-!
What of the corridor the commands of calls, crossings, kerb units and the host port leave as it was (`PlanKept`): the clock,
the plan store, the write in execution and every in-force record.
-/

namespace Sys2Proof.Machine

variable {s t w : State}

/-- The clock, the plan store, the write in execution and every in-force record are as they were, and the part runs on. -/
structure PlanKept (s t : State) : Prop where
  running : t.running = s.running
  clock : t.clock = s.clock
  store : t.store = s.store
  executing : t.host.executing = s.host.executing
  records : ∀ c, (t.crossing c).inForce = (s.crossing c).inForce

namespace PlanKept

theorem refl (s : State) : PlanKept s s := ⟨rfl, rfl, rfl, rfl, fun _ => rfl⟩

theorem ofSteady (h : Steady s t) : PlanKept s t := ⟨h.running, h.clock, h.store, h.executing, h.records⟩

theorem trans (h : PlanKept s t) (k : PlanKept t w) : PlanKept s w :=
  ⟨k.running.trans h.running, k.clock.trans h.clock, k.store.trans h.store, k.executing.trans h.executing,
    fun c => (k.records c).trans (h.records c)⟩

theorem after (k : PlanKept t w) (h : PlanKept s t) : PlanKept s w := h.trans k

end PlanKept

variable (s)

/-! ### The host port -/

/-- The port's receiver, requests, reply, transmitter, notices, filter and hold are no part of the plan. -/
theorem withHost_planKept {p : HostPort} (h : p.executing = s.host.executing) : PlanKept s { s with host := p } :=
  ⟨rfl, rfl, rfl, h, fun _ => rfl⟩

theorem respond_planKept (tag : Byte) (r : ReplyContent) : PlanKept s (s.respond tag r) := withHost_planKept s rfl

theorem done_planKept (tag : Byte) (b : DoneBody) : PlanKept s (s.done tag b) := respond_planKept s tag _

theorem refuse_planKept (tag : Byte) (r : RefusalReason) : PlanKept s (s.refuse tag r) := respond_planKept s tag _

theorem transmit_planKept : PlanKept s s.transmit := withHost_planKept s (transmit_portKept s).executing

theorem withCounters_planKept (n : Counters) : PlanKept s { s with counters := n } := ⟨rfl, rfl, rfl, rfl, fun _ => rfl⟩

theorem receiveFrame_planKept (bytes : List Byte) : PlanKept s (s.receiveFrame bytes) := by
  unfold State.receiveFrame; split
  · exact .refl s
  · split
    · unfold State.enqueue; split
      · exact withHost_planKept s rfl
      · exact .after (withCounters_planKept _ _) (withHost_planKept s rfl)
    · exact .after (withCounters_planKept _ _) (withHost_planKept s rfl)

theorem abandonFrame_planKept : PlanKept s s.abandonFrame := by
  unfold State.abandonFrame; split
  · exact .refl s
  · exact .after (withCounters_planKept _ _) (withHost_planKept s rfl)

theorem endTransmission_planKept : PlanKept s s.endTransmission := by
  unfold State.endTransmission; split
  · exact .refl s
  · exact withHost_planKept s rfl

theorem executeFilterWrite_planKept (fr : Frame) : PlanKept s (executeFilterWrite fr s) := by
  unfold executeFilterWrite; split
  · split
    · dsimp only; split
      · exact .after (done_planKept _ _ _) (withHost_planKept s rfl)
      · exact refuse_planKept s _ _
    · exact refuse_planKept s _ _
  · exact refuse_planKept s _ _

theorem executeRestart_planKept (fr : Frame) : PlanKept s (executeRestart fr s) := by
  unfold executeRestart; split
  · exact .after (done_planKept _ _ _) (withHost_planKept s rfl)
  · exact refuse_planKept s _ _

/-! ### Reports and counters -/

theorem executeStatus_planKept (fr : Frame) : PlanKept s (executeStatus fr s) := by
  unfold executeStatus; split
  · exact .after (done_planKept _ _ _) (withHost_planKept s rfl)
  · exact refuse_planKept s _ _

theorem executeCrossingStatus_planKept (fr : Frame) : PlanKept s (executeCrossingStatus fr s) := by
  unfold executeCrossingStatus; split
  · split
    · exact done_planKept s _ _
    · exact refuse_planKept s _ _
  · exact refuse_planKept s _ _

theorem executeUnitStatus_planKept (fr : Frame) : PlanKept s (executeUnitStatus fr s) := by
  unfold executeUnitStatus; split
  · split
    · exact refuse_planKept s _ _
    · split
      · exact refuse_planKept s _ _
      · exact done_planKept s _ _
  · exact refuse_planKept s _ _

theorem executeCounters_planKept (fr : Frame) : PlanKept s (executeCounters fr s) := by
  unfold executeCounters; split
  · split
    · unfold State.readCounters; split
      · exact refuse_planKept s _ _
      · exact .after (done_planKept _ _ _) (withCounters_planKept s _)
    · exact refuse_planKept s _ _
  · exact refuse_planKept s _ _

theorem executePlanRead_planKept (fr : Frame) : PlanKept s (executePlanRead fr s) := by
  unfold executePlanRead; split
  · split
    · exact refuse_planKept s _ _
    · split
      · exact refuse_planKept s _ _
      · exact done_planKept s _ _
  · exact refuse_planKept s _ _

/-! ### Calls and CROSSING CONTROL -/

theorem executeCall_planKept (fr : Frame) : PlanKept s (executeCall fr s) := by
  unfold executeCall; split
  · split
    · unfold State.call; split
      · exact .after (done_planKept _ _ _) (.ofSteady (offer_steady s _ _))
      · exact refuse_planKept s _ _
    · exact refuse_planKept s _ _
  · exact refuse_planKept s _ _

theorem cancel_planKept (tag : Byte) (c : CrossingId) : PlanKept s (s.cancel tag c) := by
  have h : Steady s (s.withdrawRemote c) := withCalls_steady s _
  unfold State.cancel; split
  · exact refuse_planKept s _ _
  · split
    · dsimp only; split
      · exact .after (done_planKept _ _ _) (.ofSteady (.after (testFailRecall_steady _ c) (.after (removeCall_steady _ c _) h)))
      · exact .after (done_planKept _ _ _) (.ofSteady h)
    · exact refuse_planKept s _ _

theorem executeCancel_planKept (fr : Frame) : PlanKept s (executeCancel fr s) := by
  unfold executeCancel; split
  · split
    · exact cancel_planKept s _ _
    · exact refuse_planKept s _ _
  · exact refuse_planKept s _ _

theorem restoreCrossing_steady (c : CrossingId) : Steady s (s.restoreCrossing c) := by
  have h := changeCrossing_steady s c (f := fun x => { x with faults := {}, recallTimer := none }) fun _ => rfl
  unfold State.restoreCrossing; dsimp only; split
  · exact .after (enterStartup_steady _ c _) h
  · exact .after (enterUntimed_steady _ c _ _) h

theorem control_planKept (tag : Byte) (c : CrossingId) (a : ControlAction) : PlanKept s (s.control tag c a) := by
  unfold State.control; split
  · exact .after (done_planKept _ _ _) (.ofSteady (enterTarget_steady s c _ _))
  · exact .after (done_planKept _ _ _) (.ofSteady (setPending_steady s c _ _))
  · exact .after (done_planKept _ _ _) (.ofSteady (restoreCrossing_steady s c))
  · exact refuse_planKept s _ _

theorem executeControl_planKept (fr : Frame) : PlanKept s (executeControl fr s) := by
  unfold executeControl; split
  · split
    · exact control_planKept s _ _ _
    · exact refuse_planKept s _ _
  · exact refuse_planKept s _ _

/-! ### The kerb link and the unit map -/

/-- Units and the kerb link master are no part of the plan. -/
theorem withKerb_planKept (v : Vector KerbUnit 32) (k : KerbLink) : PlanKept s { s with units := v, kerb := k } :=
  ⟨rfl, rfl, rfl, rfl, fun _ => rfl⟩

theorem changeUnit_planKept (u : UnitId) (f : KerbUnit → KerbUnit) : PlanKept s (s.changeUnit u f) := withKerb_planKept s _ _

theorem countUnit_planKept (u : UnitId) (f : UnitCounters → UnitCounters) : PlanKept s (s.countUnit u f) :=
  .ofSteady (countUnit_steady s u f)

theorem poll_planKept : PlanKept s s.poll := by
  unfold State.poll; split
  · exact .refl s
  · split
    · exact withKerb_planKept s _ _
    · split
      · exact .refl s
      · exact withKerb_planKept s _ _

theorem reportUnit_steady (u : UnitId) (m : Mapping) (before : UnitState) (cause : UnitCause) :
    Steady s (s.reportUnit u m before cause) := by
  unfold State.reportUnit; dsimp only; split
  · exact .refl s
  · split
    · exact .after (loseSample_steady _ u _) (raise_steady s _)
    · exact raise_steady s _

theorem missUnit_planKept (u : UnitId) (bad : Bool) : PlanKept s (s.missUnit u bad) := by
  have h := countUnit_planKept s u fun n =>
    { n with pollsMissed := satAdd n.pollsMissed 1, badReplies := satAdd n.badReplies (if bad then 1 else 0) }
  unfold State.missUnit; dsimp only
  generalize s.countUnit u _ = w at h ⊢
  split
  · exact h
  · split
    · exact .after (changeUnit_planKept _ u _) h
    · exact .after (.ofSteady (reviewWorking_steady _ _)) <| .after (.ofSteady (reportUnit_steady _ u _ _ _)) <|
        .after (changeUnit_planKept _ u _) h

theorem raiseStale_steady (u : UnitId) (stale : Bool) : Steady s (s.raiseStale u stale) := by
  unfold State.raiseStale; dsimp only; split
  · exact raise_steady s _
  · exact .refl s

theorem takeSample_steady (u : UnitId) (start : Time) (level : Nat) (short early : Bool) :
    Steady s (s.takeSample u start level short early) := by
  have h := Steady.after (countUnit_steady _ u fun n => { n with samplesTaken := satAdd n.samplesTaken 1 }) <|
    .after (relevel_steady _ u) (changeAudible_steady s u fun a => a.take start s.sampleInterval level short early)
  unfold State.takeSample; dsimp only; split
  · exact .after (raiseStale_steady _ u _) h
  · exact h

theorem sampleReply_steady (u : UnitId) (x : Transaction) (r : KerbReply) : Steady s (s.sampleReply u x r) := by
  unfold State.sampleReply; split
  · exact .refl s
  · split
    · exact .refl s
    · split
      · exact loseSample_steady s u _
      · exact .refl s
    · split
      · exact loseSample_steady s u _
      · split
        · split
          · exact takeSample_steady s u _ _ _ _
          · exact loseSample_steady s u _
        · exact .refl s

theorem delivered_steady (u : UnitId) (a : SampleAction) : Steady s (s.delivered u a) := by
  unfold State.delivered; split
  · exact changeAudible_steady s u _
  · exact .refl s

theorem deliver_steady (u : UnitId) : Steady s (s.deliver u) := by
  unfold State.deliver; split
  · split
    · split
      · exact .after (delivered_steady _ u _) (changeUnit_steady s u fun _ => rfl)
      · exact .refl s
    · exact .refl s
  · exact .refl s

theorem judgeStuck_planKept (u : UnitId) (m : Mapping) (r : KerbReply) : PlanKept s (s.judgeStuck u m r) := by
  unfold State.judgeStuck; dsimp only; split
  · exact changeUnit_planKept s u _
  · exact .after (.ofSteady (raise_steady _ _)) <| .after (countUnit_planKept _ u _) (changeUnit_planKept s u _)

theorem judgeAudio_planKept (u : UnitId) (m : Mapping) (r : KerbReply) : PlanKept s (s.judgeAudio u m r) := by
  unfold State.judgeAudio; split
  · exact .refl s
  · exact .after (.ofSteady (raise_steady _ _)) (changeUnit_planKept s u _)

theorem accountPresses_planKept (u : UnitId) (m : Mapping) (found : KerbUnit) (r : KerbReply) :
    PlanKept s (s.accountPresses u m found r) := by
  unfold State.accountPresses; dsimp only; split
  · exact .after (.ofSteady (handOver_steady _ _ _ _ _)) (changeUnit_planKept s u _)
  · exact changeUnit_planKept s u _

theorem goodReply_planKept (u : UnitId) (m : Mapping) (x : Transaction) (r : KerbReply) :
    PlanKept s (s.goodReply u m x r) := by
  have h := PlanKept.after (.ofSteady (deliver_steady _ u)) <| .after (.ofSteady (sampleReply_steady _ u x r)) <|
    .after (accountPresses_planKept _ u m (s.unit u) r) <| .after (judgeAudio_planKept _ u m r) <|
    .after (judgeStuck_planKept _ u m r) <|
    .after (.ofSteady (reportUnit_steady _ u m (s.unit u).state (goodCause (s.unit u).state)))
      (changeUnit_planKept s u KerbUnit.good)
  unfold State.goodReply; dsimp only; split
  · split
    · exact .after (changeUnit_planKept _ u _) h
    · exact .after (.ofSteady (reviewWorking_steady _ _)) <| .after (changeUnit_planKept _ u _) h
  · split
    · exact h
    · exact .after (.ofSteady (reviewWorking_steady _ _)) h

theorem endTransaction_planKept (e : Option UnitId) : PlanKept s (s.endTransaction e) := withKerb_planKept s _ _

theorem endInMiss_planKept (x : Transaction) (bad counted : Bool) : PlanKept s (s.endInMiss x bad counted) := by
  unfold State.endInMiss; dsimp only; split
  · exact endTransaction_planKept s _
  · exact .after (endTransaction_planKept _ _) (missUnit_planKept s _ _)

theorem receiveGood_planKept (frame : List Byte) : PlanKept s (s.receiveGood frame) := by
  unfold State.receiveGood; split
  · exact .refl s
  · dsimp only; split
    · split
      · exact endTransaction_planKept s _
      · split
        · exact endTransaction_planKept s _
        · exact .after (endTransaction_planKept _ _) (goodReply_planKept s _ _ _ _)
    · exact .refl s

theorem receiveBad_planKept (frame : List Byte) : PlanKept s (s.receiveBad frame) := by
  unfold State.receiveBad; split
  · exact .refl s
  · split
    · exact .refl s
    · exact endInMiss_planKept s _ _ _

theorem closeWindow_planKept (x : WindowContent) : PlanKept s (s.closeWindow x) := by
  unfold State.closeWindow; split
  · exact .refl s
  · exact endInMiss_planKept s _ _ _

theorem lateBytes_planKept : PlanKept s s.lateBytes := by
  unfold State.lateBytes; split
  · exact .after (withKerb_planKept _ _ _) (countUnit_planKept s _ _)
  · exact .refl s

theorem detachUnit_planKept (u : UnitId) (cleared : Bool) : PlanKept s (s.detachUnit u cleared) :=
  .after (t := (s.loseSample u false)) (withKerb_planKept _ _ _) (.ofSteady (loseSample_steady s u false))

theorem reviewConcerned_steady (old new : Option CrossingId) : Steady s (s.reviewConcerned old new) := by
  have h : Steady s (match old with
      | some c => s.reviewWorking c
      | none => s) := by
    cases old
    · exact .refl s
    · exact reviewWorking_steady s _
  unfold State.reviewConcerned; cases new with
  | none => exact h
  | some c =>
    dsimp only; split
    · exact h
    · exact .after (reviewWorking_steady _ _) h

theorem mapUnit_planKept (u : UnitId) (m : Mapping) : PlanKept s (s.mapUnit u m) := by
  unfold State.mapUnit
  exact .after (.ofSteady (reviewConcerned_steady _ _ _)) <| .after (.ofSteady (raise_steady _ _)) <|
    .after (.ofSteady (relevel_steady _ u)) <| .after (changeUnit_planKept _ u _) (detachUnit_planKept s u _)

theorem unmapUnit_planKept (u : UnitId) (m : Mapping) : PlanKept s (s.unmapUnit u m) := by
  unfold State.unmapUnit
  exact .after (.ofSteady (reviewConcerned_steady _ _ _)) <| .after (.ofSteady (raise_steady _ _)) <|
    .after (changeUnit_planKept _ u _) (detachUnit_planKept s u _)

theorem executeMap_planKept (fr : Frame) : PlanKept s (executeMap fr s) := by
  unfold executeMap; split
  · exact refuse_planKept s _ _
  · exact refuse_planKept s _ _
  · exact .after (done_planKept _ _ _) (mapUnit_planKept s _ _)
  · split
    · exact refuse_planKept s _ _
    · exact .after (done_planKept _ _ _) (unmapUnit_planKept s _ _)

/-! ### Announced events of units -/

theorem reviveUnit_planKept (u : UnitId) : PlanKept s (s.reviveUnit u) := by
  unfold State.reviveUnit; dsimp only; split
  · split
    · exact changeUnit_planKept s u _
    · exact .refl s
  · exact .refl s

theorem closeSample_steady (u : UnitId) : Steady s (s.closeSample u) := by
  unfold State.closeSample; split
  · split
    · exact closeSampleWindow_steady s u _
    · exact .refl s
  · exact .refl s

theorem becomeStale_steady (u : UnitId) : Steady s (s.becomeStale u) := by
  unfold State.becomeStale; split
  · exact .after (raiseStale_steady _ u _) (.after (relevel_steady _ u) (changeAudible_steady s u _))
  · exact .refl s

/-- The announced events that are no work of the corridor clock. -/
def Due.ofCrossingOrUnit : Due → Bool
  | .secondAdvance | .cycleBoundary | .boundaryDue | .watchdog => false
  | _ => true

theorem runDue_planKept {d : Due} (h : d.ofCrossingOrUnit = true) : PlanKept s (runDue d s) := by
  cases d with
  | secondAdvance | cycleBoundary | boundaryDue | watchdog => cases h
  | intervalEnd c => exact .ofSteady (endInterval_steady s c)
  | flashHalf c => exact .ofSteady (changeFlashHalf_steady s c)
  | mismatch c lamp cls => exact .ofSteady (faultEvent_steady s c lamp cls)
  | conflict c => exact .ofSteady (faultEvent_steady s c _ _)
  | greenExpiry c => exact .ofSteady (expireGreen_steady s c)
  | bandEnd c => exact .ofSteady (bandEndEvent_steady s c)
  | notBefore c => exact .ofSteady (arriveNotBefore_steady s c)
  | recallExpiry c => exact .ofSteady (expireRecall_steady s c)
  | spacing g => exact .ofSteady (expireSpacing_steady s g)
  | pairing g => exact .ofSteady (closePairing_steady s g)
  | revival u => exact reviveUnit_planKept s u
  | windowClose u => exact .ofSteady (closeSample_steady s u)
  | stale u => exact .ofSteady (becomeStale_steady s u)

/-- The part runs on through the work of an announced event. -/
theorem runDue_running (d : Due) : (runDue d s).running = s.running := by
  cases d with
  | secondAdvance => exact (advanceSecond_links s).running
  | cycleBoundary | boundaryDue => exact (boundary_links s).running
  | watchdog => exact (expireWatchdog_links s).running
  | _ => exact (runDue_planKept s rfl).running

end Sys2Proof.Machine
end

section
/-!
The clock and the plan under every step (O55): `State.Planned` is what the laws say of a running part, each operation of the
corridor clock and of the plan store keeps it, and every other one leaves all that it speaks of.
-/

namespace Sys2Proof.Machine

/-! ### The plan store's banks -/

theorem changeBank_header_self (p : PlanStore) (b : BankId) (f : Bank → Bank) :
    (p.changeBank b f).header b = (f (p.banks[b])).header.present := by
  simp [PlanStore.changeBank, PlanStore.header]

theorem changeBank_header_other (p : PlanStore) {b b' : BankId} (f : Bank → Bank) (h : b ≠ b') :
    (p.changeBank b f).header b' = p.header b' := by
  simp [PlanStore.changeBank, PlanStore.header, change_get_ne _ _ h]

theorem changeBank_recordIn_other (p : PlanStore) {b b' : BankId} (f : Bank → Bank) (h : b ≠ b') (c : CrossingId) :
    (p.changeBank b f).recordIn b' c = p.recordIn b' c := by
  simp [PlanStore.changeBank, PlanStore.recordIn, change_get_ne _ _ h]

/-- A selection that does not name a bank has it neither as base nor as overlay. -/
theorem not_names {sel : Selection} {b : BankId} (h : sel.names b = false) : b ≠ sel.base ∧ sel.overlay ≠ some b := by
  simp only [Selection.names, Bool.or_eq_false_iff, decide_eq_false_iff_not] at h
  exact ⟨Ne.symm h.1, h.2⟩

/-- A bank not in use is neither base nor overlay of the selection in force or of the pending one (R24). -/
theorem not_inUse {p : PlanStore} {b : BankId} (h : p.inUse b = false) :
    (∀ sel, p.inForce = some sel → b ≠ sel.base ∧ sel.overlay ≠ some b) ∧
      (∀ sel, p.pendingSelection = some sel → b ≠ sel.base ∧ sel.overlay ≠ some b) := by
  simp only [PlanStore.inUse, Bool.or_eq_false_iff] at h
  refine ⟨fun sel e => ?_, fun sel e => ?_⟩
  · have := h.1; rw [e] at this; exact not_names this
  · have := h.2; rw [e] at this; exact not_names this

/-- The effective record of a crossing rests on the records of the banks the selection names (R35). -/
theorem effective_congr {p q : PlanStore} {sel : Selection} {c : CrossingId}
    (base : q.recordIn sel.base c = p.recordIn sel.base c)
    (overlay : ∀ o, sel.overlay = some o → q.recordIn o c = p.recordIn o c) : q.effective sel c = p.effective sel c := by
  unfold PlanStore.effective
  cases h : sel.overlay with
  | none => simp [base]
  | some o => simp [base, overlay o h]

/-- Changing a bank that a selection does not name leaves what it resolves to. -/
theorem changeBank_effective (p : PlanStore) {b : BankId} (f : Bank → Bank) {sel : Selection}
    (h : b ≠ sel.base ∧ sel.overlay ≠ some b) (c : CrossingId) : (p.changeBank b f).effective sel c = p.effective sel c :=
  effective_congr (changeBank_recordIn_other p f h.1 c) fun _ e =>
    changeBank_recordIn_other p f (fun e' => h.2 (e.trans (congrArg some e'.symm))) c

/-- An offered header that passes R25 has its cycle length in range. -/
theorem offeredHeader_inRange {l : List Byte} {d : Header} (h : offeredHeader l = some d) : d.CycleInRange := by
  unfold offeredHeader at h
  split at h
  · rename_i hr
    simp only [Header.inRange, Bool.and_eq_true, decide_eq_true_eq] at hr
    obtain ⟨-, ⟨⟨⟨⟨⟨⟨⟨lo, hi⟩, -⟩, -⟩, -⟩, -⟩, -⟩, -⟩⟩ := hr
    rw [← Option.some.inj h]
    exact ⟨lo, hi⟩
  · cases h

/-- A validated header has its cycle length in range (R30). -/
theorem validate_inRange {p : PlanStore} {b : BankId} {slot : Nat} {l : List Byte} {d : Header}
    (h : p.validate b slot l = .valid (.header d)) : d.CycleInRange := by
  unfold PlanStore.validate at h
  split at h
  · unfold validateRecord at h
    split at h
    · cases h
    · split at h <;> cases h
  · split at h
    · rename_i e; cases h; exact offeredHeader_inRange e
    · cases h

/-! ### The laws of a running part -/

/-- A running part whose headers, clock and plan keep their laws. -/
structure State.Planned (s : State) : Prop where
  running : s.running = true
  headers : s.HeaderLaw
  clock : s.clock.Lawful s.store.inForce.isSome
  plan : s.PlanLaw

variable {s t : State}

namespace State.Planned

/-- The laws speak of the plan store, the write in execution, the in-force records and the clock's own laws alone. -/
theorem retimed (h : s.Planned) (running : t.running = s.running) (clock : t.clock.Lawful s.store.inForce.isSome)
    (store : t.store = s.store) (executing : t.host.executing = s.host.executing)
    (records : ∀ c, (t.crossing c).inForce = (s.crossing c).inForce) : t.Planned where
  running := running.trans h.running
  headers := by unfold State.HeaderLaw; rw [store, executing]; exact h.headers
  clock := by rw [store]; exact clock
  plan := by unfold State.PlanLaw; simp only [store, executing, records]; exact h.plan

theorem kept (h : s.Planned) (k : PlanKept s t) : t.Planned :=
  h.retimed k.running (k.clock ▸ h.clock) k.store k.executing k.records

theorem steady (h : s.Planned) (k : Steady s t) : t.Planned := h.kept (.ofSteady k)

/-- The clock replaced by another that keeps its laws. -/
theorem withClock (h : s.Planned) {k : Clock} (hk : k.Lawful s.store.inForce.isSome) : ({ s with clock := k }).Planned :=
  h.retimed rfl hk rfl rfl fun _ => rfl

theorem withDue (h : s.Planned) (l : List Due) : ({ s with due := l }).Planned := h.kept ⟨rfl, rfl, rfl, rfl, fun _ => rfl⟩

theorem countCorridor (h : s.Planned) (f : CorridorCounters → CorridorCounters) : (s.countCorridor f).Planned :=
  h.kept (withCounters_planKept s _)

/-! ### The clock's events -/

theorem reviewQuiet (h : s.Planned) : s.reviewQuiet.Planned :=
  h.retimed (reviewQuiet_links s).running
    (by rw [reviewQuiet_clock]
        exact h.clock.retimed rfl rfl (.inl rfl) h.clock.day h.clock.phase h.clock.watchdog h.clock.zeroSteps)
    (reviewQuiet_store s) (reviewQuiet_links s).executing fun c => by rw [reviewQuiet_crossing]

theorem advanceSecond (h : s.Planned) : s.advanceSecond.Planned := by
  have h' : ({ s with clock := { s.clock with phase := 0, timeOfDay := (s.clock.timeOfDay + 1) % 86400 } }).Planned :=
    h.withClock (h.clock.retimed rfl rfl (.inl rfl) (Nat.mod_lt _ (by decide)) (Nat.zero_le _) h.clock.watchdog
      h.clock.zeroSteps)
  unfold State.advanceSecond; split
  · dsimp only; split
    · exact h'
    · exact h'.reviewQuiet
  · exact h

theorem dropToFree (h : s.Planned) (cause : ModeCause) : (s.dropToFree cause).Planned := by
  have h' : ({ s with clock := { s.clock with mode := .free, correction := 0, zeroSteps := 0 } }).Planned :=
    h.withClock (h.clock.retimed rfl rfl (.inr rfl) h.clock.day h.clock.phase h.clock.watchdog (Nat.zero_le _))
  exact h'.steady (raise_steady _ _)

theorem expireWatchdog (h : s.Planned) : s.expireWatchdog.Planned := by
  unfold State.expireWatchdog; split
  · exact (h.dropToFree _).steady (evaluateAll_steady _)
  · exact h

/-! ### The boundary -/

theorem unheld (h : s.Planned) : s.unheld.Planned :=
  h.withClock (h.clock.retimed rfl rfl (.inl rfl) h.clock.day h.clock.phase h.clock.watchdog h.clock.zeroSteps)

theorem deferAdoption (h : s.Planned) (sel : Selection) (f : Failing) : (s.deferAdoption sel f).Planned := by
  refine State.Planned.steady ?_ (raise_steady _ _)
  exact ⟨h.running, h.headers,
    h.clock.retimed rfl rfl (.inl rfl) h.clock.day h.clock.phase h.clock.watchdog h.clock.zeroSteps, h.plan⟩

theorem receive_inForce (x : Crossing) (r : Option InForce) : (x.receive r).inForce = r := by
  cases r <;> rfl

/-- The pending selection adopted: what is in force is what was pending, and every record is the one it resolves to. -/
theorem install (h : s.Planned) {sel : Selection} {d : Header} (hp : s.store.pendingSelection = some sel)
    (hd : s.store.header sel.base = some d) : (s.install sel d).Planned where
  running := h.running
  headers := h.headers
  clock := h.clock.adopt (h.headers.1 _ _ hd)
  plan := by
    obtain ⟨writing, -, -, -⟩ := h.plan
    refine ⟨fun w hw => ?_, fun sel' e => ?_, fun sel' e => ?_, fun c => ?_⟩
    · have := writing w hw
      simp only [PlanStore.inUse, hp, Option.any_some, Bool.or_eq_false_iff] at this
      simp [State.install, PlanStore.adopt, PlanStore.inUse, this.2]
    · obtain rfl : sel = sel' := Option.some.inj e
      exact Option.isSome_iff_exists.2 ⟨d, hd⟩
    · cases e
    · simp [State.install, State.crossing, handRecords, receive_inForce, PlanStore.adopt]
      rfl

theorem dropIfDisallowed (h : s.Planned) (d : Header) : (s.dropIfDisallowed d).Planned := by
  unfold State.dropIfDisallowed; split
  · exact h.dropToFree _
  · exact h

theorem adopt (h : s.Planned) {sel : Selection} {d : Header} (hp : s.store.pendingSelection = some sel)
    (hd : s.store.header sel.base = some d) : (s.adopt sel d).Planned := by
  rw [adopt_eq]
  have h' : (s.adopting sel d).Planned :=
    (((h.install hp hd).countCorridor _).steady (raise_steady _ _)).dropIfDisallowed d
  exact (h'.steady (settleAdoptions_steady _)).reviewQuiet.steady (relevelAll_steady _)

theorem planBoundary (h : s.Planned) : s.planBoundary.2.Planned := by
  unfold State.planBoundary; split
  · exact h
  · rename_i sel hp
    split
    · exact h
    · rename_i d hd
      dsimp only; split
      · exact h.adopt hp hd
      · split
        · exact h.adopt hp hd
        · exact h.deferAdoption _ _

theorem correct (h : s.Planned) (m : s.clock.mode = .coordinated) (deferred : Bool) : (s.correct deferred).2.Planned := by
  obtain ⟨y, hy⟩ := h.clock.cycle_of_coordinated m
  unfold State.correct; dsimp only; split
  · exact h.withClock h.clock.countZeroStep
  · exact ((h.withClock (h.clock.applyStep hy _)).countCorridor _).steady (raise_steady _ _)

theorem clockBoundary (h : s.Planned) (o : PlanOutcome) : (s.clockBoundary o).2.Planned := by
  unfold State.clockBoundary; split
  · rename_i m; exact h.correct m.1 _
  · exact h

theorem withDueFor (h : s.Planned) (b : Bool) : (s.withDueFor b).Planned := by
  cases b
  · exact h
  · exact h.withDue _

theorem boundary (h : s.Planned) : s.boundary.Planned := by
  rw [boundary_eq]
  exact ((h.unheld.planBoundary.clockBoundary _).withDueFor _).steady (evaluateBoundary_steady _ _ _)

/-! ### The decisecond event -/

theorem runDue (h : s.Planned) (d : Due) : (runDue d s).Planned := by
  cases d with
  | secondAdvance => exact h.advanceSecond
  | cycleBoundary | boundaryDue => exact h.boundary
  | watchdog => exact h.expireWatchdog
  | _ => exact h.kept (runDue_planKept s rfl)

theorem take (h : s.Planned) (d : Due) {f : State → State} (hf : ∀ {s : State}, s.Planned → (f s).Planned) :
    (s.take d f).Planned := by
  unfold State.take; split
  · exact hf (h.withDue _)
  · exact h

theorem settle (h : s.Planned) : s.settle.Planned :=
  withDue (foldl_keeps (P := State.Planned) s.due s h fun _ d k =>
    (k.take d fun k => k.runDue d).kept (transmit_planKept _)) []

theorem advance (h : s.Planned) (inputs : ProvingInputs) : (s.advance inputs).Planned :=
  h.retimed rfl h.clock.tick rfl rfl fun c => by simp [State.advance, State.crossing, Crossing.tick]

theorem tick (h : s.Planned) (inputs : ProvingInputs) : (s.tick inputs).Planned :=
  ((h.settle.advance inputs).withDue _).steady (grantSamples_steady _)

/-! ### SYNC -/

theorem takeTimeOfDay (h : s.Planned) {n : Nat} (hn : n < 86400) : (s.takeTimeOfDay n).Planned := by
  have h' : ({ s with clock := { s.clock with timeOfDay := n, phase := 0, timeValid := true, watchdog := 0 } }).Planned :=
    h.withClock (h.clock.retimed rfl rfl (.inl rfl) hn (Nat.zero_le _) (Nat.zero_le _) h.clock.zeroSteps)
  exact (h'.countCorridor _).reviewQuiet

theorem timeStep (h : s.Planned) : s.timeStep.Planned := (h.withDue _).steady (evaluateAll_steady _)

theorem setTime (h : s.Planned) {n y : Nat} (hy : s.clock.cycle = some y) (hn : n < y) : (s.setTime n).Planned :=
  (h.withClock (h.clock.set hy hn s.clock.mode s.clock.correction h.clock.zeroSteps)).withDue _

theorem enterCoordinated (h : s.Planned) {n y : Nat} (hy : s.clock.cycle = some y) (hn : n < y) :
    (s.enterCoordinated n).Planned := by
  have k := h.setTime hy hn
  exact ((k.withClock (h.clock.set hy hn .coordinated 0 (Nat.zero_le _))).steady (raise_steady _ _)).timeStep

theorem setCorridorTime (h : s.Planned) {n y : Nat} (hy : s.clock.cycle = some y) (hn : n < y) :
    (s.setCorridorTime n).Planned := by
  unfold State.setCorridorTime
  exact (h.setTime hy hn).timeStep

theorem takeReference (h : s.Planned) {n : Nat} (hn : s.store.inForce.isSome = true → n < s.clock.cycle.getD 0) :
    (s.takeReference n).2.Planned := by
  have corrected : ∀ p, ({ s with clock := { s.clock with correction := p } }).Planned := fun p =>
    h.withClock (h.clock.retimed rfl rfl (.inl rfl) h.clock.day h.clock.phase h.clock.watchdog h.clock.zeroSteps)
  unfold State.takeReference; split
  · split
    · exact h
    · rename_i d hd
      have hi : s.store.inForce.isSome = true := by
        unfold PlanStore.headerInForce at hd
        cases e : s.store.inForce <;> simp [e] at hd ⊢
      obtain ⟨y, hy⟩ := Option.isSome_iff_exists.1 (h.clock.cycle.trans hi)
      have lt : n < y := by simpa [hy] using hn hi
      split
      · exact h
      · split
        · dsimp only; exact h.enterCoordinated hy lt
        · dsimp only; exact h.setCorridorTime hy lt
  · dsimp only; split
    · exact corrected 0
    · exact corrected (syncError n s.clock.corridorTime (s.clock.cycle.getD 0))

theorem executeSync (h : s.Planned) (fr : Frame) : (executeSync fr s).Planned := by
  unfold Machine.executeSync; split
  · split
    · rename_i hr
      simp only [State.syncInRange, Bool.and_eq_true, Bool.or_eq_true, decide_eq_true_eq, Option.isNone_iff_eq_none] at hr
      obtain ⟨hday, href⟩ := hr
      refine kept (takeReference (h.takeTimeOfDay hday) fun hi => ?_) (done_planKept _ _ _)
      have store : (s.takeTimeOfDay (readFour fr.body 2)).store = s.store := reviewQuiet_store _
      have cycle : (s.takeTimeOfDay (readFour fr.body 2)).clock.cycle = s.clock.cycle := by
        simp [State.takeTimeOfDay]
      rw [store] at hi; rw [cycle]
      exact href.resolve_left fun e => by simp [e] at hi
    · exact h.kept (refuse_planKept s _ _)
  · exact h.kept (refuse_planKept s _ _)

/-! ### The plan store's requests -/

/-- A bank not in use changed, its header after it, if any, with a cycle length in range. -/
theorem changeBank (h : s.Planned) {b : BankId} (hb : s.store.inUse b = false) {f : Bank → Bank}
    (hf : ∀ d, (f (s.store.banks[b])).header.present = some d → d.CycleInRange) :
    ({ s with store := s.store.changeBank b f }).Planned where
  running := h.running
  headers := by
    refine ⟨fun b' d hd => ?_, h.headers.2⟩
    by_cases e : b = b'
    · subst e; rw [changeBank_header_self] at hd; exact hf d hd
    · rw [changeBank_header_other _ _ e] at hd; exact h.headers.1 b' d hd
  clock := h.clock
  plan := by
    obtain ⟨writing, base, pending, records⟩ := h.plan
    obtain ⟨notBase, notPending⟩ := not_inUse hb
    refine ⟨writing, fun sel e => ?_, fun sel e => ?_, fun c => ?_⟩
    · rw [changeBank_header_other _ _ (notBase sel e).1]; exact base sel e
    · rw [changeBank_header_other _ _ (notPending sel e).1]; exact pending sel e
    · refine (records c).trans ?_
      cases e : s.store.inForce with
      | none => simp [PlanStore.changeBank, e]
      | some sel =>
        change _ = (s.store.changeBank b f).inForce.bind _
        have inForce : (s.store.changeBank b f).inForce = some sel := e
        rw [inForce]
        exact (changeBank_effective _ f (notBase sel e) c).symm

/-- The write in execution replaced: none, or one in a bank not in use, with a header in range. -/
theorem withExecuting (h : s.Planned) {e : Option WriteRun}
    (he : ∀ w, e = some w → s.store.inUse w.bank = false ∧ ∀ d, w.item = .header d → d.CycleInRange) :
    ({ s with host := { s.host with executing := e } }).Planned :=
  ⟨h.running, ⟨h.headers.1, fun w d hw => (he w hw).2 d⟩, h.clock, fun w hw => (he w hw).1, h.plan.2⟩

theorem planWriteDone (h : s.Planned) (w : WriteRun) (n : Option Nat) (r : Option RecordReason) :
    (s.planWriteDone w n r).Planned :=
  (h.withExecuting fun _ e => by cases e).kept (done_planKept _ _ _)

/-- As a slot's write begins no header of its bank is present but one that was (R31). -/
theorem beginSlot_header (k : Bank) (item : SlotItem) {d : Header} (h : (k.beginSlot item).header.present = some d) :
    k.header.present = some d := by
  cases item with
  | header _ => simp [Bank.beginSlot, Slot.absent, Slot.present] at h
  | record _ _ => exact h

theorem nextRecord (h : s.Planned) {w : WriteRun} (hw : s.store.inUse w.bank = false) (slot : Nat) :
    (s.nextRecord w slot).Planned := by
  unfold State.nextRecord; split
  · exact h.planWriteDone _ _ _
  · split
    · exact h.planWriteDone _ _ _
    · rename_i item hv
      have h' := h.changeBank hw (f := fun k => k.beginSlot item) fun d hd => h.headers.1 _ d (beginSlot_header _ _ hd)
      refine h'.withExecuting fun w' e => ?_
      obtain rfl := Option.some.inj e
      exact ⟨hw, fun d (hd : item = .header d) => validate_inRange (hd ▸ hv)⟩

theorem slotWriteDone (h : s.Planned) : s.slotWriteDone.Planned := by
  unfold State.slotWriteDone; split
  · exact h
  · rename_i w hw
    have hb := h.plan.1 w hw
    have h' := h.changeBank hb (f := fun k => k.finishSlot w.item) fun d hd => ?_
    · exact h'.nextRecord (w := { w with written := w.written + 1, pruned := _ }) hb _
    cases hi : w.item with
    | header e =>
      have : e = d := by simpa [hi, Bank.finishSlot, Slot.written, Slot.present] using hd
      exact this ▸ h.headers.2 w e hw hi
    | record c r => rw [hi] at hd; exact h.headers.1 _ d hd

theorem executePlanWrite (h : s.Planned) (fr : Frame) : (executePlanWrite fr s).Planned := by
  have refused := fun r => h.kept (refuse_planKept s fr.tag r)
  unfold Machine.executePlanWrite; split
  · split
    · exact refused _
    · split_ifs with _ _ hu
      · exact refused _
      · exact refused _
      · exact refused _
      · exact h.nextRecord (by simpa [WriteRun.start] using hu) _
  · exact refused _

/-- A selection with a base header made pending while no write is in execution (R29, R37). -/
theorem acceptSelection (h : s.Planned) (he : s.host.executing = none) {sel : Selection} {d : Header}
    (hd : s.store.header sel.base = some d) : (s.acceptSelection sel).Planned where
  running := h.running
  headers := h.headers
  clock := h.clock.retimed rfl rfl (.inl rfl) h.clock.day h.clock.phase h.clock.watchdog h.clock.zeroSteps
  plan := by
    obtain ⟨-, base, -, records⟩ := h.plan
    refine ⟨fun w hw => ?_, base, fun sel' e => ?_, records⟩
    · exact absurd (he.symm.trans hw) (by simp)
    · obtain rfl : sel = sel' := Option.some.inj e
      exact Option.isSome_iff_exists.2 ⟨d, hd⟩

theorem executePlanSelect (h : s.Planned) (he : s.host.executing = none) (fr : Frame) : (executePlanSelect fr s).Planned := by
  unfold Machine.executePlanSelect; split
  · split
    · exact h.kept (refuse_planKept s _ _)
    · unfold State.select; split
      · exact h.kept (refuse_planKept s _ _)
      · rename_i hd
        split
        · exact h.kept (refuse_planKept s _ _)
        · exact (h.acceptSelection he hd).kept (done_planKept _ _ _)
  · exact h.kept (refuse_planKept s _ _)

/-- A request begins only while no write is in execution (R179). -/
theorem serve (h : s.Planned) (is : Frame → Bool) {f : Frame → State → State}
    (hf : ∀ fr {s : State}, s.Planned → s.host.executing = none → (f fr s).Planned) : (s.serve is f).Planned := by
  unfold State.serve; split
  · split
    · rename_i hr
      simp only [HostPort.ready, Bool.and_eq_true, Option.isNone_iff_eq_none] at hr
      obtain ⟨⟨⟨he, -⟩, -⟩, -⟩ := hr
      exact hf _ (h.kept (withHost_planKept s rfl)) he
    · exact h
  · exact h

end State.Planned

end Sys2Proof.Machine
end

section
/-!
Resets (O11): what a cold start or a RESTART leaves of the banks, and with it of every block.
-/

namespace Sys2Proof.Machine

/-! ### The plan store through a reset (R23, R31, R32, R44) -/

/-- A slot whose check value disagrees is not present before the check either (R23). -/
@[simp] theorem checked_present {α : Type} (s : Slot α) : s.checked.present = s.present := by
  unfold Slot.checked
  split
  · rfl
  · rename_i h; simp [Slot.absent, Slot.present, h]

@[simp] theorem checked_header (p : PlanStore) (b : BankId) : p.checked.header b = p.header b := by
  simp [PlanStore.checked, PlanStore.header, Bank.checked]

@[simp] theorem checked_recordIn (p : PlanStore) (b : BankId) (c : CrossingId) : p.checked.recordIn b c = p.recordIn b c := by
  simp [PlanStore.checked, PlanStore.recordIn, Bank.checked]

/-- A slot the re-check has met is as it was or absent (R32). -/
theorem prunedSlot_present (h : Header) (c : CrossingId) (s : Slot Record) :
    (prunedSlot h c s).present = s.present ∨ (prunedSlot h c s).present = none := by
  unfold prunedSlot
  split
  · split
    · right; simp [Slot.absent, Slot.present]
    · left; rfl
  · left; rfl

theorem changeBank_recordIn_self (p : PlanStore) (b : BankId) (f : Bank → Bank) (c : CrossingId) :
    (p.changeBank b f).recordIn b c = ((f (p.banks[b])).records[c]).present.map fun r => { bank := b, record := r } := by
  simp [PlanStore.changeBank, PlanStore.recordIn]

@[simp] theorem torn_header (p : PlanStore) (w : WriteRun) (n : Nat) (b : BankId) : (p.torn w n).header b = p.header b := by
  unfold PlanStore.torn
  split
  · by_cases e : w.bank = b
    · subst e; rw [changeBank_header_self]; rfl
    · exact changeBank_header_other _ _ e
  · rfl

/-- An interrupted header write touches the records of its own bank alone. -/
theorem torn_recordIn_other (p : PlanStore) (w : WriteRun) (n : Nat) {b : BankId} (c : CrossingId)
    (h : ∀ d, w.item = .header d → w.bank ≠ b) : (p.torn w n).recordIn b c = p.recordIn b c := by
  unfold PlanStore.torn
  split
  · rename_i d hd; exact changeBank_recordIn_other _ _ (h d hd) c
  · rfl

theorem torn_recordIn (p : PlanStore) (w : WriteRun) (n : Nat) (b : BankId) (c : CrossingId) :
    (p.torn w n).recordIn b c = p.recordIn b c ∨ (p.torn w n).recordIn b c = none := by
  by_cases e : ∀ d, w.item = .header d → w.bank ≠ b
  · exact .inl (torn_recordIn_other p w n c e)
  · push Not at e
    obtain ⟨d, hd, rfl⟩ := e
    simp only [PlanStore.torn, hd, changeBank_recordIn_self, Bank.torn, Fin.getElem_fin, rewrite_get]
    split
    · rcases prunedSlot_present d c (p.banks[w.bank.val]).records[c.val] with h | h <;> rw [h]
      · exact .inl rfl
      · exact .inr rfl
    · exact .inl rfl

@[simp] theorem afterReset_header (p : PlanStore) (w : Option WriteRun) (n : Nat) (b : BankId) :
    (p.afterReset w n).header b = p.header b := by
  cases w with
  | none => exact checked_header p b
  | some w => exact (checked_header _ b).trans (torn_header p w n b)

theorem afterReset_recordIn_other (p : PlanStore) (w : Option WriteRun) (n : Nat) {b : BankId} (c : CrossingId)
    (h : ∀ v d, w = some v → v.item = .header d → v.bank ≠ b) : (p.afterReset w n).recordIn b c = p.recordIn b c := by
  cases w with
  | none => exact checked_recordIn p b c
  | some w => exact (checked_recordIn _ b c).trans (torn_recordIn_other p w n c fun d => h w d rfl)

theorem afterReset_recordIn (p : PlanStore) (w : Option WriteRun) (n : Nat) (b : BankId) (c : CrossingId) :
    (p.afterReset w n).recordIn b c = p.recordIn b c ∨ (p.afterReset w n).recordIn b c = none := by
  cases w with
  | none => exact .inl (checked_recordIn p b c)
  | some w =>
    rcases torn_recordIn p w n b c with h | h
    · exact .inl ((checked_recordIn _ b c).trans h)
    · exact .inr ((checked_recordIn _ b c).trans h)

/-- The stored selection is kept through a reset (R44). -/
@[simp] theorem afterReset_stored (p : PlanStore) (w : Option WriteRun) (n : Nat) : (p.afterReset w n).stored = p.stored := by
  cases w with
  | none => rfl
  | some w => simp only [PlanStore.afterReset, PlanStore.checked, PlanStore.torn]; split <;> rfl

/-! ### Every block after a reset -/

theorem shutDown_afterReset (s : State) (k : Counters) (f : Vector FilterEntry 16) : AfterReset s (s.shutDown k f) k f where
  running := rfl
  clock := rfl
  selections := ⟨rfl, rfl, rfl, afterReset_stored _ _ _⟩
  headers b := afterReset_header _ _ _ b
  records _ c h := afterReset_recordIn_other _ _ _ c h
  torn b c := afterReset_recordIn _ _ _ b c
  calls := rfl
  crossings c := by simp [State.shutDown, State.crossing]
  groups g := by simp [State.shutDown, State.group]
  units u := by simp [State.shutDown, State.unit]
  kerb := rfl
  counters := rfl
  host := rfl
  due := rfl
  pending := rfl

/-- In restart hold no request may begin (R187). -/
theorem not_ready_of_restartHold {p : HostPort} (h : p.restartHold = true) : p.ready = false := by
  simp [HostPort.ready, h]

/-- Settles O11. -/
theorem resetsLeaveTheirValues : Obligations.ResetsLeaveTheirValues := by
  unfold Obligations.ResetsLeaveTheirValues
  refine ⟨fun fr rest s turn hk hb => ?_, fun s => ⟨?_, fun h => ?_, fun h => ?_⟩⟩
  · have restarted : exec .restart s = .next (State.answering { s with host := { s.host with restartHold := true } } rest
        fr.tag (.done .restart)) := by
      refine congrArg Host.Outcome.next ((serve_at_turn turn hk executeRestart).trans ?_)
      simp only [executeRestart, hb]
      rfl
    refine ⟨restarted, fun t ht => ?_⟩
    obtain rfl := Host.Outcome.next.inj (restarted.symm.trans ht)
    exact not_ready_of_restartHold (transmit_portKept _).restartHold
  · exact ⟨_, rfl, shutDown_afterReset s _ _⟩
  · exact ⟨_, congrArg Host.Outcome.next (if_pos h), shutDown_afterReset s _ _⟩
  · exact congrArg Host.Outcome.next (if_neg (by simp [h]))

end Sys2Proof.Machine
end

section
/-!
Every step keeps the clock and the plan (O55): the running part by `State.Planned`, command by command; a reset leaves the laws
by its values, and the completion of its start-up makes a running part of them.
-/

namespace Sys2Proof.Machine

variable {s t : State}

/-- The laws of the clock and the plan, with those of a stopped part (O55). -/
structure State.Sound (s : State) : Prop where
  stopped : s.StoppedLaw
  headers : s.HeaderLaw
  time : s.TimeLaw
  plan : s.PlanLaw

theorem State.Planned.sound (h : s.Planned) : s.Sound :=
  ⟨fun e => absurd (h.running.symm.trans e) (by simp), h.headers, (timeLaw_iff s).2 h.clock, h.plan⟩

theorem State.Sound.planned (h : s.Sound) (run : s.running = true) : s.Planned :=
  ⟨run, h.headers, (timeLaw_iff s).1 h.time, h.plan⟩

/-- The queue of waiting commands is no part of the laws. -/
theorem State.Sound.withPending (h : s.Sound) (l : List Instr) : ({ s with pending := l }).Sound :=
  ⟨h.stopped, h.headers, h.time, h.plan⟩

/-! ### A reset and its start-up -/

theorem sound_of_afterReset {k : Counters} {f : Vector FilterEntry 16} (h : AfterReset s t k f) (hs : s.HeaderLaw) :
    t.Sound := by
  obtain ⟨inForce, pending, deferral, -⟩ := h.selections
  have executing : t.host.executing = none := by rw [h.host]; rfl
  refine ⟨fun _ => ⟨h.clock, inForce, pending, deferral, h.calls, h.crossings, h.groups, fun u => ?_, h.kerb, executing,
    h.due⟩, ⟨fun b d hd => hs.1 b d (h.headers b ▸ hd), fun w d hw => ?_⟩, ?_, fun w hw => ?_, fun sel hsel => ?_,
    fun sel hsel => ?_, fun c => ?_⟩
  · rw [h.units u]; rfl
  · rw [executing] at hw; cases hw
  · rw [timeLaw_iff, h.clock, inForce]; exact .initial
  · rw [executing] at hw; cases hw
  · rw [inForce] at hsel; cases hsel
  · rw [pending] at hsel; cases hsel
  · rw [h.crossings, inForce]; rfl

theorem startUp_inForce (f : Option InForce) : (Crossing.startUp f).inForce = f := by cases f <;> rfl

/-- A re-adopted selection has a base header (R43). -/
theorem readoption_header {p : PlanStore} {sel : Selection} {d : Header} (h : p.readoption = some (sel, d)) :
    p.header sel.base = some d := by
  unfold PlanStore.readoption at h
  split at h
  · cases h
  · split at h
    · cases h
    · split at h
      · cases h; assumption
      · cases h

/-- The start-up of a part at its values after reset makes a running part of it (R43). -/
theorem startUp_planned (h : s.Sound) (stop : s.running = false) : s.startUp.Planned := by
  obtain ⟨clock, inForce, pending, -, -, crossings, -, -, -, executing, -⟩ := h.stopped stop
  have headers : ({ s with store := s.store.checked, running := true } : State).HeaderLaw :=
    ⟨fun b d hd => h.headers.1 b d ((checked_header _ b).symm.trans hd), h.headers.2⟩
  have woken : ({ s with store := s.store.checked, running := true } : State).Planned := by
    refine ⟨rfl, headers, ?_, fun w hw => ?_, fun sel hsel => ?_, fun sel hsel => ?_, fun c => ?_⟩
    · change s.clock.Lawful s.store.inForce.isSome
      rw [clock, inForce]; exact .initial
    · exact absurd (executing.symm.trans hw) (by simp)
    · exact absurd (inForce.symm.trans hsel) (by simp)
    · exact absurd (pending.symm.trans hsel) (by simp)
    · change (s.crossing c).inForce = s.store.inForce.bind _
      rw [crossings, inForce]; rfl
  unfold State.startUp
  rw [if_neg (by simp [stop])]
  refine State.Planned.steady ?_ (.foldl _ _ fun s c => testFailRecall_steady s c)
  refine State.Planned.steady ?_ (relevelAll_steady _)
  split
  · rename_i sel d hr
    have hd := readoption_header hr
    refine ⟨rfl, headers, ?_, fun w hw => ?_, fun sel' hsel => ?_, fun sel' hsel => ?_, fun c => ?_⟩
    · obtain ⟨lo, hi⟩ := headers.1 _ _ hd
      change ({ s.clock with cycle := some d.cycle } : Clock).Lawful true
      rw [clock]
      exact ⟨rfl, fun y e => by obtain rfl := Option.some.inj e; exact ⟨lo, hi, Nat.lt_of_lt_of_le (Nat.succ_pos 399) lo⟩,
        fun e => (by cases e), Nat.zero_lt_succ _, Nat.zero_le _, Nat.zero_le _, Nat.zero_le _⟩
    · exact absurd (executing.symm.trans hw) (by simp)
    · obtain rfl := Option.some.inj hsel
      exact Option.isSome_iff_exists.2 ⟨d, hd⟩
    · exact absurd (pending.symm.trans hsel) (by simp)
    · simp [State.startUnder, State.crossing, startUp_inForce]
      rfl
  · exact ⟨woken.running, woken.headers, woken.clock, woken.plan⟩

/-! ### Every command -/

/-- The announced event that a command takes (log entry 2); the class of a mismatch is read from the announcement. -/
def takenBy : Instr → Option Due
  | .secondAdvance => some .secondAdvance
  | .cycleBoundary => some .cycleBoundary
  | .boundaryDue => some .boundaryDue
  | .watchdogExpiry => some .watchdog
  | .bandEndEvent c => some (.bandEnd c)
  | .notBeforeArrival c => some (.notBefore c)
  | .recallTimerExpiry c => some (.recallExpiry c)
  | .greenTimerExpiry c => some (.greenExpiry c)
  | .spacingExpiry g => some (.spacing g)
  | .pairingClose g => some (.pairing g)
  | .intervalEnd c => some (.intervalEnd c)
  | .flashHalfChange c => some (.flashHalf c)
  | .conflictTimerLimit c => some (.conflict c)
  | .revivalDue u => some (.revival u)
  | .sampleWindowClose u => some (.windowClose u)
  | .ambientStale u => some (.stale u)
  | _ => none

theorem exec_takes {i : Instr} {d : Due} (h : takenBy i = some d) (s : State) :
    exec i s = .next (s.live fun s => s.take d (runDue d)) := by
  cases i <;> cases h <;> rfl

/-- Every command but those of a reset does work that keeps the laws of a running part. -/
theorem exec_keeps_planned {i : Instr} (wf : wellFormed i = true) (hc : i ≠ .coldStart) (hs : i ≠ .startUpComplete)
    (hr : i ≠ .restartBegin) :
    ∃ f : State → State, (∀ s, exec i s = .next (s.live f)) ∧ ∀ {s : State}, s.Planned → (f s).Planned := by
  have other : ∀ {f : State → State}, (∀ s, PlanKept s (f s)) → ∀ {s : State}, s.Planned → (f s).Planned :=
    fun hf _ h => h.kept (hf _)
  have request : ∀ {is : Frame → Bool} {f : Frame → State → State}, (∀ s fr, PlanKept s (f fr s)) →
      ∀ {s : State}, s.Planned → (s.serve is f).Planned := fun hf _ h => h.serve _ fun fr _ k _ => k.kept (hf _ fr)
  cases hd : takenBy i with
  | some d => exact ⟨_, exec_takes hd, fun h => h.take d fun k => k.runDue d⟩
  | none =>
    cases i with
    | coldStart => exact absurd rfl hc
    | startUpComplete => exact absurd rfl hs
    | restartBegin => exact absurd rfl hr
    | decisecondEvent inputs => exact ⟨_, fun _ => rfl, fun h => h.tick inputs⟩
    | mismatchTimerLimit c lamp =>
      refine ⟨_, fun _ => rfl, fun {s} h => ?_⟩
      split
      · rename_i cls _; exact h.take (.mismatch c lamp cls) fun k => k.runDue (.mismatch c lamp cls)
      · exact h
    | sync => exact ⟨_, fun _ => rfl, fun h => h.serve _ fun fr _ k _ => k.executeSync fr⟩
    | planWrite => exact ⟨_, fun _ => rfl, fun h => h.serve _ fun fr _ k _ => k.executePlanWrite fr⟩
    | slotWriteDone => exact ⟨_, fun _ => rfl, fun h => h.slotWriteDone⟩
    | planSelect => exact ⟨_, fun _ => rfl, fun h => h.serve _ fun fr _ k x => k.executePlanSelect x fr⟩
    | planRead => exact ⟨_, fun _ => rfl, request executePlanRead_planKept⟩
    | call => exact ⟨_, fun _ => rfl, request executeCall_planKept⟩
    | callCancel => exact ⟨_, fun _ => rfl, request executeCancel_planKept⟩
    | serviceOff | dark | restore => exact ⟨_, fun _ => rfl, request executeControl_planKept⟩
    | unitMapSet | unitMapClear => exact ⟨_, fun _ => rfl, request executeMap_planKept⟩
    | unitStatus => exact ⟨_, fun _ => rfl, request executeUnitStatus_planKept⟩
    | counters => exact ⟨_, fun _ => rfl, request executeCounters_planKept⟩
    | unknownKind => exact ⟨_, fun _ => rfl, request fun s fr => refuse_planKept s fr.tag .unknownKind⟩
    | status => exact ⟨_, fun _ => rfl, request executeStatus_planKept⟩
    | crossingStatus => exact ⟨_, fun _ => rfl, request executeCrossingStatus_planKept⟩
    | filterWrite => exact ⟨_, fun _ => rfl, request executeFilterWrite_planKept⟩
    | restart => exact ⟨_, fun _ => rfl, request executeRestart_planKept⟩
    | pollCommand => exact ⟨_, fun _ => rfl, other poll_planKept⟩
    | replyWindowOpen => exact ⟨_, fun _ => rfl, other fun s => withKerb_planKept s _ _⟩
    | replyWindowClose x => exact ⟨_, fun _ => rfl, other fun s => closeWindow_planKept s x⟩
    | lateBytes => exact ⟨_, fun _ => rfl, other lateBytes_planKept⟩
    | hostFrameStart => exact ⟨_, fun _ => rfl, other (f := State.startFrame) fun s => withHost_planKept s rfl⟩
    | frameGapTimeout => exact ⟨_, fun _ => rfl, other abandonFrame_planKept⟩
    | transmitEnd => exact ⟨_, fun _ => rfl, other endTransmission_planKept⟩
    | goodReply frame => exact ⟨_, fun _ => if_pos wf, other fun s => receiveGood_planKept s frame⟩
    | badReply frame => exact ⟨_, fun _ => if_pos wf, other fun s => receiveBad_planKept s frame⟩
    | hostFrameReceived bytes => exact ⟨_, fun _ => if_pos wf, other fun s => receiveFrame_planKept s bytes⟩
    | frameAbandon cause => exact ⟨_, fun _ => if_pos wf, other abandonFrame_planKept⟩
    | _ => cases hd

/-- Every command keeps the laws, in a running and in a stopped part. -/
theorem exec_sound {i : Instr} (h : s.Sound) (e : exec i s = .next t) : t.Sound := by
  have reset : ∀ k f, (s.shutDown k f).Sound := fun k f => sound_of_afterReset (shutDown_afterReset s k f) h.headers
  have wf : wellFormed i = true := by
    by_contra hw
    rw [exec_fault (by simpa using hw)] at e
    cases e
  by_cases hc : i = .coldStart
  · subst hc; obtain rfl := Host.Outcome.next.inj e; exact reset _ _
  by_cases hr : i = .restartBegin
  · subst hr; obtain rfl := Host.Outcome.next.inj e
    split
    · exact reset _ _
    · exact h
  by_cases hs : i = .startUpComplete
  · subst hs; obtain rfl := Host.Outcome.next.inj e
    have started : s.startUp.Planned := by
      cases run : s.running with
      | false => exact startUp_planned h run
      | true => rw [State.startUp, if_pos run]; exact h.planned run
    exact (started.kept (transmit_planKept _)).sound
  obtain ⟨f, hf, keeps⟩ := exec_keeps_planned wf hc hs hr
  obtain rfl := Host.Outcome.next.inj ((hf s).symm.trans e)
  cases run : s.running with
  | false => rw [live_stopped run]; exact h
  | true =>
    rw [live_running run]
    exact ((keeps (h.planned run)).kept (transmit_planKept _)).sound

/-- Settles O55: a step executes the front command, which keeps the laws together, or idles. -/
theorem everyStepKeepsTheClockAndThePlan : Obligations.EveryStepKeepsTheClockAndThePlan := by
  unfold Obligations.EveryStepKeepsTheClockAndThePlan
  intro s t stopped headers time plan e
  have h : s.Sound := ⟨stopped, headers, time, plan⟩
  have ht : t.Sound := by
    unfold step at e
    split at e
    · exact exec_sound (h.withPending _) e
    · obtain rfl := Host.Outcome.next.inj e; exact h
  exact ⟨ht.stopped, ht.headers, ht.time, ht.plan⟩

end Sys2Proof.Machine
end

section
/-!
The decisecond event (O13, O14): what it advances, what the grants of samples after it change, and what it announces.
-/

namespace Sys2Proof.Machine

variable {s t w : State}

/-! ### The grants of samples (R160) -/

/-- Of a state nothing but the units' entries and the kerb link master has changed. -/
def UnitsAlone (s t : State) : Prop := t = { s with units := t.units, kerb := t.kerb }

namespace UnitsAlone

theorem refl (s : State) : UnitsAlone s s := rfl

theorem trans (h : UnitsAlone s t) (k : UnitsAlone t w) : UnitsAlone s w := by
  unfold UnitsAlone at *; rw [k, h]

theorem calls (h : UnitsAlone s t) : t.calls = s.calls := by rw [h]
theorem crossings (h : UnitsAlone s t) : t.crossings = s.crossings := by rw [h]
theorem groups (h : UnitsAlone s t) : t.groups = s.groups := by rw [h]
theorem counters (h : UnitsAlone s t) : t.counters = s.counters := by rw [h]
theorem host (h : UnitsAlone s t) : t.host = s.host := by rw [h]

end UnitsAlone

/-- Grants touch the units' audible items and pending actions alone. -/
theorem grantSamples_unitsAlone (s : State) : UnitsAlone s s.grantSamples := by
  unfold State.grantSamples; split
  · refine foldl_related _ s UnitsAlone.refl UnitsAlone.trans fun s u => ?_
    unfold State.considerGrant; split <;> rfl
  · rfl

/-! ### Settling (log entry 2) -/

/-- With nothing announced there is nothing to settle. -/
theorem settle_of_empty (h : s.due = []) : s.settle = s := by
  unfold State.settle; rw [h]
  obtain ⟨_, _, _, _, _, _, _, _, _, _, due, _, _⟩ := s
  cases h; rfl

theorem settle_settle (s : State) : s.settle.settle = s.settle := settle_of_empty rfl

theorem settle_running (s : State) : s.settle.running = s.running :=
  foldl_related (R := fun s t : State => t.running = s.running) s.due s (fun _ => rfl) (fun h k => k.trans h) fun s d => by
    unfold State.settleOne State.take
    split
    · exact runDue_running _ d
    · rfl

/-! ### The decisecond event with nothing left over -/

/-- The state at a decisecond event once the time base has advanced and the events are announced. -/
def State.ticking (s : State) (inputs : ProvingInputs) : State :=
  { s.advance inputs with due := announced s (s.advance inputs) inputs }

theorem tick_of_empty (h : s.due = []) (inputs : ProvingInputs) : s.tick inputs = (s.ticking inputs).grantSamples := by
  unfold State.tick; rw [settle_of_empty h]; rfl

theorem exec_decisecond (run : s.running = true) (h : s.due = []) (inputs : ProvingInputs) :
    exec (.decisecondEvent inputs) s = .next (s.ticking inputs).grantSamples.transmit := by
  rw [← tick_of_empty h]
  exact congrArg Host.Outcome.next (live_running run fun s => s.tick inputs)

@[simp] theorem ticking_crossing (s : State) (inputs : ProvingInputs) (c : CrossingId) :
    (s.ticking inputs).crossing c = (s.crossing c).tick inputs[c] := by
  simp [State.ticking, State.advance, State.crossing]

@[simp] theorem ticking_unit (s : State) (inputs : ProvingInputs) (u : UnitId) :
    (s.ticking inputs).unit u = (s.unit u).tick := by
  simp [State.ticking, State.advance, State.unit]

/-- Settles O13: the grants and the transmitter's look follow the advance, and touch nothing it advances. -/
theorem decisecondAdvancesEveryTimer : Obligations.DecisecondAdvancesEveryTimer := by
  unfold Obligations.DecisecondAdvancesEveryTimer
  refine ⟨fun inputs s run h => ⟨_, exec_decisecond run h inputs, ?_⟩, fun inputs s run => ?_⟩
  · have grants := grantSamples_steady (s.ticking inputs)
    have alone := grantSamples_unitsAlone (s.ticking inputs)
    have crossing : ∀ c, (s.ticking inputs).grantSamples.crossing c = (s.crossing c).tick inputs[c] := fun c =>
      (crossing_of_eq alone.crossings c).trans (ticking_crossing s inputs c)
    exact ⟨grants.clock, crossing, grants.store, alone.calls, alone.groups, alone.counters,
      congrArg HostPort.transmit alone.host, grants.running.trans run, grants.pending,
      grants.resting, grants.lastPolled, fun u => (grants.links u).trans (by rw [ticking_unit]; rfl)⟩
  · have settled : s.settle.running = true := (settle_running s).trans run
    change Host.Outcome.next (s.live _) = .next (s.settle.live _)
    rw [live_running run, live_running settled]
    unfold State.tick
    rw [settle_settle]

/-! ### What a decisecond event announces -/

theorem mem_ite_singleton {α : Type} {p : Prop} [Decidable p] {a b : α} : a ∈ (if p then [b] else []) ↔ p ∧ a = b := by
  split <;> simp [*]

theorem mem_clockAnnounce {k k' : Clock} {b : Bool} {d : Due} : d ∈ k.announce k' b ↔
    (9 ≤ k.phase ∧ d = .secondAdvance) ∨ ((b = true ∧ k.cycle.getD 0 ≤ k.corridorTime + 1) ∧ d = .cycleBoundary) ∨
    ((b = false ∧ k.boundaryDue = true) ∧ d = .boundaryDue) ∨
    ((k'.mode = .coordinated ∧ 3 * k'.cycle.getD 0 ≤ k'.watchdog) ∧ d = .watchdog) := by
  simp only [Clock.announce, List.mem_append, mem_ite_singleton, or_assoc]

theorem mem_announceFaults {c : CrossingId} {x : Crossing} {inputs : Lamps Bool} {d : Due} :
    d ∈ announceFaults c x inputs ↔ (∃ l cls, x.mismatchFound l (lampAt inputs l) = some cls ∧ d = .mismatch c l cls) ∨
      (x.conflictFound inputs = true ∧ d = .conflict c) := by
  simp only [announceFaults, List.mem_append, List.mem_filterMap, mem_allLamps, true_and, mem_ite_singleton,
    Option.map_eq_some_iff, eq_comm (a := d)]

theorem mem_announceTimers {now : Time} {c : CrossingId} {x x' : Crossing} {d : Due} : d ∈ announceTimers now c x x' ↔
    (x'.timeLeft = some 0 ∧ d = .intervalEnd c) ∨ (x.port.flash.complete = true ∧ d = .flashHalf c) ∨
    (x'.green = some { left := 0, expired := false } ∧ d = .greenExpiry c) ∨
    (x.recallTimer.any (reached now) = true ∧ d = .recallExpiry c) := by
  simp only [announceTimers, List.mem_append, mem_ite_singleton, or_assoc]

/-- The local time of a crossing's record reaches the end of its band in COORDINATED mode (R5). -/
def State.bandEnds (s : State) (c : CrossingId) : Prop :=
  ∃ r, (s.crossing c).record = some r ∧ s.clock.mode = .coordinated ∧ 0 < r.bandLen ∧
    s.localTimeOf r = bandEnd r (s.clock.cycle.getD 0)

theorem mem_announceCalls {c : CrossingId} {d : Due} : d ∈ s.announceCalls c ↔
    (s.bandEnds c ∧ d = .bandEnd c) ∨ (((s.callOf c).bind (·.notBefore)).any (reached s.clock.now) = true ∧ d = .notBefore c) := by
  unfold State.announceCalls State.bandEnds
  cases (s.crossing c).record with
  | none => simp
  | some r => simp

theorem mem_announceGroup {now : Time} {g : GroupId} {q : Group} {d : Due} : d ∈ announceGroup now g q ↔
    ((q.active = 0 ∧ q.spacingExpiry.any (reached now) = true) ∧ d = .spacing g) ∨
    ((0 < q.active ∧ q.pairingClose.any (reached now) = true) ∧ d = .pairing g) := by
  simp only [announceGroup, List.mem_append, mem_ite_singleton]

theorem mem_announceUnit {u : UnitId} {d : Due} : d ∈ s.announceUnit u ↔
    (((s.unit u).mapping.isSome = true ∧ (s.unit u).state = .failed ∧ (s.unit u).revivalDue = false ∧
      (s.unit u).nextRevival.any (reached s.clock.now) = true) ∧ d = .revival u) ∨
    ((s.unit u).audible.sample.any (·.windowRun s.clock.now) = true ∧ d = .windowClose u) ∨
    (((s.unit u).mapping.isSome = true ∧ s.isStale u = true) ∧ d = .stale u) := by
  simp only [State.announceUnit, List.mem_append, mem_ite_singleton, or_assoc]

/-- A decisecond event announces what the clock, a crossing's proving, timers and call, a group or a unit announces. -/
theorem mem_announced {inputs : ProvingInputs} {d : Due} : d ∈ announced s t inputs ↔
    d ∈ s.clock.announce t.clock s.store.inForce.isSome ∨
    (∃ c, d ∈ announceFaults c (s.crossing c) inputs[c] ∨ d ∈ announceTimers t.clock.now c (s.crossing c) (t.crossing c) ∨
      d ∈ t.announceCalls c) ∨
    (∃ g, d ∈ announceGroup t.clock.now g (t.group g)) ∨ ∃ u, d ∈ t.announceUnit u := by
  simp only [announced, announceCrossing, List.mem_append, List.mem_flatMap, mem_allCrossings, mem_allGroups, mem_allUnits,
    true_and, or_assoc]

/-- A measuring sample's window has run 20 ds (R164). -/
theorem windowRun_iff {q : Sample} {now : Time} : q.windowRun now = true ↔ ∃ start, q.phase = .measuring start ∧ 20 ≤ since now start := by
  unfold Sample.windowRun; split <;> simp [*]

/-- A decisecond changes no phase but that of a CLOSED sample. -/
theorem sampleTick_measuring {q : Sample} {start : Time} : q.tick.phase = .measuring start ↔ q.phase = .measuring start := by
  unfold Sample.tick; split <;> simp [*]

/-- The state that announces: the advanced one, whose entries are those of the state before, a decisecond on. -/
theorem advance_crossing (s : State) (inputs : ProvingInputs) (c : CrossingId) :
    (s.advance inputs).crossing c = (s.crossing c).tick inputs[c] := ticking_crossing s inputs c

theorem advance_unit (s : State) (inputs : ProvingInputs) (u : UnitId) : (s.advance inputs).unit u = (s.unit u).tick :=
  ticking_unit s inputs u

theorem advance_bandEnds {inputs : ProvingInputs} {c : CrossingId} : (s.advance inputs).bandEnds c ↔
    s.clock.mode = .coordinated ∧ ∃ r, (s.crossing c).record = some r ∧ 0 < r.bandLen ∧
      modY (((s.advance inputs).clock.corridorTime : Int) - r.offset) (s.clock.cycle.getD 0) =
        (r.bandStart + r.bandLen) % s.clock.cycle.getD 0 := by
  have record : ((s.advance inputs).crossing c).record = (s.crossing c).record := by rw [advance_crossing]; rfl
  unfold State.bandEnds
  rw [record]
  constructor
  · rintro ⟨r, hr, m, hb, e⟩; exact ⟨m, r, hr, hb, e⟩
  · rintro ⟨m, r, hr, hb, e⟩; exact ⟨r, hr, m, hb, e⟩

theorem advance_windowRun {inputs : ProvingInputs} {u : UnitId} {now : Time} :
    ((s.advance inputs).unit u).audible.sample.any (·.windowRun now) = true ↔
      ∃ q start, (s.unit u).audible.sample = some q ∧ q.phase = .measuring start ∧ 20 ≤ since now start := by
  simp [advance_unit, KerbUnit.tick, Option.any_eq_true, windowRun_iff, sampleTick_measuring]

theorem advance_isStale {inputs : ProvingInputs} {u : UnitId} {h : Header} (e : s.store.headerInForce = some h) :
    (s.advance inputs).isStale u = true ↔ (s.unit u).audible.stale = false ∧
      ∃ e start, (s.unit u).audible.estimate = some e ∧ (s.unit u).audible.lastStart = some start ∧
        3 * h.sampleInterval ≤ since (s.advance inputs).clock.now start := by
  have inForce : s.store.inForce.isSome = true := by
    unfold PlanStore.headerInForce at e; cases k : s.store.inForce <;> simp [k] at e ⊢
  have interval : (s.advance inputs).sampleInterval = h.sampleInterval := by
    unfold State.sampleInterval; rw [show (s.advance inputs).store.headerInForce = some h from e]
  have store : (s.advance inputs).store = s.store := rfl
  simp only [State.isStale, advance_unit, KerbUnit.tick, interval, store, inForce]
  cases (s.unit u).audible.lastStart <;> simp [Option.isSome_iff_exists]
  tauto

/-- Settles O14: an event stands on the agenda where one of the lists it is gathered from holds it, and each constructor is
announced by one line of one list. -/
theorem decisecondAnnouncesWhatFallsDue : Obligations.DecisecondAnnouncesWhatFallsDue := by
  unfold Obligations.DecisecondAnnouncesWhatFallsDue
  intro inputs s t run empty e
  obtain rfl := Host.Outcome.next.inj ((exec_decisecond run empty inputs).symm.trans e)
  have grants := grantSamples_steady (s.ticking inputs)
  have due : (s.ticking inputs).grantSamples.transmit.due = announced s (s.advance inputs) inputs := grants.due
  have clock : (s.ticking inputs).grantSamples.transmit.clock = (s.advance inputs).clock := grants.clock
  have crossing : ∀ c, (s.ticking inputs).grantSamples.transmit.crossing c = (s.advance inputs).crossing c := fun c =>
    crossing_of_eq (grantSamples_unitsAlone (s.ticking inputs)).crossings c
  have call : ∀ c, (s.advance inputs).callOf c = s.callOf c := fun _ => rfl
  have group : ∀ g, (s.advance inputs).group g = s.group g := fun _ => rfl
  simp only [due, clock, crossing, mem_announced, mem_clockAnnounce, mem_announceFaults, mem_announceTimers, mem_announceCalls,
    mem_announceGroup, mem_announceUnit]
  refine ⟨by simp, by simp, by simp, ?_, fun c => ⟨by simp, by simp, by simp, ?_, ?_, ?_⟩, fun g => ⟨?_, ?_⟩,
    fun u => ⟨?_, ?_, fun h hh => ?_, fun h => ?_⟩⟩
  case refine_1 => simp [State.advance, Clock.tick, saturate]
  case refine_2 => simp [advance_bandEnds]
  case refine_3 => cases hc : s.callOf c <;> simp [call, hc, Option.any_eq_true]
  case refine_4 => simp [Option.any_eq_true]
  case refine_5 => simp [group, Option.any_eq_true]
  case refine_6 => simp [group, Option.any_eq_true]
  case refine_7 => simp [advance_unit, KerbUnit.tick, Option.any_eq_true]
  case refine_8 => simpa using advance_windowRun
  case refine_9 => simpa [advance_unit, KerbUnit.tick] using fun _ => advance_isStale (inputs := inputs) (u := u) hh
  case refine_10 =>
    have store : (s.advance inputs).store.inForce = none := h
    simp [State.isStale, store]

end Sys2Proof.Machine
end

section
/-!
The second's advance (O15), the watchdog's expiry (O19) and the band end (O21).
-/

namespace Sys2Proof.Machine

variable {s t : State}

/-! ### The second (R19, R20) -/

/-- The state at a second's advance before the quiet flag is re-evaluated. -/
def State.nextSecond (s : State) : State :=
  { s with clock := { s.clock with phase := 0, timeOfDay := (s.clock.timeOfDay + 1) % 86400 } }

theorem advanceSecond_eq (h : s.clock.phase = 9) : s.advanceSecond =
    if (s.clock.timeOfDay + 1) % 86400 / 60 = s.clock.timeOfDay / 60 then s.nextSecond else s.nextSecond.reviewQuiet :=
  if_pos h

/-- The quiet flag the clock and the base header in force give (R20), the time of day valid or not. -/
theorem quietNow_eq (k : Clock) (h : Option Header) : quietNow k h = (k.timeValid && (match h with
    | some h => quietAt h.quietStart h.quietEnd (k.timeOfDay / 60)
    | none => false)) := by
  cases h <;> simp [quietNow]

theorem quietAt_iff (S F m : Nat) : (S < F → (quietAt S F m = true ↔ S ≤ m ∧ m < F)) ∧
    (F < S → (quietAt S F m = true ↔ S ≤ m ∨ m < F)) ∧ quietAt S S m = false := by
  refine ⟨fun h => ?_, fun h => ?_, ?_⟩
  · simp [quietAt, h]
  · simp [quietAt, h, Nat.lt_asymm h]
  · simp [quietAt]

/-- Settles O15: within a minute the second alone advances, and at its end the quiet flag follows. -/
theorem secondAdvanceRunsTheTimeOfDay : Obligations.SecondAdvanceRunsTheTimeOfDay := by
  unfold Obligations.SecondAdvanceRunsTheTimeOfDay
  refine ⟨fun s due h => ?_, quietAt_iff⟩
  have e : exec .secondAdvance s = .next (s.without .secondAdvance).advanceSecond.transmit :=
    congrArg Host.Outcome.next (take_due due State.advanceSecond)
  refine ⟨_, e, ?_⟩
  rw [advanceSecond_eq (s := s.without .secondAdvance) h]
  by_cases m : (s.clock.timeOfDay + 1) % 86400 / 60 = s.clock.timeOfDay / 60
  · rw [if_pos (show ((s.without .secondAdvance).clock.timeOfDay + 1) % 86400 / 60 =
      (s.without .secondAdvance).clock.timeOfDay / 60 from m)]
    refine ⟨?_, rfl, rfl, rfl, rfl, rfl, rfl, rfl, rfl, fun _ => rfl, fun _ => rfl⟩
    rw [if_pos m]; rfl
  · rw [if_neg (show ¬ ((s.without .secondAdvance).clock.timeOfDay + 1) % 86400 / 60 =
      (s.without .secondAdvance).clock.timeOfDay / 60 from m)]
    have links := reviewQuiet_links (s.without .secondAdvance).nextSecond
    refine ⟨?_, reviewQuiet_crossings _, reviewQuiet_calls _, reviewQuiet_groups _, reviewQuiet_store _,
      reviewQuiet_counters _, reviewQuiet_kerb _, congrArg HostPort.transmit (reviewQuiet_host _), reviewQuiet_due _,
      links.kerb.links, reviewQuiet_units _⟩
    rw [if_neg m, transmit_clock, reviewQuiet_clock, quietNow_eq]
    rfl

/-! ### The watchdog (R7, R13) -/

/-- Settles O19. -/
theorem watchdogExpiryDropsToFree : Obligations.WatchdogExpiryDropsToFree := by
  unfold Obligations.WatchdogExpiryDropsToFree
  intro s due
  have e : exec .watchdogExpiry s = .next (s.without .watchdog).expireWatchdog.transmit :=
    congrArg Host.Outcome.next (take_due due State.expireWatchdog)
  refine ⟨fun m n => ⟨_, e, ?_⟩, fun h => ?_⟩
  · have expired : (s.without .watchdog).expireWatchdog = ((s.without .watchdog).dropToFree .watchdog).evaluateAll :=
      if_pos ⟨m, n⟩
    have links := ((without_links s .watchdog).trans (expireWatchdog_links _)).transmit
    rw [expired] at links ⊢
    have evaluated := evaluateAll_steady ((s.without .watchdog).dropToFree .watchdog)
    generalize ((s.without .watchdog).dropToFree .watchdog).evaluateAll = t at links evaluated ⊢
    exact ⟨evaluated.clock, evaluated.store, evaluated.corridorCounters, evaluated.records, links.1, links.2, evaluated.due⟩
  · have idle : (s.without .watchdog).expireWatchdog = s.without .watchdog := if_neg fun ⟨m, n⟩ =>
      h.elim (fun f => by simp [f] at m) fun lt => Nat.not_le.2 lt n
    rw [e, idle]

/-! ### What an admission makes of its crossing (R96) -/

@[simp] theorem removeCall_groups (s : State) (c : CrossingId) (r : RemovalReason) : (s.removeCall c r).groups = s.groups := by
  unfold State.removeCall; split <;> rfl

@[simp] theorem markAccessible_groups (s : State) (c : CrossingId) (b : Bool) : (s.markAccessible c b).groups = s.groups := by
  unfold State.markAccessible; split <;> rfl

@[simp] theorem markAccessible_callOf (s : State) (c d : CrossingId) (b : Bool) :
    (s.markAccessible c b).callOf d = s.callOf d := by
  unfold State.markAccessible; split <;> rfl

@[simp] theorem markAccessible_crossing (s : State) (c : CrossingId) (b : Bool) :
    (s.markAccessible c b).crossing c = { s.crossing c with accessibleMark := b } := by
  unfold State.markAccessible; split
  · rename_i h; rw [← h]
  · exact changeCrossing_crossing s c _

@[simp] theorem raiseTruncated_groups (s : State) (c : CrossingId) (k : Stage) (cut : Option Cut) :
    (s.raiseTruncated c k cut).groups = s.groups := by cases cut <;> rfl

@[simp] theorem raiseTruncated_callOf (s : State) (c d : CrossingId) (k : Stage) (cut : Option Cut) :
    (s.raiseTruncated c k cut).callOf d = s.callOf d := by cases cut <;> rfl

@[simp] theorem raiseTruncated_crossing (s : State) (c d : CrossingId) (k : Stage) (cut : Option Cut) :
    (s.raiseTruncated c k cut).crossing d = s.crossing d := by cases cut <;> rfl

theorem admitCall_groups (s : State) (c : CrossingId) (call : CallRecord) (r : Record) (a : Admission) :
    (s.admitCall c call r a).groups = s.groups := by simp [State.admitCall]

theorem admitCall_callOf (s : State) (c : CrossingId) (call : CallRecord) (r : Record) (a : Admission) :
    (s.admitCall c call r a).callOf c = none := by simp [State.admitCall, removeCall_callOf]

/-- An admitted crossing is in VEH_AMBER of the stage the call fills. -/
theorem admitCall_crossing (s : State) (c : CrossingId) (call : CallRecord) (r : Record) (a : Admission) :
    ((s.admitCall c call r a).crossing c).stage = some (newStage s.clock.now call r a) ∧
      ((s.admitCall c call r a).crossing c).state = .vehAmber ∧
      ((s.admitCall c call r a).crossing c).timeLeft = some r.amber := by
  simp [State.admitCall, Crossing.admitStage, Crossing.enter, newStage]

theorem await_crossing (s : State) (c : CrossingId) (r : Route) (w : WaitReason) :
    (s.await c r w).crossing c = { s.crossing c with route := some r, waiting := some w } := changeCrossing_crossing s c _

/-! ### The band end (R71, R83) -/

/-- With the hold clear the outcome on the BAND route is decided by the band and the gap alone (R71). -/
theorem bandOutcome_clear (r : Record) (x : Bool) (y t : Nat) : bandOutcome r x y t none =
    if modY ((t : Int) - r.bandStart) y < r.bandLen then .wait .inBand
    else if r.duration x (r.desiredWalk x) ≤ gapFrom r y t then .start (r.desiredWalk x) none
    else if r.duration x r.minWalk ≤ gapFrom r y t then .start (gapFrom r y t - r.fixedPart x) (some .band)
    else .wait .gap := by
  simp only [bandOutcome, inBand, decide_eq_true_eq, Nat.lt_irrefl, if_false]
  split_ifs <;> rfl

/-- A call that may be served, at a crossing on the BAND route, is decided on that route (R82). -/
theorem evaluate_onBand {c : CrossingId} {call : CallRecord} {r : Record} (hc : s.callOf c = some call)
    (hr : (s.crossing c).record = some r) (nb : call.notBefore = none) (green : (s.crossing c).greenExpired = true)
    (m : s.clock.mode = .coordinated) (band : 0 < r.bandLen) : s.evaluate c = s.evaluateBand c call r := by
  have eligible : ineligible (s.crossing c) call = none := by simp [ineligible, nb, green]
  have route : routeOf s.clock.mode r = .band := if_pos ⟨m, band⟩
  simp only [State.evaluate, hc, hr, eligible, route, State.evaluateOn]

/-- Settles O21: the evaluation on the BAND route, outcome by outcome. -/
theorem bandEndDecidesTheCall : Obligations.BandEndDecidesTheCall := by
  unfold Obligations.BandEndDecidesTheCall
  intro s c call r y due m hold hy hc nb hr band green x t₀ g
  have e : exec (.bandEndEvent c) s = .next ((s.without (.bandEnd c)).evaluateBand c call r).transmit := by
    refine congrArg Host.Outcome.next ((take_due due (State.bandEndEvent c)).trans (congrArg State.transmit ?_))
    exact (if_pos m).trans (evaluate_onBand hc hr nb green m band)
  have steady := evaluateBand_steady (s.without (.bandEnd c)) c call r
  have within := evaluateBand_within (p := (· = c)) (s.without (.bandEnd c)) call r rfl
  obtain ⟨corridor, kerb, port, agenda⟩ := Undisturbed.ofDue steady
  have decided : (s.without (.bandEnd c)).evaluateBand c call r = match bandOutcome r x y t₀ none with
      | .start walk cut => (s.without (.bandEnd c)).admitCall c call r { route := .band, start := none, walk := walk, cut := cut }
      | .wait reason => (s.without (.bandEnd c)).await c .band reason := by
    have cycle : (s.without (.bandEnd c)).clock.cycle.getD 0 = y := by simp [hy]
    have held : (s.without (.bandEnd c)).holdLimit = none := by simp [State.holdLimit, hold]
    have time : (s.without (.bandEnd c)).localTimeOf r = t₀ := by
      simp only [State.localTimeOf, localTime, cycle]; rfl
    simp only [State.evaluateBand, cycle, held, time]; rfl
  refine ⟨_, e, within, ?_, corridor, kerb, port, agenda, ?_⟩
  · rw [transmit_groups, decided]
    split
    · exact admitCall_groups _ _ _ _ _
    · rfl
  · have admitted := fun a => admitCall_crossing (s.without (.bandEnd c)) c call r a
    have gone := fun a => admitCall_callOf (s.without (.bandEnd c)) c call r a
    rw [transmit_crossing, transmit_callOf, transmit_calls, decided, bandOutcome_clear, show gapFrom r y t₀ = g from rfl]
    split_ifs <;> dsimp only
    · exact ⟨await_crossing (s.without (.bandEnd c)) c .band .inBand, rfl⟩
    · obtain ⟨stage, state, left⟩ := admitted { route := .band, start := none, walk := r.desiredWalk x, cut := none }
      exact ⟨stage, state, left, gone _⟩
    · obtain ⟨stage, state, left⟩ := admitted { route := .band, start := none, walk := g - r.fixedPart x, cut := some .band }
      exact ⟨stage, state, left, gone _⟩
    · exact ⟨await_crossing (s.without (.bandEnd c)) c .band .gap, rfl⟩

end Sys2Proof.Machine
end

section
/-!
The step of a boundary (O18) and the deferral of an adoption (O17).
-/

namespace Sys2Proof.Machine

variable {s t : State}

/-! ### The first crossing in ascending order -/

/-- The crossings stand in ascending order. -/
theorem allCrossings_ascending : allCrossings.Pairwise (· < ·) := by decide

/-- The first find over the crossings is the find of the lowest-numbered crossing that has one. -/
theorem findCrossing_eq_some {β : Type} {f : CrossingId → Option β} {b : β} :
    allCrossings.findSome? f = some b ↔ ∃ c, f c = some b ∧ ∀ c' < c, f c' = none := by
  constructor
  · intro h
    obtain ⟨before, c, rest, split, hc, none⟩ := List.findSome?_eq_some_iff.1 h
    refine ⟨c, hc, fun c' lt => none c' ?_⟩
    have mem := mem_allCrossings c'
    have asc := allCrossings_ascending
    rw [split] at mem asc
    obtain ⟨-, later, -⟩ := List.pairwise_append.1 asc
    rcases List.mem_append.1 mem with m | m
    · exact m
    · rcases List.mem_cons.1 m with e | m
      · exact absurd lt (e ▸ lt_irrefl _)
      · exact absurd lt (lt_asymm ((List.pairwise_cons.1 later).1 c' m))
  · rintro ⟨c, hc, lower⟩
    cases e : allCrossings.findSome? f with
    | none => exact absurd (List.findSome?_eq_none_iff.1 e c (mem_allCrossings c)) (by simp [hc])
    | some b' =>
      obtain ⟨before, d, rest, split, hd, none⟩ := List.findSome?_eq_some_iff.1 e
      have mem := mem_allCrossings c
      have asc := allCrossings_ascending
      rw [split] at mem asc
      obtain ⟨-, later, -⟩ := List.pairwise_append.1 asc
      rcases List.mem_append.1 mem with m | m
      · exact absurd (none c m) (by simp [hc])
      · rcases List.mem_cons.1 m with e | m
        · subst e; exact hd.symm.trans hc
        · exact absurd (lower d ((List.pairwise_cons.1 later).1 c m)) (by simp [hd])

theorem findCrossing_eq_none {β : Type} {f : CrossingId → Option β} :
    allCrossings.findSome? f = none ↔ ∀ c, f c = none := by simp [List.findSome?_eq_none_iff]

/-! ### The bound of a step (R14) -/

/-- The lower of a bound so far and what one more crossing allows, 0 below 0. -/
def lowered (b : Option Nat) (a : Int) : Option Nat :=
  match b with
  | none => some a.toNat
  | some b => some (min b a.toNat)

/-- The bound lowered by every allowance of a list: it reaches each of them, and is one of them or the bound begun with. -/
theorem lowered_spec (l : List Int) (b : Option Nat) :
    (∀ m, b = some m → ∃ n, l.foldl lowered b = some n ∧ n ≤ m) ∧
    (∀ a ∈ l, ∃ n, l.foldl lowered b = some n ∧ n ≤ a.toNat) ∧
    ∀ n, l.foldl lowered b = some n → b = some n ∨ ∃ a ∈ l, n = a.toNat := by
  induction l generalizing b with
  | nil => exact ⟨fun m e => ⟨m, e, le_refl m⟩, by simp, fun n e => .inl e⟩
  | cons a l ih =>
    obtain ⟨below, each, among⟩ := ih (lowered b a)
    have first : ∃ m, lowered b a = some m ∧ m ≤ a.toNat ∧ (∀ k, b = some k → m ≤ k) ∧ (b = some m ∨ m = a.toNat) := by
      cases b with
      | none => exact ⟨a.toNat, rfl, le_refl _, by simp, .inr rfl⟩
      | some k =>
        refine ⟨min k a.toNat, rfl, min_le_right _ _, fun k' e => ?_, ?_⟩
        · obtain rfl := Option.some.inj e; exact min_le_left _ _
        · rcases min_choice k a.toNat with e | e
          · exact .inl (congrArg some e.symm)
          · exact .inr e
    obtain ⟨m, hm, ha, hb, either⟩ := first
    obtain ⟨n, hn, le⟩ := below m hm
    refine ⟨fun k e => ⟨n, hn, le.trans (hb k e)⟩, fun a' h => ?_, fun n' e => ?_⟩
    · rcases List.mem_cons.1 h with rfl | h
      · exact ⟨n, hn, le.trans ha⟩
      · exact each a' h
    · rcases among n' e with e | ⟨a', h, e⟩
      · obtain rfl := Option.some.inj (hm.symm.trans e)
        exact either.imp id fun e => ⟨a, List.mem_cons_self .., e⟩
      · exact .inr ⟨a', List.mem_cons_of_mem _ h, e⟩

/-- The time since the last band end, from the band's start and length (R4). -/
theorem sinceBandEnd_eq (r : Record) (y t : Nat) : sinceBandEnd r y t = modY ((t : Int) - (r.bandStart + r.bandLen)) y := by
  unfold sinceBandEnd bandEnd modY
  rw [Int.natCast_mod, Int.sub_emod, Int.emod_emod, ← Int.sub_emod]
  push_cast; rfl

/-- The local time of a record at T = 0 (R14, R39). -/
theorem localTime_zero (o y : Nat) : localTime 0 o y = modY (-(o : Int)) y := by simp [localTime]

/-- What a stage under a record allows the step (R14). -/
theorem stepAllowed_eq {y : Nat} {c : CrossingId} {k : Stage} {r : Record} (hk : (s.crossing c).stage = some k)
    (hr : (s.crossing c).record = some r) : s.stepAllowed y c =
      if k.kind = .coordinated ∧ 0 < (s.crossing c).remaining k ∧ 0 < r.bandLen then
        some (if 0 < s.clock.correction then (gapFrom r y (localTime 0 r.offset y) : Int) - (s.crossing c).remaining k
          else (sinceBandEnd r y (localTime 0 r.offset y) : Int) - k.elapsed s.clock.now)
      else none := by
  simp only [localTime_zero, sinceBandEnd_eq, Crossing.remaining, State.stepAllowed, hk, hr]
  cases (s.crossing c).state <;> rfl

/-- What a crossing allows the step in the direction of the pending correction (R14). -/
theorem allowance_eq {y : Nat} (hy : s.clock.cycle = some y) (c : CrossingId) :
    s.allowance (decide (0 < s.clock.correction)) c = s.stepAllowed y c := by
  cases hk : (s.crossing c).stage with
  | none => simp [State.allowance, State.stepAllowed, Crossing.coordinatedInFlight, hk]
  | some k =>
    cases hr : (s.crossing c).record with
    | none => simp [State.allowance, State.stepAllowed, hk, hr]
    | some r =>
      rw [stepAllowed_eq hk hr]
      simp only [State.allowance, Crossing.coordinatedInFlight, hk, hr, hy, Option.getD_some, decide_eq_true_eq]
      by_cases flight : k.kind = .coordinated ∧ 0 < (s.crossing c).remaining k
      · obtain ⟨kind, left⟩ := flight
        by_cases band : r.bandLen = 0
        · simp [kind, left, band]
        · simp only [kind, left, band, Nat.pos_of_ne_zero band, if_true, if_false, and_self]
          split <;> rfl
      · rw [if_neg flight, if_neg fun ⟨kind, left, _⟩ => flight ⟨kind, left⟩]

/-- The bound of a step: none where no crossing allows one, and otherwise the smallest allowance, 0 below 0 (R14). -/
theorem stepBound_spec {y : Nat} (hy : s.clock.cycle = some y) :
    let b := s.stepBound (decide (0 < s.clock.correction))
    ((∀ c, s.stepAllowed y c = none) → b = none) ∧
    (∀ c a, s.stepAllowed y c = some a → ∃ n, b = some n ∧ n ≤ a.toNat) ∧
    (∀ n, b = some n → ∃ c a, s.stepAllowed y c = some a ∧ n = a.toNat) := by
  have among (a : Int) : a ∈ allCrossings.filterMap (s.allowance (decide (0 < s.clock.correction))) ↔
      ∃ c, s.stepAllowed y c = some a := by
    simp [List.mem_filterMap, allowance_eq hy]
  obtain ⟨-, each, one⟩ := lowered_spec (allCrossings.filterMap (s.allowance (decide (0 < s.clock.correction)))) none
  have spec (n : Nat) (e : s.stepBound (decide (0 < s.clock.correction)) = some n) :
      ∃ c a, s.stepAllowed y c = some a ∧ n = a.toNat := by
    obtain e | ⟨a, mem, e⟩ := one n e
    · cases e
    · obtain ⟨c, allowed⟩ := (among a).1 mem
      exact ⟨c, a, allowed, e⟩
  refine ⟨fun none => ?_, fun c a e => each a ((among a).2 ⟨c, e⟩), spec⟩
  cases e : s.stepBound (decide (0 < s.clock.correction)) with
  | none => rfl
  | some n =>
    obtain ⟨c, a, allowed, -⟩ := spec n e
    simp [none c] at allowed

/-! ### The step (R15, R16, R18) -/

/-- The step of a boundary at which nothing is deferred is the one R15 draws. -/
theorem drawsStep {y : Nat} (hy : s.clock.cycle = some y) : s.DrawsStep y (s.step15 false) := by
  obtain ⟨without, each, one⟩ := stepBound_spec (s := s) hy
  refine ⟨_, without, each, one, ?_⟩
  simp only [State.step15, hy, Option.getD_some, Bool.false_eq_true, false_and, if_false, stepSize]
  generalize s.stepBound _ = b
  cases b <;> dsimp only <;> split <;> simp

/-- At a deferral a correction of 0 or above draws the same step, and one below 0 none (R18). -/
theorem step15_deferred : s.step15 true = if s.clock.correction < 0 then 0 else s.step15 false := by
  unfold State.step15; dsimp only
  split_ifs <;> simp_all

/-- The clock after the step and the count of R16. -/
theorem correct_clock (deferred : Bool) : (s.correct deferred).2.clock =
    if s.step15 deferred = 0 then s.clock.countZeroStep else s.clock.applyStep (s.step15 deferred) := by
  unfold State.correct; dsimp only; split <;> rfl

theorem correct_store (deferred : Bool) : (s.correct deferred).2.store = s.store := by
  unfold State.correct; dsimp only; split <;> rfl

theorem correct_crossing (deferred : Bool) (c : CrossingId) : (s.correct deferred).2.crossing c = s.crossing c := by
  unfold State.correct; dsimp only; split <;> rfl

theorem correct_counters (deferred : Bool) : (s.correct deferred).2.counters.corridor.correctionsApplied =
      (if s.step15 deferred = 0 then s.counters.corridor.correctionsApplied
        else satAdd s.counters.corridor.correctionsApplied 1) ∧
    (s.correct deferred).2.counters.corridor.planAdoptions = s.counters.corridor.planAdoptions := by
  unfold State.correct; dsimp only; split
  · exact ⟨rfl, rfl⟩
  · have raised := (raise_steady (({ s with clock := s.clock.applyStep (s.step15 deferred) } : State).countCorridor fun n =>
      { n with correctionsApplied := satAdd n.correctionsApplied 1 })
      (.syncCorrection (s.step15 deferred) (s.clock.correction - s.step15 deferred))).corridorCounters
    exact ⟨congrArg CorridorCounters.correctionsApplied raised, (congrArg CorridorCounters.planAdoptions raised).trans rfl⟩

/-- The zero-step count runs to 2 while a correction waits (R16). -/
theorem countZeroStep_eq (k : Clock) : k.countZeroStep =
    { k with
      hold := k.hold || decide (k.correction ≠ 0 ∧ k.zeroSteps = 1)
      zeroSteps := if k.correction = 0 then 0 else if k.zeroSteps = 0 then 1 else if k.zeroSteps = 1 then 2 else k.zeroSteps } := by
  unfold Clock.countZeroStep
  split_ifs <;> simp_all

/-- What the evaluations at a boundary leave of the corridor's side. -/
theorem evaluateBoundary_corridor (s : State) (before : Vector Group 4) (b : Bool) :
    (s.evaluateBoundary before b).clock = s.clock ∧ (s.evaluateBoundary before b).store = s.store ∧
      (∀ c, ((s.evaluateBoundary before b).crossing c).inForce = (s.crossing c).inForce) ∧
      (s.evaluateBoundary before b).counters.corridor.work = s.counters.corridor.work := by
  have steady := evaluateBoundary_steady s before b
  exact ⟨steady.clock.trans (withDueFor_clock s b), steady.store.trans (withDueFor_store s b),
    fun c => (steady.records c).trans (by simp), steady.corridorCounters.trans (by simp)⟩

/-- CYCLE_BOUNDARY announced: the boundary's work, and the transmitter's look. -/
theorem exec_cycleBoundary (due : s.IsDue .cycleBoundary) :
    exec .cycleBoundary s = .next (s.without .cycleBoundary).boundary.transmit :=
  congrArg Host.Outcome.next (take_due due State.boundary)

/-- A boundary without an adoption, in COORDINATED mode, draws a step and evaluates. -/
theorem boundary_of_step {u : State} {deferred : Bool}
    (plan : s.unheld.planBoundary = (if deferred then .deferred else .nothing, u)) (m : u.clock.mode = .coordinated) :
    ∃ b, s.boundary = (u.correct deferred).2.evaluateBoundary s.groups b := by
  refine ⟨(u.correct deferred).1, ?_⟩
  rw [boundary_eq, plan]
  cases deferred <;> simp [State.clockBoundary, PlanOutcome.allowsStep, PlanOutcome.isAdoption, m]

/-- Settles O18. -/
theorem boundaryStepsTheCorrection : Obligations.BoundaryStepsTheCorrection := by
  unfold Obligations.BoundaryStepsTheCorrection
  intro s y due none m hy
  have plan : (s.without .cycleBoundary).unheld.planBoundary = (.nothing, (s.without .cycleBoundary).unheld) := by
    unfold State.planBoundary
    rw [show (s.without .cycleBoundary).unheld.store.pendingSelection = Option.none from none]
  obtain ⟨b, e⟩ := boundary_of_step (deferred := false) plan m
  have links := ((without_links s .cycleBoundary).trans (boundary_links _)).transmit
  refine ⟨_, s.step15 false, exec_cycleBoundary due, drawsStep hy, ?_⟩
  rw [e] at links ⊢
  obtain ⟨clock, store, records, work⟩ := evaluateBoundary_corridor
    ((s.without .cycleBoundary).unheld.correct false).2 (s.without .cycleBoundary).groups b
  have counted := (correct_counters (s := (s.without .cycleBoundary).unheld) false).1
  rw [correct_clock] at clock
  rw [correct_store] at store
  have records c := (records c).trans (congrArg Crossing.inForce (correct_crossing false c))
  have work := (congrArg CorridorCounters.correctionsApplied work).trans counted
  generalize State.evaluateBoundary _ _ _ = t at links clock store records work ⊢
  have step : (s.without .cycleBoundary).unheld.step15 false = s.step15 false := rfl
  rw [step] at clock work
  refine ⟨fun moved => ?_, fun still => ?_, store, records, links.2, links.1⟩
  · rw [if_neg moved] at clock work
    exact ⟨by rw [transmit_clock, clock, Clock.applyStep]; simp [hy, State.unheld], work⟩
  · rw [if_pos still] at clock work
    exact ⟨by rw [transmit_clock, clock, countZeroStep_eq]; rfl, work⟩

/-! ### The deferral (R38, R39) -/

/-- The crossing fails the stage test under a selection with this base header: its coordinated stage's remaining time, above
0, and the new gap unless in the band. -/
def State.Fails (s : State) (sel : Selection) (h : Header) (c : CrossingId) (r : Nat) (gap : Option Nat) : Prop :=
  ∃ k f, (s.crossing c).stage = some k ∧ k.kind = .coordinated ∧ r = (s.crossing c).remaining k ∧ 0 < r ∧
    s.store.effective sel c = some f ∧
    (match stageTest f.record h.cycle r with
      | .passes => False
      | .inBand => gap = none
      | .beyond g => gap = some g)

theorem coordinatedInFlight_eq_some {x : Crossing} {k : Stage} {r : Nat} :
    x.coordinatedInFlight = some (k, r) ↔ x.stage = some k ∧ k.kind = .coordinated ∧ r = x.remaining k ∧ 0 < r := by
  unfold Crossing.coordinatedInFlight
  cases x.stage with
  | none => simp
  | some k' =>
    dsimp only
    split <;> simp <;> grind

/-- The stage test at a crossing names it, with the remaining time and the gap, exactly where it fails. -/
theorem failsAt_eq_some {sel : Selection} {h : Header} {c : CrossingId} {f : Failing} :
    s.failsAt sel h c = some f ↔ f.crossing = c ∧ s.Fails sel h c f.remaining f.gap := by
  unfold State.failsAt State.Fails
  cases e : (s.crossing c).coordinatedInFlight with
  | none =>
    have standing k r := (coordinatedInFlight_eq_some (x := s.crossing c) (k := k) (r := r)).not.1 (by simp [e])
    simp only [reduceCtorEq, false_iff]
    rintro ⟨-, k, g, hk, kind, left, pos, -⟩
    exact standing k _ ⟨hk, kind, left, pos⟩
  | some p =>
    obtain ⟨k, r⟩ := p
    obtain ⟨hk, kind, rfl, pos⟩ := coordinatedInFlight_eq_some.1 e
    obtain ⟨c', r', gap⟩ := f
    cases hf : s.store.effective sel c with
    | none => simp
    | some g =>
      cases test : stageTest g.record h.cycle ((s.crossing c).remaining k) <;> dsimp only <;> grind

/-- The state after a deferral at a boundary, before the clock's own work. -/
def State.deferred (s : State) (sel : Selection) (f : Failing) : State :=
  (s.without .cycleBoundary).unheld.deferAdoption sel f

theorem deferred_counters (s : State) (sel : Selection) (f : Failing) :
    (s.deferred sel f).counters.corridor.correctionsApplied = s.counters.corridor.correctionsApplied ∧
    (s.deferred sel f).counters.corridor.planAdoptions = s.counters.corridor.planAdoptions := by
  have work : (s.deferred sel f).counters.corridor.work = s.counters.corridor.work := (raise_steady _ _).corridorCounters
  exact ⟨(congrArg CorridorCounters.correctionsApplied work :), (congrArg CorridorCounters.planAdoptions work :)⟩

/-- The clock after a boundary's step, 0 or not (R15, R16). -/
def Clock.stepped (k : Clock) (δ : Int) : Clock := if δ = 0 then k.countZeroStep else k.applyStep δ

theorem stepped_hold (k : Clock) (δ : Int) (held : k.hold = true) : (k.stepped δ).hold = true := by
  unfold Clock.stepped; split
  · simp [countZeroStep_eq, held]
  · exact held

theorem stepped_kept (k : Clock) (δ : Int) : (k.stepped δ).cycle = k.cycle ∧ (k.stepped δ).mode = k.mode := by
  unfold Clock.stepped; split
  · rw [countZeroStep_eq]; exact ⟨rfl, rfl⟩
  · exact ⟨rfl, rfl⟩

theorem stepped_eq (k : Clock) (δ : Int) {y : Nat} (hy : k.cycle = some y) :
    (k.stepped δ).corridorTime = (if δ = 0 then k.corridorTime else modY δ y) ∧
    (k.stepped δ).correction = k.correction - δ ∧
    (k.stepped δ).zeroSteps = (if δ ≠ 0 ∨ k.correction = 0 then 0 else if k.zeroSteps = 0 then 1
      else if k.zeroSteps = 1 then 2 else k.zeroSteps) := by
  unfold Clock.stepped
  by_cases still : δ = 0
  · simp [countZeroStep_eq, still]
  · simp [Clock.applyStep, still, hy]

/-- A boundary without an adoption in FREE mode evaluates alone. -/
theorem boundary_of_free {u : State} {o : PlanOutcome} (plan : s.unheld.planBoundary = (o, u)) (kept : o.isAdoption = false)
    (m : u.clock.mode = .free) : s.boundary = u.evaluateBoundary s.groups false := by
  rw [boundary_eq, plan]
  simp [State.clockBoundary, m, kept]

/-- Settles O17. -/
theorem failedStageTestDefersTheAdoption : Obligations.FailedStageTestDefersTheAdoption := by
  unfold Obligations.FailedStageTestDefersTheAdoption
  refine ⟨fun s sel h f due pending header undeferred failing => ?_, fun s sel h => ?_, fun rec y r pos => ?_⟩
  · have plan : (s.without .cycleBoundary).unheld.planBoundary =
        (.deferred, (s.without .cycleBoundary).unheld.deferAdoption sel f) := by
      unfold State.planBoundary
      rw [show (s.without .cycleBoundary).unheld.store.pendingSelection = some sel from pending]
      dsimp only
      rw [show (s.without .cycleBoundary).unheld.store.header sel.base = some h from header,
        show (s.without .cycleBoundary).unheld.store.deferral = false from undeferred]
      dsimp only
      rw [show (s.without .cycleBoundary).unheld.failing sel h = some f from failing]
      rfl
    have plan : (s.without .cycleBoundary).unheld.planBoundary = (.deferred, s.deferred sel f) := plan
    have links := ((without_links s .cycleBoundary).trans (boundary_links _)).transmit
    refine ⟨_, exec_cycleBoundary due, ?_⟩
    obtain ⟨before, same⟩ := deferred_counters s sel f
    cases m : s.clock.mode with
    | free =>
      rw [boundary_of_free plan rfl m] at links ⊢
      obtain ⟨clock, store, records, work⟩ := evaluateBoundary_corridor (s.deferred sel f) (s.without .cycleBoundary).groups false
      have adoptions := (congrArg CorridorCounters.planAdoptions work).trans same
      generalize State.evaluateBoundary _ _ _ = t at links clock store records adoptions ⊢
      rw [transmit_clock, clock]
      exact ⟨store, rfl, rfl, m, fun _ => ⟨rfl, rfl, rfl⟩, nofun, records, adoptions, links.1.links, links.2⟩
    | coordinated =>
      obtain ⟨b, e⟩ := boundary_of_step (deferred := true) plan m
      rw [e] at links ⊢
      obtain ⟨clock, store, records, work⟩ := evaluateBoundary_corridor ((s.deferred sel f).correct true).2
        (s.without .cycleBoundary).groups b
      obtain ⟨applied, adoptions⟩ := correct_counters (s := s.deferred sel f) true
      have clock : _ = (s.deferred sel f).clock.stepped (s.step15 true) := clock.trans (correct_clock true)
      rw [correct_store] at store
      have records c := (records c).trans (congrArg Crossing.inForce (correct_crossing true c))
      have applied := (congrArg CorridorCounters.correctionsApplied work).trans applied
      have adoptions := (congrArg CorridorCounters.planAdoptions work).trans (adoptions.trans same)
      generalize State.evaluateBoundary _ _ _ = t at links clock store records applied adoptions ⊢
      rw [show (s.deferred sel f).step15 true = s.step15 true from rfl, before] at applied
      obtain ⟨cycle, mode⟩ := stepped_kept (s.deferred sel f).clock (s.step15 true)
      have hold := stepped_hold (s.deferred sel f).clock (s.step15 true) rfl
      rw [transmit_clock, clock]
      refine ⟨store, hold, cycle, mode.trans m, nofun, fun y _ hy => ⟨s.step15 true, fun neg => ?_, fun pos => ?_, ?_⟩,
        records, adoptions, links.1.links, links.2⟩
      · rw [step15_deferred, if_pos neg]
      · rw [step15_deferred, if_neg (Int.not_lt.2 pos)]; exact drawsStep hy
      · obtain ⟨time, correction, zero⟩ := stepped_eq (s.deferred sel f).clock (s.step15 true) hy
        exact ⟨time, correction, zero, applied⟩
  · intro fails
    have same (c : CrossingId) (r : Nat) (gap : Option Nat) : fails c r gap ↔ s.Fails sel h c r gap := by
      unfold State.Fails Crossing.remaining fails
      cases (s.crossing c).state <;> rfl
    have passes (c : CrossingId) : s.failsAt sel h c = none ↔ ∀ r gap, ¬ s.Fails sel h c r gap := by
      rw [Option.eq_none_iff_forall_ne_some]
      exact ⟨fun none r gap bad => none ⟨c, r, gap⟩ (failsAt_eq_some.2 ⟨rfl, bad⟩),
        fun none f e => none _ _ (failsAt_eq_some.1 e).2⟩
    simp only [same]
    refine ⟨fun f => findCrossing_eq_some.trans ?_, findCrossing_eq_none.trans (forall_congr' passes)⟩
    simp only [failsAt_eq_some, passes]
    exact ⟨fun ⟨c, ⟨e, bad⟩, lower⟩ => by subst e; exact ⟨bad, fun c r gap lt => lower c lt r gap⟩,
      fun ⟨bad, lower⟩ => ⟨_, ⟨rfl, bad⟩, fun c lt r gap => lower c r gap lt⟩⟩
  · simp only [stageTest, inBand, gapFrom, localTime_zero, modY, decide_eq_true_eq]

end Sys2Proof.Machine
end

section
/-!
The laws in the machine right after reset (O60).
-/

namespace Sys2Proof.Machine

/-! ### What the machine right after reset holds (R22, R44, R65, R95, R120, R134, R153, R169, R188) -/

@[simp] theorem reset_crossing (c : CrossingId) : State.reset.crossing c = .initial := by simp [State.reset, State.crossing]
@[simp] theorem reset_group (g : GroupId) : State.reset.group g = .initial := by simp [State.reset, State.group]
@[simp] theorem reset_unit (u : UnitId) : State.reset.unit u = .initial none := by simp [State.reset, State.unit]

/-- No bank holds a header (section 2.1). -/
@[simp] theorem reset_header (b : BankId) : State.reset.store.header b = none := by
  simp [State.reset, PlanStore.header, PlanStore.delivered, Bank.delivered, Slot.empty, Slot.present]

/-- No unit is mapped, and no side of a crossing has a working button (R153). -/
theorem reset_workingSides (c : CrossingId) : State.reset.workingSides c = {} := by
  have alone (d : Side) : (KerbUnit.initial none).mappedTo c d = false := rfl
  simp [State.workingSides, alone]

/-! ### The laws -/

/-- The outputs of the UNCONFIGURED state are all off, proved off and at rest (R120, R134). -/
theorem initial_outputsLaw : Crossing.initial.OutputsLaw := by
  have off (o : Lamp) : commandedMode Crossing.initial.state o = .off := by cases o <;> rfl
  refine ⟨fun o => ?_, ⟨fun _ o => by simp [off], fun _ => rfl⟩, by decide, nofun⟩
  rw [off]
  cases o <;> decide

theorem initial_stageLaw : Crossing.initial.StageLaw := by constructor <;> decide

/-- No lamp is lit, and so no walk is shown against traffic (R134). -/
theorem reset_safe : Safe .reset := fun c lit => by
  rw [reset_crossing] at lit
  exact lit.1 rfl

theorem initial_countLaw : (KerbUnit.initial none).CountLaw := ⟨Nat.zero_le 5, Nat.zero_le 2⟩

/-- A unit that is not mapped has no level to compute (R155). -/
theorem reset_levelLaw : State.reset.LevelLaw := fun u => by rw [reset_unit]; rfl

theorem reset_headerLaw : State.reset.HeaderLaw := ⟨fun b h e => by simp at e, nofun⟩

theorem reset_timeLaw : State.reset.TimeLaw := ⟨rfl, nofun, fun _ => ⟨rfl, rfl⟩, by decide⟩

theorem reset_planLaw : State.reset.PlanLaw := ⟨nofun, nofun, nofun, fun c => by rw [reset_crossing]; rfl⟩

theorem reset_groupLaw : State.reset.GroupLaw := by
  refine ⟨fun c => by rw [reset_crossing]; exact initial_stageLaw, fun g => ?_⟩
  simp [State.countedIn, Group.initial, Crossing.initial]

theorem reset_workingLaw : State.reset.WorkingLaw := fun c => by rw [reset_workingSides, reset_crossing]; exact ⟨rfl, rfl⟩

/-- Every counter starts from 0 (R175). -/
theorem initial_saturated : Counters.initial.Saturated := by
  refine ⟨fun c n h => ?_, fun u n h => ?_, fun n h => ?_⟩
  all_goals simp [Counters.initial, CrossingCounters.values, UnitCounters.values, CorridorCounters.values] at h
  all_goals exact h ▸ Nat.zero_le _

/-- Settles O60. -/
theorem resetKeepsEveryLaw : Obligations.ResetKeepsEveryLaw := by
  unfold Obligations.ResetKeepsEveryLaw
  exact ⟨fun c => by rw [reset_crossing]; exact initial_outputsLaw, reset_safe, nofun, ⟨List.nodup_nil, nofun⟩,
    reset_headerLaw, reset_timeLaw, reset_planLaw, reset_groupLaw, reset_levelLaw,
    fun u => by rw [reset_unit]; exact initial_countLaw, reset_workingLaw, ⟨Nat.zero_le 4, Nat.zero_le 32⟩, initial_saturated⟩

end Sys2Proof.Machine
end

section
/-!
SYNC (O20).
-/

namespace Sys2Proof.Machine

variable {s t : State}

/-! ### What a reference does by its result (R9 to R11) -/

/-- The clock after a reference has been dealt with with this result. -/
def Clock.referred (k : Clock) (tref : Nat) : ClockResult → Clock
  | .timeOfDayOnly | .notSet => k
  | .entered => { k with corridorTime := tref, mode := .coordinated, correction := 0, zeroSteps := 0 }
  | .set => { k with corridorTime := tref }
  | .inStep => { k with correction := 0 }
  | .pending => { k with correction := syncError tref k.corridorTime (k.cycle.getD 0) }

theorem referred_kept (k : Clock) (n : Nat) (r : ClockResult) :
    (k.referred n r).timeOfDay = k.timeOfDay ∧ (k.referred n r).phase = k.phase ∧
    (k.referred n r).timeValid = k.timeValid ∧ (k.referred n r).watchdog = k.watchdog ∧ (k.referred n r).now = k.now ∧
    (k.referred n r).cycle = k.cycle ∧ (k.referred n r).hold = k.hold ∧ (k.referred n r).boundaryDue = k.boundaryDue := by
  cases r <;> exact ⟨rfl, rfl, rfl, rfl, rfl, rfl, rfl, rfl⟩

/-- The result of a reference (R9 to R11). -/
def State.referenceResult (s : State) (tref : Nat) : ClockResult :=
  match s.clock.mode with
  | .free => match s.store.headerInForce with
    | none => .timeOfDayOnly
    | some h => if s.anyCoordinatedStage then .notSet else if h.coordination then .entered else .set
  | .coordinated =>
    if (syncError tref s.clock.corridorTime (s.clock.cycle.getD 0)).natAbs ≤ 5 then .inStep else .pending

/-- The state a reference with this result is evaluated from: the clock set, and where T was set its boundary withdrawn and
the band ends replaced by the time-step event (R5, R10). -/
structure Referred (s t : State) (tref : Nat) (result : ClockResult) : Prop where
  clock : t.clock = s.clock.referred tref result
  store : t.store = s.store
  records : ∀ c, (t.crossing c).inForce = (s.crossing c).inForce
  work : t.counters.corridor.work = s.counters.corridor.work
  due : t.due = if result = .entered ∨ result = .set then withoutBandEnds (withoutBoundary s.due) else s.due

theorem enterCoordinated_referred (s : State) (n : Nat) : Referred s (s.enterCoordinated n) n .entered := by
  have e : s.enterCoordinated n = (({ s.setTime n with clock := s.clock.referred n .entered } : State).raise
    (.modeChange .coordinated .sync)).timeStep := rfl
  have raised := raise_steady ({ s.setTime n with clock := s.clock.referred n .entered } : State) (.modeChange .coordinated .sync)
  rw [e]
  generalize State.raise _ _ = u at raised ⊢
  have steady := evaluateAll_steady { u with due := withoutBandEnds u.due }
  exact ⟨steady.clock.trans raised.clock, steady.store.trans raised.store, fun c => (steady.records c).trans (raised.records c),
    steady.corridorCounters.trans raised.corridorCounters, steady.due.trans (congrArg withoutBandEnds raised.due)⟩

theorem setCorridorTime_referred (s : State) (n : Nat) : Referred s (s.setCorridorTime n) n .set := by
  have steady := evaluateAll_steady { s.setTime n with due := withoutBandEnds (s.setTime n).due }
  exact ⟨steady.clock, steady.store, steady.records, steady.corridorCounters, steady.due⟩

/-- A reference dealt with in the order of R9 to R11. -/
theorem takeReference_referred (s : State) (n : Nat) :
    (s.takeReference n).1 = s.referenceResult n ∧ Referred s (s.takeReference n).2 n (s.referenceResult n) := by
  unfold State.takeReference State.referenceResult
  cases s.clock.mode with
  | free =>
    cases s.store.headerInForce with
    | none => exact ⟨rfl, rfl, rfl, fun _ => rfl, rfl, rfl⟩
    | some h =>
      dsimp only
      by_cases flight : s.anyCoordinatedStage
      · rw [if_pos flight, if_pos flight]; exact ⟨rfl, rfl, rfl, fun _ => rfl, rfl, rfl⟩
      · rw [if_neg flight, if_neg flight]
        by_cases allowed : h.coordination
        · rw [if_pos allowed, if_pos allowed]; dsimp only; exact ⟨rfl, enterCoordinated_referred s n⟩
        · rw [if_neg allowed, if_neg allowed]; dsimp only; exact ⟨rfl, setCorridorTime_referred s n⟩
  | coordinated =>
    dsimp only
    split
    · exact ⟨rfl, rfl, rfl, fun _ => rfl, rfl, rfl⟩
    · exact ⟨rfl, rfl, rfl, fun _ => rfl, rfl, rfl⟩

theorem mem_withoutBandEnds (l : List Due) (d : Due) : d ∈ withoutBandEnds l ↔ d ∈ l ∧ ∀ c, d ≠ .bandEnd c := by
  cases d <;> simp [withoutBandEnds]

/-- The clock of a SYNC whose time of day has been taken. -/
theorem takeTimeOfDay_clock (s : State) (n : Nat) : ∃ q, (s.takeTimeOfDay n).clock =
    { s.clock with timeOfDay := n, phase := 0, timeValid := true, watchdog := 0, quiet := q } :=
  ⟨_, reviewQuiet_clock _⟩

/-- What an accepted SYNC does but for the time of day (R8 to R11), from the state in which its turn comes. -/
theorem exec_sync {fr : Frame} {rest : List Frame} {tref seconds : Nat} (turn : s.AtTurn fr rest)
    (hk : fr.isKind 7 = true) (len : fr.body.length = 6) (ht : tref = readTwo fr.body 0) (hs : seconds = readFour fr.body 2)
    (ok : s.syncInRange tref seconds = true) :
    ∃ u : State, LinksKept (s.taking rest) u ∧
      Referred ((s.taking rest).takeTimeOfDay seconds) u tref (((s.taking rest).takeTimeOfDay seconds).referenceResult tref) ∧
      exec .sync s = .next (u.respond fr.tag (.done (.sync (((s.taking rest).takeTimeOfDay seconds).referenceResult tref)
        u.clock.mode u.clock.corridorTime u.clock.correction))).transmit := by
  subst ht hs
  obtain ⟨result, referred⟩ := takeReference_referred ((s.taking rest).takeTimeOfDay (readFour fr.body 2)) (readTwo fr.body 0)
  refine ⟨_, (takeTimeOfDay_links _ _).trans (takeReference_links _ _), referred, ?_⟩
  refine congrArg Host.Outcome.next ((serve_at_turn turn hk executeSync).trans ?_)
  have ok : (s.taking rest).syncInRange (readTwo fr.body 0) (readFour fr.body 2) = true := ok
  simp only [executeSync, len, ok, State.acceptSync, State.done, result, if_true]

/-- Settles O20. -/
theorem syncIsRefusedOrSetsTheClock : Obligations.SyncIsRefusedOrSetsTheClock := by
  unfold Obligations.SyncIsRefusedOrSetsTheClock
  refine ⟨fun fr rest s turn hk len out => ?_, fun fr rest s tref seconds turn hk len ht hs day ref => ?_⟩
  · refine congrArg Host.Outcome.next ((serve_at_turn turn hk executeSync).trans ?_)
    have refused : s.syncInRange (readTwo fr.body 0) (readFour fr.body 2) = false := by
      unfold State.syncInRange
      rcases out with late | ⟨some, wide⟩
      · simp [Nat.not_lt.2 late]
      · cases h : s.store.inForce <;> simp_all
    have refused : (s.taking rest).syncInRange (readTwo fr.body 0) (readFour fr.body 2) = false := refused
    simp only [executeSync, len, refused]
    rfl
  · have ok : s.syncInRange tref seconds = true := by
      unfold State.syncInRange
      cases h : s.store.inForce <;> simp_all
    obtain ⟨u, links, referred, e⟩ := exec_sync turn hk len ht hs ok
    obtain ⟨q, taken⟩ := takeTimeOfDay_clock (s.taking rest) seconds
    have store : ((s.taking rest).takeTimeOfDay seconds).store = s.store := reviewQuiet_store _
    have crossing (c : CrossingId) : ((s.taking rest).takeTimeOfDay seconds).crossing c = s.crossing c := reviewQuiet_crossing _ c
    have counted : ((s.taking rest).takeTimeOfDay seconds).counters.corridor.syncAccepted =
        satAdd s.counters.corridor.syncAccepted 1 := congrArg (·.corridor.syncAccepted) (reviewQuiet_counters _)
    have due : ((s.taking rest).takeTimeOfDay seconds).due = s.due := reviewQuiet_due _
    generalize (s.taking rest).takeTimeOfDay seconds = w at *
    have same : w.referenceResult tref = s.referenceResult tref := by
      have stage : w.anyCoordinatedStage = s.anyCoordinatedStage := by simp only [State.anyCoordinatedStage, crossing]
      have header : w.store.headerInForce = s.store.headerInForce := by rw [store]
      simp only [State.referenceResult, taken, header, stage]; rfl
    rw [same] at referred e
    have clock := referred.clock
    obtain ⟨time, phase, valid, watchdog, now, cycle, hold, boundary⟩ := referred_kept w.clock tref (s.referenceResult tref)
    rw [← clock, taken] at time phase valid watchdog now cycle hold boundary
    rw [taken] at clock
    obtain ⟨kerb, port⟩ := links.transmit
    refine ⟨_, _, e, time, phase, valid, watchdog, now, cycle, hold, boundary,
      (congrArg CorridorCounters.syncAccepted referred.work).trans counted, answered_respond links.transmission,
      referred.store.trans store, ?_, ?_, ?_, ⟨kerb.links, kerb.lastPolled, kerb.resting, kerb.ended, kerb.transaction⟩,
      fun c => (referred.records c).trans (congrArg Crossing.inForce (crossing c)), ?_, ?_⟩
    · exact (transmit_portKept _).requests.trans links.requests
    · exact (transmit_portKept _).executing.trans links.executing
    · exact (transmit_portKept _).filter.trans links.filter
    · rw [transmit_clock, respond_clock, clock]
      unfold State.referenceResult
      cases mode : s.clock.mode with
      | free =>
        cases s.store.headerInForce with
        | none => exact ⟨rfl, mode, rfl, rfl, rfl⟩
        | some h =>
          dsimp only
          by_cases flight : s.anyCoordinatedStage
          · rw [if_pos flight, if_pos flight]; exact ⟨rfl, mode, rfl, rfl, rfl⟩
          · rw [if_neg flight, if_neg flight]
            by_cases allowed : h.coordination
            · rw [if_pos allowed, if_pos allowed]; exact ⟨rfl, rfl, rfl, rfl, rfl⟩
            · rw [if_neg allowed, if_neg allowed]; exact ⟨rfl, mode, rfl, rfl, rfl⟩
      | coordinated =>
        dsimp only
        by_cases near : (syncError tref s.clock.corridorTime (s.clock.cycle.getD 0)).natAbs ≤ 5
        · rw [if_pos near]; exact ⟨mode, rfl, rfl, (if_pos near).symm ▸ ⟨rfl, rfl⟩⟩
        · rw [if_neg near]; exact ⟨mode, rfl, rfl, (if_neg near).symm ▸ ⟨rfl, rfl⟩⟩
    · rw [transmit_due, respond_due, referred.due, due]
      split
      · intro d; simp only [mem_withoutBandEnds, mem_withoutBoundary, and_assoc]
      · rfl

end Sys2Proof.Machine
end

section
/-!
PLAN SELECT (O26).
-/

namespace Sys2Proof.Machine

variable {s : State}

/-! ### The selection two bytes name (R24, R36) -/

/-- Only a byte from 1 to n numbers a part. -/
theorem numbered_eq_none {n : Nat} {b : Byte} : numbered n b = none ↔ b.toNat < 1 ∨ n < b.toNat := by
  unfold numbered; split
  · rename_i h; simp; omega
  · rename_i h; simp; omega

theorem readSelection_eq_none {bb ob : Byte} (h : numbered 4 bb = none ∨ 4 < ob.toNat ∨ ob = bb) :
    readSelection bb ob = none := by
  unfold readSelection
  cases hb : numbered 4 bb with
  | none => rfl
  | some base =>
    rcases h with h | wide | same
    · simp [hb] at h
    · have none : numbered 4 ob = none := numbered_eq_none.2 (.inr wide)
      simp only [none]
      exact if_neg (by omega)
    · subst same
      have pos : ¬ ob.toNat = 0 := fun zero => by
        rw [numbered_eq_none.2 (.inl (by omega))] at hb
        cases hb
      simp [hb, pos]

theorem readSelection_eq_some {bb ob : Byte} {base : BankId} {overlay : Option BankId} (hb : numbered 4 bb = some base)
    (ho : ob = 0 ∧ overlay = none ∨ overlay = numbered 4 ob ∧ overlay.isSome = true ∧ overlay ≠ some base) :
    readSelection bb ob = some { base := base, overlay := overlay } := by
  simp only [readSelection, hb]
  rcases ho with ⟨rfl, rfl⟩ | ⟨named, some, ne⟩
  · rfl
  · obtain ⟨o, rfl⟩ := Option.isSome_iff_exists.1 some
    have pos : ¬ ob.toNat = 0 := fun zero => by
      rw [numbered_eq_none.2 (.inl (by omega))] at named
      cases named
    have other : ¬ o = base := fun e => ne (congrArg _ e)
    simp only [pos, if_false, ← named, other]

/-! ### The checks at a selection (R36) -/

/-- A named group must have K of 1 or more. -/
theorem groupDefined_iff (r : Record) (h : Header) :
    r.groupDefined h = false ↔ ∃ g, r.group = some g ∧ (h.groups[g]).stageLimit = 0 := by
  unfold Record.groupDefined
  cases r.group <;> simp

/-- The fit test of R26, written out. -/
theorem fits_iff (r : Record) (y : Nat) : r.fits y = false ↔ 0 < r.bandLen ∧ y < r.bandLen + (r.amber + r.leadRed + r.minWalk +
    ((100 * r.length + r.accessibleSpeed - 1) / r.accessibleSpeed + r.margin) + r.trailRed) := by
  simp only [Record.fits, Record.fixedPart, Record.clearance, clearanceOf, ceilDiv, if_true, Bool.or_eq_false_iff,
    decide_eq_false_iff_not]
  omega

theorem checkAtSelect_eq (h : Header) (r : Record) : checkAtSelect h r =
    if ¬ (r.offset < h.cycle ∧ r.bandStart < h.cycle ∧ r.bandLen < h.cycle) then some .range
    else if ∃ g, r.group = some g ∧ (h.groups[g]).stageLimit = 0 then some .group
    else if 0 < r.bandLen ∧ h.cycle < r.bandLen + (r.amber + r.leadRed + r.minWalk +
        ((100 * r.length + r.accessibleSpeed - 1) / r.accessibleSpeed + r.margin) + r.trailRed) then some .fit
    else none := by
  have placed : (!r.placed h.cycle) = true ↔ ¬ (r.offset < h.cycle ∧ r.bandStart < h.cycle ∧ r.bandLen < h.cycle) := by
    simp [Record.placed]
    omega
  simp only [checkAtSelect, placed, Bool.not_eq_true', groupDefined_iff, fits_iff]

/-- What a crossing contributes to the first misfit. -/
theorem misfitAt_eq_some {p : PlanStore} {sel : Selection} {h : Header} {c : CrossingId} {m : CrossingId × RecordReason} :
    ((p.effective sel c).bind fun f => (checkAtSelect h f.record).map fun reason => (c, reason)) = some m ↔
      m.1 = c ∧ ∃ f, p.effective sel c = some f ∧ checkAtSelect h f.record = some m.2 := by
  obtain ⟨d, reason⟩ := m
  simp only [Option.bind_eq_some_iff, Option.map_eq_some_iff, Prod.mk.injEq]
  grind

theorem misfitAt_eq_none {p : PlanStore} {sel : Selection} {h : Header} {c : CrossingId} :
    ((p.effective sel c).bind fun f => (checkAtSelect h f.record).map fun reason => (c, reason)) = none ↔
      ∀ f, p.effective sel c = some f → checkAtSelect h f.record = none := by
  simp [Option.bind_eq_none_iff]

/-- Settles O26. -/
theorem planSelectMakesTheSelectionPending : Obligations.PlanSelectMakesTheSelectionPending := by
  unfold Obligations.PlanSelectMakesTheSelectionPending
  refine ⟨checkAtSelect_eq, fun p sel h => ⟨?_, fun c reason first => ?_⟩, fun fr rest s bb ob turn hk body => ?_⟩
  · exact findCrossing_eq_none.trans (forall_congr' fun c => misfitAt_eq_none)
  · obtain ⟨d, found, lower⟩ := findCrossing_eq_some.1 first
    obtain ⟨rfl, fails⟩ := misfitAt_eq_some.1 found
    exact ⟨fails, fun c' lt => misfitAt_eq_none.1 (lower c' lt)⟩
  · have served (t : State) (e : (executePlanSelect fr (s.taking rest)).transmit = t) : exec .planSelect s = .next t :=
      congrArg Host.Outcome.next ((serve_at_turn turn hk executePlanSelect).trans e)
    simp only [executePlanSelect, body] at served
    refine ⟨fun bad => served _ ?_, fun base overlay hb ho => ⟨fun none => ?_, fun h c reason header misfit => ?_,
      fun h header fits => ?_⟩⟩
    · rw [readSelection_eq_none bad]; rfl
    all_goals refine served _ ?_; rw [readSelection_eq_some hb ho]; dsimp only [State.select]
    · rw [show (s.taking rest).store.header base = Option.none from none]; rfl
    · rw [show (s.taking rest).store.header base = some h from header]; dsimp only
      rw [show (s.taking rest).store.misfit _ h = some (c, reason) from misfit]; rfl
    · rw [show (s.taking rest).store.header base = some h from header]; dsimp only
      rw [show (s.taking rest).store.misfit _ h = Option.none from fits]; rfl

end Sys2Proof.Machine
end

section
/-!
The three status reports (O8).
-/

namespace Sys2Proof.Machine

variable {s : State}

/-! ### What the reports are made of -/

/-- The time to an expiry as a report gives it. -/
theorem map_untilTime (now : Time) (n : Option Time) :
    n.map (untilTime now) = n.map fun n => if reached now n then 0 else since n now := rfl

/-- The window of a group is open while a stage is active and the pairing lasts (R86). -/
theorem windowOpen_eq (g : Group) (now : Time) : g.windowOpen now = decide (0 < g.active ∧ since now g.release ≤ g.pairing) := by
  simp [Group.windowOpen]

/-- A set of addresses, in ascending order, over the units' numbers. -/
theorem ascending_eq (l : List UnitId) : ascending l = (List.finRange 32).filter fun v => decide (v ∈ l) :=
  congrArg (List.filter _) (by decide : allUnits = List.finRange 32)

/-- The phase of a sample with its elapsed time (R168). -/
theorem sampleItems_eq (now : Time) (q : Option Sample) : sampleItems now q = match q with
    | none => [0]
    | some q => (match q.phase with
      | .requested => [1]
      | .measuring start => [2] ++ two (reportedSince now start)
      | .closed _ _ => [3]) ++ [yesNo q.earlyEnd] ++ unitSet (ascending q.muted) := by
  cases q with
  | none => rfl
  | some q => cases h : q.phase <;> simp [sampleItems, h, SamplePhase.code]

/-- Settles O8. -/
theorem statusReportsOnlyReport : Obligations.StatusReportsOnlyReport := by
  unfold Obligations.StatusReportsOnlyReport
  refine ⟨fun fr rest s turn => ⟨fun hk body => ?_, fun b hk body => ?_, fun b hk body => ?_⟩, fun n => ⟨rfl, rfl, rfl, rfl⟩,
    fun s => ?_, fun s c => ?_, fun k m now => ⟨?_, ?_⟩⟩
  · refine congrArg Host.Outcome.next ((serve_at_turn turn hk executeStatus).trans ?_)
    simp only [executeStatus, body]; rfl
  · refine congrArg Host.Outcome.next ((serve_at_turn turn hk executeCrossingStatus).trans ?_)
    simp only [executeCrossingStatus, body]
    cases numbered 8 b <;> rfl
  · refine congrArg Host.Outcome.next ((serve_at_turn turn hk executeUnitStatus).trans ?_)
    simp only [executeUnitStatus, body]
    cases numbered 32 b with
    | none => rfl
    | some u =>
      dsimp only
      rw [show ((s.taking rest).unit u).mapping = (s.unit u).mapping from rfl]
      cases (s.unit u).mapping <;> rfl
  · simp only [State.statusItems, Clock.items, PlanStore.items, Group.items, windowOpen_eq, map_untilTime, reportedSince,
      saturate, List.append_assoc, List.cons_append, List.nil_append]
    rfl
  · simp only [State.crossingItems, State.callItems, CallRecord.report, CallReport.bytes, State.stageItems, State.slack,
      Stage.items, SignalPort.items, map_untilTime, reportedSince, saturate, List.append_assoc, List.cons_append,
      List.nil_append]
    cases (s.crossing c).stage with
    | none => rfl
    | some k =>
      dsimp only
      cases k.kind with
      | free => rfl
      | coordinated =>
        cases (s.crossing c).record with
        | none => rfl
        | some r => by_cases band : 0 < r.bandLen <;> simp only [band, if_true, if_false] <;> rfl
  · simp only [KerbUnit.entryItems, ascending_eq, unitSet, baselineItems, KerbUnit.revivalItems, map_untilTime,
      List.append_assoc, List.cons_append, List.nil_append]
    cases k.lastCommand <;> simp [commandItems]
  · simp only [Audible.items, sampleItems_eq, ascending_eq, unitSet, reportedSince, saturate, untilTime,
      List.append_assoc, List.cons_append, List.nil_append]
    rfl

end Sys2Proof.Machine
end

section
/-!
What evaluations leave: the limits of every group, every crossing's pending change, and each crossing whose call may not
start but for the reason it waits with.
-/

namespace Sys2Proof.Machine

variable {s t w : State}

/-! ### What an evaluation leaves (R81, R82, R88) -/

/-- From `s` to `t` calls were evaluated: the groups' K, H and P and every pending change stand, and a crossing whose call
may not start waits on. -/
structure Evaluated (s t : State) : Prop where
  params : ∀ g, (t.group g).stageLimit = (s.group g).stageLimit ∧ (t.group g).spacing = (s.group g).spacing ∧
    (t.group g).pairing = (s.group g).pairing
  change : ∀ c, (t.crossing c).pendingChange = (s.crossing c).pendingChange
  waits : ∀ c, s.Barred c → Waits c s t

namespace Evaluated

theorem refl (s : State) : Evaluated s s := ⟨fun _ => ⟨rfl, rfl, rfl⟩, fun _ => rfl, fun c _ => .refl c s⟩

theorem trans (h : Evaluated s t) (k : Evaluated t w) : Evaluated s w where
  params g := by
    obtain ⟨a, b, c⟩ := h.params g
    obtain ⟨a', b', c'⟩ := k.params g
    exact ⟨a'.trans a, b'.trans b, c'.trans c⟩
  change c := (k.change c).trans (h.change c)
  waits c bar := (h.waits c bar).trans (k.waits c ((h.waits c bar).barred bar))

theorem foldl {α : Type} {f : State → α → State} (l : List α) (s : State) (h : ∀ s a, Evaluated s (f s a)) :
    Evaluated s (l.foldl f s) := foldl_related l s refl trans h

end Evaluated

/-- A crossing outside the reach of some work waits on. -/
theorem waits_of_within {p : CrossingId → Prop} {c : CrossingId} (h : Within p s t) (hc : ¬ p c) : Waits c s t := by
  obtain ⟨crossing, call, counters⟩ := h c hc
  exact ⟨call, by rw [crossing], counters⟩

variable (s)

theorem removeCall_crossing_pendingChange (c : CrossingId) (r : RemovalReason) :
    ((s.removeCall c r).crossing c).pendingChange = (s.crossing c).pendingChange := by
  unfold State.removeCall; split
  · rfl
  · rw [raise_crossing, changeCrossing_crossing]; rfl

theorem admitCall_pendingChange (c : CrossingId) (call : CallRecord) (r : Record) (a : Admission) :
    ((s.admitCall c call r a).crossing c).pendingChange = (s.crossing c).pendingChange := by
  simp [State.admitCall, Crossing.admitStage, Crossing.enter, removeCall_crossing_pendingChange]

theorem await_evaluated (c : CrossingId) (r : Route) (x : WaitReason) : Evaluated s (s.await c r x) where
  params _ := ⟨rfl, rfl, rfl⟩
  change d := by
    by_cases e : d = c
    · subst e; rw [await_crossing]
    · rw [(await_within (p := (· = c)) s r x rfl d e).1]
  waits d _ := by
    by_cases e : d = c
    · subst e; exact await_waits r x
    · exact waits_of_within (await_within (p := (· = c)) s r x rfl) e

variable {s}

/-- An admission reaches a crossing whose call may start. -/
theorem admitCall_evaluated {c : CrossingId} (call : CallRecord) (r : Record) (a : Admission) (start : ¬ s.Barred c) :
    Evaluated s (s.admitCall c call r a) where
  params g := by unfold State.group; rw [admitCall_groups]; exact ⟨rfl, rfl, rfl⟩
  change d := by
    by_cases e : d = c
    · subst e; exact admitCall_pendingChange s d call r a
    · rw [(admitCall_within (p := (· = c)) s call r a rfl d e).1]
  waits d bar := waits_of_within (admitCall_within (p := (· = c)) s call r a rfl) fun e => start (e ▸ bar)

/-- A call that is eligible may start. -/
theorem not_barred_of_eligible {c : CrossingId} {call : CallRecord} (hc : s.callOf c = some call)
    (eligible : ineligible (s.crossing c) call = none) : ¬ s.Barred c := fun bar => by
  have some := ineligible_of_barred bar hc
  rw [eligible] at some
  cases some

/-- A stage counted in a group leaves its limits (R88). -/
theorem started_evaluated (g : GroupId) (now : Time) (st : GroupStart) :
    Evaluated s (s.changeGroup g fun q => q.started now st) where
  params q := by
    by_cases e : g = q
    · subst e; rw [changeGroup_group]; cases st <;> exact ⟨rfl, rfl, rfl⟩
    · rw [changeGroup_other _ _ e]; exact ⟨rfl, rfl, rfl⟩
  change _ := rfl
  waits c _ := waits_of_within (changeGroup_within (p := fun _ => False) s g _) id

theorem evaluateBand_evaluated {c : CrossingId} (call : CallRecord) (r : Record) (start : ¬ s.Barred c) :
    Evaluated s (s.evaluateBand c call r) := by
  unfold State.evaluateBand; split
  · exact admitCall_evaluated call r _ start
  · exact await_evaluated s c _ _

theorem evaluateDirect_evaluated {c : CrossingId} (call : CallRecord) (r : Record) (start : ¬ s.Barred c) :
    Evaluated s (s.evaluateDirect c call r) := by
  unfold State.evaluateDirect; split
  · exact admitCall_evaluated call r _ start
  · exact await_evaluated s c _ _

theorem considerInGroup_evaluated (g : GroupId) {c : CrossingId} {call : CallRecord} (r : Record)
    (hc : s.callOf c = some call) : Evaluated s (s.considerInGroup g c call r) := by
  unfold State.considerInGroup; split
  · exact await_evaluated s c _ _
  · rename_i eligible; split
    · exact await_evaluated s c _ _
    · split
      · exact (started_evaluated g _ _).trans (admitCall_evaluated call r _ (not_barred_of_eligible hc eligible))
      · exact await_evaluated s c _ _

theorem groupTurn_evaluated (s : State) (g : GroupId) (c : CrossingId) : Evaluated s (s.groupTurn g c) := by
  unfold State.groupTurn; split
  · rename_i hc _; split
    · exact considerInGroup_evaluated g _ hc
    · exact .refl s
  · exact .refl s

theorem evaluateGroup_evaluated (s : State) (g : GroupId) : Evaluated s (s.evaluateGroup g) :=
  .foldl _ s fun s c => groupTurn_evaluated s g c

theorem evaluate_evaluated (s : State) (c : CrossingId) : Evaluated s (s.evaluate c) := by
  unfold State.evaluate; split
  · rename_i call r hc _; split
    · exact await_evaluated s c _ _
    · rename_i eligible
      have start := not_barred_of_eligible hc eligible
      cases routeOf s.clock.mode r with
      | band => exact evaluateBand_evaluated call r start
      | direct => exact evaluateDirect_evaluated call r start
      | group g => exact evaluateGroup_evaluated s g
  · exact .refl s

theorem reviewGroup_evaluated (before : Vector Group 4) (s : State) (g : GroupId) : Evaluated s (s.reviewGroup before g) := by
  unfold State.reviewGroup; split
  · exact .refl s
  · exact evaluateGroup_evaluated s g

/-- The evaluations of a boundary. -/
theorem evaluateBoundary_evaluated (s : State) (before : Vector Group 4) (b : Bool) :
    Evaluated s (s.evaluateBoundary before b) := by
  have gave : Evaluated s (s.withDueFor b) :=
    ⟨fun g => by rw [withDueFor_group]; exact ⟨rfl, rfl, rfl⟩, fun c => by rw [withDueFor_crossing],
      fun c _ => ⟨withDueFor_callOf s b c, by rw [withDueFor_crossing], by rw [withDueFor_counters]⟩⟩
  exact gave.trans <| .trans (.foldl _ _ (reviewGroup_evaluated before)) (.foldl _ _ evaluate_evaluated)

end Sys2Proof.Machine
end

section
/-!
The crossings settled at an adoption: each crossing's own settling reaches it alone, and what it becomes by its state and
by the record it was handed or lost (R103, R112).
-/

namespace Sys2Proof.Machine

variable {s t w : State} {c : CrossingId}

/-! ### Work on one crossing that admits no call -/

/-- From `s` to `t` only the crossing, with its call and its counters, changed; the groups stand. -/
structure AloneAt (c : CrossingId) (s t : State) : Prop where
  within : Within (· = c) s t
  groups : t.groups = s.groups

namespace AloneAt

theorem refl (c : CrossingId) (s : State) : AloneAt c s s := ⟨.refl s, rfl⟩

theorem trans (h : AloneAt c s t) (k : AloneAt c t w) : AloneAt c s w :=
  ⟨h.within.trans k.within, k.groups.trans h.groups⟩

/-- Work that follows other work on the crossing. -/
theorem after (k : AloneAt c t w) (h : AloneAt c s t) : AloneAt c s w := h.trans k

end AloneAt

variable (s)

theorem changeCrossing_alone (c : CrossingId) (f : Crossing → Crossing) : AloneAt c s (s.changeCrossing c f) :=
  ⟨changeCrossing_within s f rfl, rfl⟩

theorem reportState_alone (c : CrossingId) (cause : Cause) : AloneAt c s (s.reportState c cause) := ⟨raise_within s _, rfl⟩

theorem removeCall_alone (c : CrossingId) (r : RemovalReason) : AloneAt c s (s.removeCall c r) :=
  ⟨removeCall_within s r rfl, removeCall_groups s c r⟩

theorem loseService_alone (c : CrossingId) : AloneAt c s (s.loseService c) :=
  .after (changeCrossing_alone _ c _) (removeCall_alone s c _)

theorem removeCall_crossing (c : CrossingId) (r : RemovalReason) :
    ∃ w, (s.removeCall c r).crossing c = { s.crossing c with waiting := w } := by
  unfold State.removeCall; split
  · exact ⟨_, rfl⟩
  · exact ⟨none, by rw [raise_crossing, changeCrossing_crossing]; rfl⟩

/-- Loss of service takes the call and the recall timer, and nothing else of the controller but its waiting reason. -/
theorem loseService_crossing (c : CrossingId) :
    ∃ w, (s.loseService c).crossing c = { s.crossing c with waiting := w, recallTimer := none } := by
  obtain ⟨w, e⟩ := removeCall_crossing s c .outOfService
  exact ⟨w, by rw [State.loseService, changeCrossing_crossing, e]⟩

theorem loseService_callOf (c : CrossingId) : (s.loseService c).callOf c = none := removeCall_callOf s c _

variable {s}

/-- The evaluation of a call that may not start leaves it or names its reason (R82). -/
theorem evaluate_barred (h : s.Barred c) : s.evaluate c = s ∨ ∃ r x, s.evaluate c = s.await c r x := by
  unfold State.evaluate; split
  · rename_i hc _
    obtain ⟨x, hx⟩ := Option.isSome_iff_exists.1 (ineligible_of_barred h hc)
    rw [hx]; exact .inr ⟨_, _, rfl⟩
  · exact .inl rfl

theorem evaluate_barred_alone (h : s.Barred c) : AloneAt c s (s.evaluate c) := by
  obtain e | ⟨r, x, e⟩ := evaluate_barred h
  · rw [e]; exact .refl c s
  · rw [e]; exact changeCrossing_alone s c _

theorem evaluate_barred_crossing (h : s.Barred c) :
    ∃ r w, (s.evaluate c).crossing c = { s.crossing c with route := r, waiting := w } := by
  obtain e | ⟨r, x, e⟩ := evaluate_barred h
  · rw [e]; exact ⟨_, _, rfl⟩
  · rw [e, await_crossing]; exact ⟨_, _, rfl⟩

/-- An offer taken into the queue of a crossing whose green has not expired reaches it alone (R47, R53). -/
theorem intoQueue_barred (o : Offer) (h : (s.crossing c).greenExpired = false) : AloneAt c s (s.intoQueue c o).2 ∧
    ∃ r w, (s.intoQueue c o).2.crossing c = { s.crossing c with route := r, waiting := w } := by
  unfold State.intoQueue
  cases s.callOf c with
  | none => exact ⟨.after (evaluate_barred_alone (.inl h)) ⟨registerCall_within s o rfl, rfl⟩,
      evaluate_barred_crossing (s := s.registerCall c o) (.inl h)⟩
  | some r => exact ⟨.after (evaluate_barred_alone (.inl h)) ⟨mergeCall_within s o rfl, rfl⟩,
      evaluate_barred_crossing (s := s.mergeCall c o) (.inl h)⟩

/-- Fail recall at a crossing whose green has not expired places its call and no more (R60). -/
theorem testFailRecall_barred (h : (s.crossing c).greenExpired = false) : AloneAt c s (s.testFailRecall c) ∧
    ∃ r w, (s.testFailRecall c).crossing c = { s.crossing c with route := r, waiting := w } := by
  unfold State.testFailRecall; dsimp only; split
  · exact intoQueue_barred _ h
  · exact ⟨.refl c s, _, _, rfl⟩

theorem greenExpired_of_state {x : Crossing} (h : x.state ≠ .vehGreen) : x.greenExpired = false := by
  simp [Crossing.greenExpired, h]

/-! ### Entries and pending changes (R102, R103, R109 to R111) -/

/-- The crossing as it enters STARTUP_FLASH, before its fail-recall test. -/
def Crossing.startingUp (x : Crossing) : Crossing := { x.enter .startupFlash (some 50) with stage := none, pendingChange := none }

theorem enterStartup_spec (s : State) (c : CrossingId) (cause : Cause) : AloneAt c s (s.enterStartup c cause) ∧
    ∃ r w, (s.enterStartup c cause).crossing c = { (s.crossing c).startingUp with route := r, waiting := w } := by
  have entered : (((s.changeCrossing c Crossing.startingUp).reportState c cause).crossing c) = (s.crossing c).startingUp :=
    changeCrossing_crossing s c _
  obtain ⟨alone, r, w, e⟩ := testFailRecall_barred (greenExpired_of_state (x := ((s.changeCrossing c
    Crossing.startingUp).reportState c cause).crossing c) (by rw [entered]; nofun))
  exact ⟨.after alone <| .after (reportState_alone _ c cause) (changeCrossing_alone s c _), r, w, by rw [entered] at e; exact e⟩

theorem enterUntimed_alone (s : State) (c : CrossingId) (st : CrossingState) (cause : Cause) :
    AloneAt c s (s.enterUntimed c st cause) := by
  unfold State.enterUntimed; dsimp only; split
  · exact .after (reportState_alone _ c cause) <| .after (loseService_alone _ c) (changeCrossing_alone s c _)
  · exact .after (reportState_alone _ c cause) (changeCrossing_alone s c _)

/-- A crossing in service that enters a state out of service loses its call and its recall timer (R62, R110). -/
theorem enterUntimed_spec (st : CrossingState) (cause : Cause) (h : (s.crossing c).inService = true) :
    (s.enterUntimed c st cause).callOf c = none ∧
    ∃ w, (s.enterUntimed c st cause).crossing c =
      { (s.crossing c).enter st none with pendingChange := none, waiting := w, recallTimer := none } := by
  unfold State.enterUntimed; dsimp only; rw [if_pos h]
  obtain ⟨w, e⟩ := loseService_crossing (s.changeCrossing c fun x => { x.enter st none with pendingChange := none }) c
  rw [changeCrossing_crossing] at e
  exact ⟨loseService_callOf _ c, w, e⟩

/-- The crossing in service whose change becomes pending, before a closing amber begins. -/
def Crossing.withChange (x : Crossing) (t : Target) (cause : Cause) : Crossing :=
  { x with pendingChange := some { target := t, cause := cause }, recallTimer := none }

theorem setPending_alone (s : State) (c : CrossingId) (t : Target) (cause : Cause) : AloneAt c s (s.setPending c t cause) := by
  unfold State.setPending; dsimp only; split
  · have lost (u : State) : AloneAt c u (if (s.crossing c).inService = true then u.loseService c else u) := by
      split
      · exact loseService_alone u c
      · exact .refl c u
    have pending := AloneAt.after (reportState_alone _ c cause) <| .after (lost _) <|
      changeCrossing_alone s c fun x => { x with pendingChange := some { target := t, cause := cause } }
    split
    · exact .after (reportState_alone _ c cause) <| .after (changeCrossing_alone _ c _) pending
    · exact pending
  · exact .refl c s

/-- A crossing in service has no change pending, so that any change becomes pending (R109). -/
theorem outrankedBy_of_inService {x : Crossing} (t : Target) (h : x.inService = true) : x.outrankedBy t = true := by
  unfold Crossing.inService at h
  unfold Crossing.outrankedBy
  split
  · rfl
  · simp_all

/-- A crossing in service whose change becomes pending loses its call, and in VEH_GREEN begins its closing amber (R109, R111). -/
theorem setPending_spec (tg : Target) (cause : Cause) (h : (s.crossing c).inService = true) :
    (s.setPending c tg cause).callOf c = none ∧
    ∃ w, (s.setPending c tg cause).crossing c =
      if (s.crossing c).state = .vehGreen then { (s.crossing c).withChange tg cause with waiting := w }.beginClosing
      else { (s.crossing c).withChange tg cause with waiting := w } := by
  unfold State.setPending; dsimp only
  rw [if_pos (outrankedBy_of_inService tg h), if_pos h]
  have gone := loseService_callOf (s.changeCrossing c fun x => { x with pendingChange := some { target := tg, cause := cause } }) c
  obtain ⟨w, e⟩ := loseService_crossing (s.changeCrossing c fun x =>
    { x with pendingChange := some { target := tg, cause := cause } }) c
  rw [changeCrossing_crossing] at e
  generalize State.loseService _ c = u at gone e ⊢
  refine ⟨by split <;> exact gone, w, ?_⟩
  split
  · rw [State.reportState, raise_crossing, changeCrossing_crossing]
    exact congrArg Crossing.beginClosing e
  · exact e

/-! ### A crossing settled at an adoption (R112) -/

/-- A crossing that has its record: the change to UNCONFIGURED its stage was to end in is withdrawn. -/
def Crossing.Withdraws (x : Crossing) : Prop :=
  x.pendingTarget = some .unconfigured ∧ x.state.ofStage = true ∧ x.closingAmber = false

/-- A crossing starts up, may end a stage, or is out of service for good. -/
theorem state_cases (st : CrossingState) : (st = .startupFlash ∨ st = .startupRed) ∨ (st = .vehGreen ∨ st.ofStage = true) ∨
    st.serving = false := by cases st <;> decide

/-- With no record the entry to UNCONFIGURED ends there (R103). -/
theorem enterUnconfigured_lost (cause : Cause) (lost : (s.crossing c).inForce = none) :
    s.enterUnconfigured c cause = s.enterUntimed c .unconfigured cause := by
  have kept : ((s.enterUntimed c .unconfigured cause).crossing c).inForce = none :=
    ((enterUntimed_steady s c _ cause).records c).trans lost
  simp [State.enterUnconfigured, kept]

theorem settle_lost (lost : (s.crossing c).inForce = none) : s.settleAdoption c = s.changeService c .unconfigured .plan := by
  simp only [State.settleAdoption, lost]

/-- The record lost in the start-up: UNCONFIGURED at once (R112). -/
theorem settle_lost_in_startup (lost : (s.crossing c).inForce = none)
    (st : (s.crossing c).state = .startupFlash ∨ (s.crossing c).state = .startupRed) :
    s.settleAdoption c = s.enterUntimed c .unconfigured .plan := by
  rw [settle_lost lost, ← enterUnconfigured_lost .plan lost]
  rcases st with st | st <;> simp only [State.changeService, st, State.enterTarget]

/-- The record lost in VEH_GREEN or a stage: the change is pending (R109, R112). -/
theorem settle_lost_later (lost : (s.crossing c).inForce = none)
    (st : (s.crossing c).state = .vehGreen ∨ (s.crossing c).state.ofStage = true) :
    s.settleAdoption c = s.setPending c .unconfigured .plan := by
  rw [settle_lost lost]
  cases h : (s.crossing c).state <;> simp_all [State.changeService, CrossingState.ofStage]

theorem settle_lost_out_of_service (lost : (s.crossing c).inForce = none) (st : (s.crossing c).state.serving = false) :
    s.settleAdoption c = s := by
  rw [settle_lost lost]
  cases h : (s.crossing c).state <;> simp_all [State.changeService, CrossingState.serving]

/-- A record handed to an UNCONFIGURED crossing: its start-up begins (R103). -/
theorem settle_configured {f : InForce} (record : (s.crossing c).inForce = some f) (st : (s.crossing c).state = .unconfigured) :
    s.settleAdoption c = s.enterStartup c .plan := by
  simp only [State.settleAdoption, record, st, if_true]

theorem settle_withdrawn {f : InForce} (record : (s.crossing c).inForce = some f) (h : (s.crossing c).Withdraws) :
    AloneAt c s (s.settleAdoption c) ∧
    ∃ r w, (s.settleAdoption c).crossing c = { s.crossing c with pendingChange := none, route := r, waiting := w } := by
  have later : (s.crossing c).state ≠ .unconfigured := fun e => by
    have stage := h.2.1
    rw [e] at stage
    cases stage
  have green : (s.crossing c).state ≠ .vehGreen := fun e => by
    have stage := h.2.1
    rw [e] at stage
    cases stage
  have settled : s.settleAdoption c =
      ((s.changeCrossing c fun x => { x with pendingChange := none }).reportState c .plan).testFailRecall c := by
    unfold State.settleAdoption; dsimp only
    rw [record]; dsimp only
    rw [if_neg later]
    exact if_pos h
  have withdrawn : (((s.changeCrossing c fun x => { x with pendingChange := none }).reportState c .plan).crossing c) =
      { s.crossing c with pendingChange := none } := changeCrossing_crossing s c _
  obtain ⟨alone, r, w, e⟩ := testFailRecall_barred
    (s := (s.changeCrossing c fun x => { x with pendingChange := none }).reportState c .plan) (c := c)
    (greenExpired_of_state (by rw [withdrawn]; exact green))
  rw [settled]
  exact ⟨.after alone <| .after (reportState_alone _ c _) (changeCrossing_alone s c _), r, w, by rw [withdrawn] at e; exact e⟩

theorem settle_idle {f : InForce} (record : (s.crossing c).inForce = some f) (st : (s.crossing c).state ≠ .unconfigured)
    (h : ¬ (s.crossing c).Withdraws) : s.settleAdoption c = s := by
  unfold State.settleAdoption; dsimp only
  rw [record]; dsimp only
  rw [if_neg st]
  exact if_neg h

/-- Settling a crossing admits no call, and so reaches that crossing alone (R112). -/
theorem settleAdoption_alone (s : State) (c : CrossingId) : AloneAt c s (s.settleAdoption c) := by
  cases record : (s.crossing c).inForce with
  | none =>
    obtain st | st | st := state_cases (s.crossing c).state
    · rw [settle_lost_in_startup record st]; exact enterUntimed_alone s c _ _
    · rw [settle_lost_later record st]; exact setPending_alone s c _ _
    · rw [settle_lost_out_of_service record st]; exact .refl c s
  | some f =>
    by_cases st : (s.crossing c).state = .unconfigured
    · rw [settle_configured record st]; exact (enterStartup_spec s c _).1
    · by_cases h : (s.crossing c).Withdraws
      · exact (settle_withdrawn record h).1
      · rw [settle_idle record st h]; exact .refl c s

/-- The settling of other crossings leaves a crossing as it is. -/
theorem settleAdoptions_others {l : List CrossingId} (h : c ∉ l) (s : State) :
    Within (· ≠ c) s (l.foldl State.settleAdoption s) := by
  induction l generalizing s with
  | nil => exact .refl s
  | cons d l ih =>
    obtain ⟨other, rest⟩ := not_or.1 fun e => h (List.mem_cons.2 e)
    have turn : Within (· ≠ c) s (s.settleAdoption d) := fun e he =>
      (settleAdoption_alone s d).within e fun same => he fun eq => other (eq ▸ same)
    exact turn.trans (ih rest _)

/-- Every crossing settled once: its own turn finds it as the adoption left it, and the turns after it leave what that made of
it. -/
theorem settleAdoptions_turn {l : List CrossingId} (once : l.Nodup) (hc : c ∈ l) (s : State) :
    ∃ u, Within (· ≠ c) s u ∧ Within (· ≠ c) (u.settleAdoption c) (l.foldl State.settleAdoption s) := by
  obtain ⟨before, rest, rfl⟩ := List.append_of_mem hc
  obtain ⟨-, later, apart⟩ := List.nodup_append.1 once
  refine ⟨before.foldl State.settleAdoption s, settleAdoptions_others (fun h => apart c h c (List.mem_cons_self ..) rfl) s, ?_⟩
  rw [List.foldl_append, List.foldl_cons]
  exact settleAdoptions_others (List.nodup_cons.1 later).1 _

theorem settleAdoptions_groups (l : List CrossingId) (s : State) : (l.foldl State.settleAdoption s).groups = s.groups :=
  foldl_keeps (P := fun t => t.groups = s.groups) l s rfl fun t c h => (settleAdoption_alone t c).groups.trans h

end Sys2Proof.Machine
end

section
/-!
The adoption of a pending selection at a boundary (O16).
-/

namespace Sys2Proof.Machine

variable {s t : State} {c : CrossingId}

/-! ### What waiting leaves of a controller -/

theorem Waits.state (h : Waits c s t) : (t.crossing c).state = (s.crossing c).state := (congrArg Crossing.state h.crossing :)
theorem Waits.timeLeft (h : Waits c s t) : (t.crossing c).timeLeft = (s.crossing c).timeLeft := (congrArg Crossing.timeLeft h.crossing :)
theorem Waits.stage (h : Waits c s t) : (t.crossing c).stage = (s.crossing c).stage := (congrArg Crossing.stage h.crossing :)
theorem Waits.green (h : Waits c s t) : (t.crossing c).green = (s.crossing c).green := (congrArg Crossing.green h.crossing :)
theorem Waits.closing (h : Waits c s t) : (t.crossing c).closingAmber = (s.crossing c).closingAmber :=
  (congrArg Crossing.closingAmber h.crossing :)
theorem Waits.change (h : Waits c s t) : (t.crossing c).pendingChange = (s.crossing c).pendingChange :=
  (congrArg Crossing.pendingChange h.crossing :)
theorem Waits.recallTimer (h : Waits c s t) : (t.crossing c).recallTimer = (s.crossing c).recallTimer :=
  (congrArg Crossing.recallTimer h.crossing :)

/-! ### What becomes of a crossing (R103, R112) -/

/-- What a crossing in service becomes, with its call, as it loses its record, and what one out of service keeps. -/
structure LosesRecord (x x' : Crossing) (call : Option CallRecord) : Prop where
  startup : x.state = .startupFlash ∨ x.state = .startupRed →
    x'.state = .unconfigured ∧ x'.timeLeft = none ∧ x'.pendingChange = none
  green : x.state = .vehGreen →
    x'.state = .vehAmber ∧ x'.closingAmber = true ∧ x'.green = none ∧ x'.timeLeft = some x.retainedAmber
  change : x.state = .vehGreen ∨ x.state.ofStage = true → x'.pendingChange = some { target := .unconfigured, cause := .plan }
  stage : x.state.ofStage = true → x'.state = x.state ∧ x'.stage = x.stage ∧ x'.timeLeft = x.timeLeft
  service : x.state.serving = true → call = none ∧ x'.recallTimer = none
  out : x.state.serving = false → x'.state = x.state ∧ x'.timeLeft = x.timeLeft

/-- A state of the sequence holds or awaits service. -/
theorem serving_of_later {st : CrossingState} (h : st = .vehGreen ∨ st.ofStage = true) : st.serving = true := by
  revert h; cases st <;> decide

namespace LosesRecord

variable {x y : Crossing} {call : Option CallRecord}

/-- In the start-up the crossing becomes UNCONFIGURED. -/
theorem ofStartup (st : x.state = .startupFlash ∨ x.state = .startupRed) (state : y.state = .unconfigured)
    (left : y.timeLeft = none) (change : y.pendingChange = none) (timer : y.recallTimer = none) (gone : call = none) :
    LosesRecord x y call := by
  obtain ⟨green, stage, serving⟩ : x.state ≠ .vehGreen ∧ x.state.ofStage = false ∧ x.state.serving = true := by
    rcases st with e | e <;> rw [e] <;> decide
  exact ⟨fun _ => ⟨state, left, change⟩, fun e => absurd e green, fun e => by simp [green, stage] at e, by simp [stage],
    fun _ => ⟨gone, timer⟩, by simp [serving]⟩

/-- In VEH_GREEN the crossing begins its closing amber. -/
theorem ofGreen (st : x.state = .vehGreen) (state : y.state = .vehAmber) (closing : y.closingAmber = true) (green : y.green = none)
    (left : y.timeLeft = some x.retainedAmber) (change : y.pendingChange = some { target := .unconfigured, cause := .plan })
    (timer : y.recallTimer = none) (gone : call = none) : LosesRecord x y call :=
  ⟨by simp [st], fun _ => ⟨state, closing, green, left⟩, fun _ => change, by simp [st, CrossingState.ofStage],
    fun _ => ⟨gone, timer⟩, by simp [st, CrossingState.serving]⟩

/-- A stage runs on. -/
theorem ofStage (st : x.state.ofStage = true) (state : y.state = x.state) (stage : y.stage = x.stage)
    (left : y.timeLeft = x.timeLeft) (change : y.pendingChange = some { target := .unconfigured, cause := .plan })
    (timer : y.recallTimer = none) (gone : call = none) : LosesRecord x y call :=
  ⟨fun e => by rcases e with e | e <;> simp [e, CrossingState.ofStage] at st, fun e => by simp [e, CrossingState.ofStage] at st,
    fun _ => change, fun _ => ⟨state, stage, left⟩, fun _ => ⟨gone, timer⟩,
    fun e => by simp [serving_of_later (.inr st)] at e⟩

/-- Out of service nothing changes. -/
theorem ofOut (st : x.state.serving = false) (state : y.state = x.state) (left : y.timeLeft = x.timeLeft) :
    LosesRecord x y call :=
  ⟨fun e => by rcases e with e | e <;> simp [e, CrossingState.serving] at st, fun e => by simp [e, CrossingState.serving] at st,
    fun e => by simp [serving_of_later e] at st, fun e => by simp [serving_of_later (.inr e)] at st, by simp [st],
    fun _ => ⟨state, left⟩⟩

/-- What follows keeps it where the call waits. -/
theorem waits (h : LosesRecord x (s.crossing c) (s.callOf c)) (k : Waits c s t) : LosesRecord x (t.crossing c) (t.callOf c) := by
  obtain ⟨startup, green, change, stage, service, out⟩ := h
  constructor
  · rw [k.state, k.timeLeft, k.change]; exact startup
  · rw [k.state, k.closing, k.green, k.timeLeft]; exact green
  · rw [k.change]; exact change
  · rw [k.state, k.stage, k.timeLeft]; exact stage
  · rw [k.call, k.recallTimer]; exact service
  · rw [k.state, k.timeLeft]; exact out

end LosesRecord

/-- A crossing settled without a record, none of its changes pending before. -/
theorem settle_losesRecord {x : Crossing} (hx : s.crossing c = x.receive none) (idle : x.pendingChange = none) :
    LosesRecord x ((s.settleAdoption c).crossing c) ((s.settleAdoption c).callOf c) ∧
      ((s.settleAdoption c).crossing c).state ≠ .vehGreen := by
  have lost : (s.crossing c).inForce = none := by rw [hx]; rfl
  have st : (s.crossing c).state = x.state := by rw [hx]; rfl
  have service (h : x.state.serving = true) : (s.crossing c).inService = true := by
    simp [Crossing.inService, hx, Crossing.receive, h, idle]
  obtain up | later | out := state_cases x.state
  · have serving : x.state.serving = true := by rcases up with e | e <;> rw [e] <;> rfl
    rw [settle_lost_in_startup lost (st ▸ up)]
    obtain ⟨gone, w, e⟩ := enterUntimed_spec .unconfigured .plan (service serving)
    rw [e]
    exact ⟨.ofStartup up rfl rfl rfl rfl gone, nofun⟩
  · rw [settle_lost_later lost (st ▸ later)]
    obtain ⟨gone, w, e⟩ := setPending_spec .unconfigured .plan (service (serving_of_later later))
    rw [e, st, hx]
    by_cases green : x.state = .vehGreen
    · rw [if_pos green]
      exact ⟨.ofGreen green rfl rfl rfl rfl rfl rfl gone, nofun⟩
    · rw [if_neg green]
      exact ⟨.ofStage (later.resolve_left green) rfl rfl rfl rfl rfl gone, green⟩
  · rw [settle_lost_out_of_service lost (st ▸ out), hx]
    exact ⟨.ofOut out rfl rfl, fun (e : x.state = .vehGreen) => by rw [e] at out; cases out⟩

/-- What becomes of a crossing that has its record and is not in VEH_GREEN. -/
structure HasRecord (x x' : Crossing) : Prop where
  startup : x.state = .unconfigured →
    x'.state = .startupFlash ∧ x'.timeLeft = some 50 ∧ x'.stage = none ∧ x'.pendingChange = none
  withdrawn : x.Withdraws → x'.pendingChange = none
  stage : x.state ≠ .unconfigured → x'.state = x.state ∧ x'.stage = x.stage ∧ x'.timeLeft = x.timeLeft

theorem HasRecord.waits {x : Crossing} (h : HasRecord x (s.crossing c)) (k : Waits c s t) : HasRecord x (t.crossing c) := by
  obtain ⟨startup, withdrawn, stage⟩ := h
  constructor
  · rw [k.state, k.timeLeft, k.stage, k.change]; exact startup
  · rw [k.change]; exact withdrawn
  · rw [k.state, k.timeLeft, k.stage]; exact stage

/-- A crossing settled with a record, but one in VEH_GREEN. -/
theorem settle_hasRecord {x : Crossing} {f : InForce} (hx : s.crossing c = x.receive (some f)) (moving : x.state ≠ .vehGreen) :
    HasRecord x ((s.settleAdoption c).crossing c) ∧ ((s.settleAdoption c).crossing c).state ≠ .vehGreen := by
  have record : (s.crossing c).inForce = some f := by rw [hx]; rfl
  have st : (s.crossing c).state = x.state := by rw [hx]; rfl
  have same : (s.crossing c).Withdraws ↔ x.Withdraws := by rw [hx]; exact Iff.rfl
  by_cases new : x.state = .unconfigured
  · rw [settle_configured record (st.trans new)]
    obtain ⟨-, r, w, e⟩ := enterStartup_spec s c .plan
    rw [e]
    exact ⟨⟨fun _ => ⟨rfl, rfl, rfl, rfl⟩, fun _ => rfl, fun e => absurd new e⟩, nofun⟩
  · by_cases back : x.Withdraws
    · obtain ⟨-, r, w, e⟩ := settle_withdrawn record (same.2 back)
      rw [e, hx]
      exact ⟨⟨fun e => absurd e new, fun _ => rfl, fun _ => ⟨rfl, rfl, rfl⟩⟩, moving⟩
    · rw [settle_idle record (fun e => new (st ▸ e)) fun h => back (same.1 h), hx]
      exact ⟨⟨fun e => absurd e new, fun h => absurd h back, fun _ => ⟨rfl, rfl, rfl⟩⟩, moving⟩

/-- A record handed to a crossing that is running leaves its pending change, but for the one it withdraws. -/
theorem settle_pendingChange {x : Crossing} {f : InForce} (hx : s.crossing c = x.receive (some f)) (old : x.state ≠ .unconfigured)
    (h : ¬ x.Withdraws) : ((s.settleAdoption c).crossing c).pendingChange = x.pendingChange := by
  rw [settle_idle (f := f) (by rw [hx]; rfl) (by rw [hx]; exact old) (by rw [hx]; exact h), hx]
  rfl

/-! ### The state an adoption leaves (R41, R42, R93) -/

/-- The clock of an adoption as the crossings are settled. -/
theorem adopting_clock (s : State) (sel : Selection) (h : Header) : (s.adopting sel h).clock =
    if s.clock.mode = .coordinated ∧ h.coordination = false then
      { s.clock.adopt h with mode := .free, correction := 0, zeroSteps := 0 }
    else s.clock.adopt h := by
  have mode : (s.clock.adopt h).mode = s.clock.mode := by unfold Clock.adopt; split <;> rfl
  unfold State.adopting State.dropIfDisallowed
  rw [show ((s.install sel h).announceAdoption sel h (decide (s.clock.cycle ≠ some h.cycle)) s.store.deferral).clock =
    s.clock.adopt h from rfl, mode]
  split <;> rfl

theorem adopting_store (s : State) (sel : Selection) (h : Header) : (s.adopting sel h).store = s.store.adopt sel := by
  unfold State.adopting State.dropIfDisallowed; split <;> rfl

theorem adopting_group (s : State) (sel : Selection) (h : Header) (g : GroupId) :
    (s.adopting sel h).group g = (s.group g).adopt s.clock.now (h.groups[g]) := by
  have handed : (s.install sel h).group g = (s.group g).adopt s.clock.now (h.groups[g]) := by
    simp [State.install, State.group, adoptGroups]
  unfold State.adopting State.dropIfDisallowed; split <;> exact handed

theorem adopting_crossing (s : State) (sel : Selection) (h : Header) (c : CrossingId) :
    (s.adopting sel h).crossing c = (s.crossing c).receive (s.store.effective sel c) := by
  have handed : (s.install sel h).crossing c = (s.crossing c).receive (s.store.effective sel c) := by
    simp [State.install, State.crossing, handRecords]
  unfold State.adopting State.dropIfDisallowed; split <;> exact handed

/-- Work that keeps the corridor's block but for NOTICES_LOST keeps its count of adoptions. -/
theorem planAdoptions_of_work (h : t.counters.corridor.work = s.counters.corridor.work) :
    t.counters.corridor.planAdoptions = s.counters.corridor.planAdoptions := (congrArg CorridorCounters.planAdoptions h :)

/-- An adoption is counted (R42). -/
theorem adopting_counted (s : State) (sel : Selection) (h : Header) :
    (s.adopting sel h).counters.corridor.planAdoptions = satAdd s.counters.corridor.planAdoptions 1 := by
  have announced (b b' : Bool) : ((s.install sel h).announceAdoption sel h b b').counters.corridor.planAdoptions =
      satAdd s.counters.corridor.planAdoptions 1 := planAdoptions_of_work (raise_steady _ _).corridorCounters
  unfold State.adopting State.dropIfDisallowed; split
  · exact (planAdoptions_of_work (raise_steady _ _).corridorCounters).trans (announced _ _)
  · exact announced _ _

/-- The corridor's side after an adoption. -/
theorem adopt_corridor (s : State) (sel : Selection) (h : Header) :
    (s.adopt sel h).clock = { (s.adopting sel h).clock with
      quiet := quietNow (s.adopting sel h).clock (s.store.adopt sel).headerInForce } ∧
    (s.adopt sel h).store = s.store.adopt sel ∧
    (s.adopt sel h).groups = (s.adopting sel h).groups ∧
    (s.adopt sel h).counters.corridor.planAdoptions = satAdd s.counters.corridor.planAdoptions 1 := by
  rw [adopt_eq]
  have settled := settleAdoptions_steady (s.adopting sel h)
  have groups := settleAdoptions_groups allCrossings (s.adopting sel h)
  generalize allCrossings.foldl State.settleAdoption (s.adopting sel h) = u at settled groups ⊢
  have store := settled.store.trans (adopting_store s sel h)
  refine ⟨?_, (reviewQuiet_store u).trans store, (reviewQuiet_groups u).trans groups, ?_⟩
  · rw [← settled.clock, ← store]; exact reviewQuiet_clock u
  · exact (congrArg (·.corridor.planAdoptions) (reviewQuiet_counters u)).trans <|
      (planAdoptions_of_work settled.corridorCounters).trans (adopting_counted s sel h)

/-- A crossing after an adoption is as its own settling made it of the crossing with its new record, or without. -/
theorem adopt_crossing (s : State) (sel : Selection) (h : Header) (c : CrossingId) :
    ∃ u : State, u.crossing c = (s.crossing c).receive (s.store.effective sel c) ∧
      (s.adopt sel h).crossing c = (u.settleAdoption c).crossing c ∧ (s.adopt sel h).callOf c = (u.settleAdoption c).callOf c := by
  rw [adopt_eq]
  obtain ⟨u, before, later⟩ := settleAdoptions_turn (c := c) (by decide) (mem_allCrossings c) (s.adopting sel h)
  obtain ⟨handed, -, -⟩ := before c (· rfl)
  obtain ⟨crossing, call, -⟩ := later c (· rfl)
  generalize allCrossings.foldl State.settleAdoption (s.adopting sel h) = v at crossing call ⊢
  refine ⟨u, handed.trans (adopting_crossing s sel h c), (reviewQuiet_crossing v c).trans crossing, ?_⟩
  rw [← call]
  exact congrArg (List.find? _) (reviewQuiet_calls v)

/-! ### The clock's own work at a boundary (R15, R16, R18) -/

/-- A step of the clock leaves the rest of the machine but for its own count and notice. -/
theorem clockBoundary_kept (s : State) (o : PlanOutcome) :
    (s.clockBoundary o).2.store = s.store ∧ (s.clockBoundary o).2.groups = s.groups ∧
    (s.clockBoundary o).2.crossings = s.crossings ∧ (s.clockBoundary o).2.calls = s.calls ∧
    (s.clockBoundary o).2.counters.corridor.planAdoptions = s.counters.corridor.planAdoptions := by
  unfold State.clockBoundary; split
  · refine ⟨correct_store _, ?_, ?_, ?_, (correct_counters _).2⟩
    all_goals unfold State.correct; dsimp only; split <;> rfl
  · exact ⟨rfl, rfl, rfl, rfl, rfl⟩

theorem stepped_shape (k : Clock) (δ : Int) : ∃ time correction count hold, k.stepped δ =
    { k with corridorTime := time, correction := correction, zeroSteps := count, hold := hold } := by
  unfold Clock.stepped; split
  · rw [countZeroStep_eq]; exact ⟨_, _, _, _, rfl⟩
  · exact ⟨_, _, _, _, rfl⟩

/-- A step of the clock moves T, the correction, the zero-step count and the hold alone. -/
theorem clockBoundary_clock (s : State) (o : PlanOutcome) : ∃ time correction count hold, (s.clockBoundary o).2.clock =
    { s.clock with corridorTime := time, correction := correction, zeroSteps := count, hold := hold } := by
  unfold State.clockBoundary; split
  · obtain ⟨time, correction, count, hold, e⟩ := stepped_shape s.clock (s.step15 (decide (o = .deferred)))
    exact ⟨time, correction, count, hold, (correct_clock _).trans e⟩
  · exact ⟨_, _, _, _, rfl⟩

/-- An adoption that changes Y leaves no step to draw (R18). -/
theorem clockBoundary_changed (s : State) : s.clockBoundary (.adopted true) = (false, s) :=
  if_neg fun h => by cases h.2

/-- The pending selection adopted at a boundary (R38, R40). -/
theorem planBoundary_adopted {sel : Selection} {h : Header} (pending : s.store.pendingSelection = some sel)
    (header : s.store.header sel.base = some h) (may : s.store.deferral = true ∨ s.failing sel h = none) :
    s.planBoundary = (.adopted (decide (s.clock.cycle ≠ some h.cycle)), s.adopt sel h) := by
  unfold State.planBoundary
  rw [pending]; dsimp only
  rw [header]; dsimp only
  rcases may with deferred | passes
  · rw [if_pos deferred]
  · rw [passes]; exact ite_self _

/-- The state at a boundary with an announced event taken, as the plan store begins its work. -/
def State.atBoundary (s : State) (d : Due) : State := (s.without d).unheld

/-- The state at a boundary that adopts, before its evaluations: the adoption, and the clock's own work. -/
def State.adopted (s : State) (d : Due) (sel : Selection) (h : Header) : State :=
  (((s.atBoundary d).adopt sel h).clockBoundary (.adopted (decide (s.clock.cycle ≠ some h.cycle)))).2

/-- An adopted header sets Y, and moves T, the correction and the zero-step count at most (R18, R41). -/
theorem clock_adopt_shape (k : Clock) (h : Header) : ∃ time correction count, k.adopt h = { k with
    cycle := some h.cycle, corridorTime := time, correction := correction, zeroSteps := count, boundaryDue := false } := by
  unfold Clock.adopt; split
  · rename_i same; exact ⟨_, _, _, by rw [← same]⟩
  · exact ⟨_, _, _, rfl⟩

/-- The clock of an adoption: Y, the mode and the quiet flag follow the header (R7, R20, R41). -/
theorem adopted_clock (s : State) (d : Due) {sel : Selection} {h : Header} (header : s.store.header sel.base = some h) :
    let k := (s.adopted d sel h).clock
    k.cycle = some h.cycle ∧ k.boundaryDue = false ∧ k.now = s.clock.now ∧ k.timeOfDay = s.clock.timeOfDay ∧
      k.watchdog = s.clock.watchdog ∧ k.mode = (if h.coordination then s.clock.mode else .free) ∧
      k.quiet = (s.clock.timeValid && quietAt h.quietStart h.quietEnd (s.clock.timeOfDay / 60)) := by
  have base : (s.store.adopt sel).headerInForce = some h := header
  obtain ⟨time, correction, count, hold, e⟩ := clockBoundary_clock ((s.atBoundary d).adopt sel h)
    (.adopted (decide (s.clock.cycle ≠ some h.cycle)))
  obtain ⟨clock, -⟩ := adopt_corridor (s.atBoundary d) sel h
  dsimp only
  rw [State.adopted, e, clock, adopting_clock]
  obtain ⟨time', correction', count', e'⟩ := clock_adopt_shape (s.atBoundary d).clock h
  rw [e']
  have quiet (k : Clock) (valid : k.timeValid = s.clock.timeValid) (time : k.timeOfDay = s.clock.timeOfDay) :
      quietNow k (s.store.adopt sel).headerInForce =
        (s.clock.timeValid && quietAt h.quietStart h.quietEnd (s.clock.timeOfDay / 60)) := by
    rw [base, quietNow_eq, valid, time]
  by_cases dropped : (s.atBoundary d).clock.mode = .coordinated ∧ h.coordination = false
  · have out : h.coordination = false := dropped.2
    rw [if_pos dropped]
    exact ⟨rfl, rfl, rfl, rfl, rfl, by simp [out], quiet _ rfl rfl⟩
  · rw [if_neg dropped]
    refine ⟨rfl, rfl, rfl, rfl, rfl, ?_, quiet _ rfl rfl⟩
    change s.clock.mode = _
    by_cases allowed : h.coordination = true
    · rw [if_pos allowed]
    · rw [if_neg allowed]
      have free : ¬ s.clock.mode = .coordinated := fun m => dropped ⟨m, by simpa using allowed⟩
      cases m : s.clock.mode <;> simp_all

/-- A changed Y starts T from 0 with nothing pending (R18, R41). -/
theorem adopted_changed (s : State) (d : Due) (sel : Selection) {h : Header} (changed : s.clock.cycle ≠ some h.cycle) :
    let k := (s.adopted d sel h).clock
    k.corridorTime = 0 ∧ k.correction = 0 ∧ k.zeroSteps = 0 ∧ k.hold = false := by
  obtain ⟨clock, -⟩ := adopt_corridor (s.atBoundary d) sel h
  have adopt : (s.atBoundary d).clock.adopt h = { (s.atBoundary d).clock with
      cycle := some h.cycle, corridorTime := 0, correction := 0, zeroSteps := 0, boundaryDue := false } := if_neg changed
  dsimp only
  rw [State.adopted, decide_eq_true changed, clockBoundary_changed, clock, adopting_clock, adopt]
  split <;> exact ⟨rfl, rfl, rfl, rfl⟩

/-- The groups' K, H and P are the header's (R93). -/
theorem adopted_params (s : State) (d : Due) (sel : Selection) (h : Header) (g : GroupId) :
    ((s.adopted d sel h).group g).stageLimit = (h.groups[g]).stageLimit ∧
    ((s.adopted d sel h).group g).spacing = (h.groups[g]).spacing ∧
    ((s.adopted d sel h).group g).pairing = (h.groups[g]).pairing := by
  obtain ⟨-, groups, -⟩ := clockBoundary_kept ((s.atBoundary d).adopt sel h) (.adopted (decide (s.clock.cycle ≠ some h.cycle)))
  obtain ⟨-, -, handed, -⟩ := adopt_corridor (s.atBoundary d) sel h
  unfold State.adopted State.group
  rw [groups, handed]
  have adopted := adopting_group (s.atBoundary d) sel h g
  unfold State.group at adopted
  rw [adopted]
  exact ⟨rfl, rfl, rfl⟩

theorem adopted_counted (s : State) (d : Due) (sel : Selection) (h : Header) :
    (s.adopted d sel h).counters.corridor.planAdoptions = satAdd s.counters.corridor.planAdoptions 1 := by
  obtain ⟨-, -, -, -, kept⟩ := clockBoundary_kept ((s.atBoundary d).adopt sel h)
    (.adopted (decide (s.clock.cycle ≠ some h.cycle)))
  obtain ⟨-, -, -, counted⟩ := adopt_corridor (s.atBoundary d) sel h
  unfold State.adopted
  rw [kept, counted]
  rfl

theorem adopted_store (s : State) (d : Due) (sel : Selection) (h : Header) :
    (s.adopted d sel h).store = s.store.adopt sel := by
  obtain ⟨kept, -⟩ := clockBoundary_kept ((s.atBoundary d).adopt sel h) (.adopted (decide (s.clock.cycle ≠ some h.cycle)))
  obtain ⟨-, store, -⟩ := adopt_corridor (s.atBoundary d) sel h
  unfold State.adopted
  rw [kept, store]
  rfl

/-- Each crossing is as its own settling made it. -/
theorem adopted_crossing (s : State) (d : Due) (sel : Selection) (h : Header) (c : CrossingId) :
    ∃ v : State, v.crossing c = (s.crossing c).receive (s.store.effective sel c) ∧
      (s.adopted d sel h).crossing c = (v.settleAdoption c).crossing c ∧
      (s.adopted d sel h).callOf c = (v.settleAdoption c).callOf c := by
  obtain ⟨-, -, crossings, calls, -⟩ := clockBoundary_kept ((s.atBoundary d).adopt sel h)
    (.adopted (decide (s.clock.cycle ≠ some h.cycle)))
  obtain ⟨v, handed, crossing, call⟩ := adopt_crossing (s.atBoundary d) sel h c
  unfold State.adopted
  refine ⟨v, handed, ?_, ?_⟩
  · rw [crossing_of_eq crossings c, crossing]
  · unfold State.callOf at call ⊢
    rw [calls, call]

/-- Every crossing stands under the record the selection gives it (R41). -/
theorem adopted_inForce (s : State) (d : Due) (sel : Selection) (h : Header) (c : CrossingId) :
    ((s.adopted d sel h).crossing c).inForce = s.store.effective sel c := by
  obtain ⟨v, handed, crossing, -⟩ := adopted_crossing s d sel h c
  rw [crossing, (settleAdoption_steady v c).records, handed]
  cases s.store.effective sel c <;> rfl

/-- What a boundary that adopts leaves: evaluations after the adoption. -/
theorem boundary_adopts {d : Due} {sel : Selection} {h : Header} (pending : s.store.pendingSelection = some sel)
    (header : s.store.header sel.base = some h) (may : s.store.deferral = true ∨ s.failing sel h = none) :
    ∃ b, (s.without d).boundary = (s.adopted d sel h).evaluateBoundary s.groups b := by
  have plan : (s.without d).unheld.planBoundary =
      (.adopted (decide (s.clock.cycle ≠ some h.cycle)), (s.atBoundary d).adopt sel h) :=
    planBoundary_adopted (s := s.atBoundary d) pending header may
  rw [boundary_eq, plan]
  exact ⟨_, rfl⟩

/-- What becomes of a crossing through the adoption and the evaluations after it. -/
theorem adopted_crossing_evaluated {d : Due} {sel : Selection} {h : Header} (evaluated : Evaluated (s.adopted d sel h) t)
    (c : CrossingId) :
    (s.store.effective sel c = none → (s.crossing c).pendingChange = none →
      LosesRecord (s.crossing c) (t.crossing c) (t.callOf c)) ∧
    (∀ f, s.store.effective sel c = some f →
      ((s.crossing c).state ≠ .vehGreen → HasRecord (s.crossing c) (t.crossing c)) ∧
      ((s.crossing c).state ≠ .unconfigured → ¬ (s.crossing c).Withdraws →
        (t.crossing c).pendingChange = (s.crossing c).pendingChange)) := by
  obtain ⟨v, handed, crossing, call⟩ := adopted_crossing s d sel h c
  have waits (moving : ((v.settleAdoption c).crossing c).state ≠ .vehGreen) : Waits c (s.adopted d sel h) t :=
    evaluated.waits c (.inl (greenExpired_of_state (by rw [crossing]; exact moving)))
  refine ⟨fun lost idle => ?_, fun f record => ⟨fun moving => ?_, fun old stays => ?_⟩⟩
  · rw [lost] at handed
    obtain ⟨settled, moving⟩ := settle_losesRecord handed idle
    rw [← crossing, ← call] at settled
    exact settled.waits (waits moving)
  · rw [record] at handed
    obtain ⟨settled, moving⟩ := settle_hasRecord handed moving
    rw [← crossing] at settled
    exact settled.waits (waits moving)
  · rw [record] at handed
    rw [evaluated.change, crossing]
    exact settle_pendingChange handed old stays

/-- Settles O16. -/
theorem boundaryAdoptsThePendingSelection : Obligations.BoundaryAdoptsThePendingSelection := by
  unfold Obligations.BoundaryAdoptsThePendingSelection
  intro i d s sel h which due pending header may
  have e : exec i s = .next (s.without d).boundary.transmit := by
    rcases which with ⟨rfl, rfl⟩ | ⟨rfl, rfl⟩
    · exact congrArg Host.Outcome.next (take_due due State.boundary)
    · exact congrArg Host.Outcome.next (take_due due State.boundary)
  obtain ⟨kerb, port⟩ := ((without_links s d).trans (boundary_links _)).transmit
  obtain ⟨b, adopts⟩ := boundary_adopts (d := d) pending header may
  rw [adopts] at e kerb port
  have evaluated := evaluateBoundary_evaluated (s.adopted d sel h) s.groups b
  obtain ⟨clock, store, records, work⟩ := evaluateBoundary_corridor (s.adopted d sel h) s.groups b
  generalize (s.adopted d sel h).evaluateBoundary s.groups b = t at e kerb port evaluated clock store records work
  obtain ⟨cycle, boundary, now, time, watchdog, mode, quiet⟩ := adopted_clock s d header
  refine ⟨_, e, store.trans (adopted_store s d sel h), ?_⟩
  rw [transmit_clock, clock]
  refine ⟨cycle, boundary, now, time, watchdog, mode, adopted_changed s d sel, quiet,
    fun c => (records c).trans (adopted_inForce s d sel h c), fun g => ?_,
    (planAdoptions_of_work work).trans (adopted_counted s d sel h), kerb.links, port, fun c => ?_⟩
  · obtain ⟨limit, spacing, pairing⟩ := evaluated.params g
    obtain ⟨k, hh, p⟩ := adopted_params s d sel h g
    exact ⟨limit.trans k, spacing.trans hh, pairing.trans p⟩
  · obtain ⟨loses, has⟩ := adopted_crossing_evaluated evaluated c
    rw [transmit_crossing, transmit_callOf]
    refine ⟨fun lost idle => ?_, fun f record => ?_⟩
    · obtain ⟨startup, green, change, stage, service, out⟩ := loses lost idle
      exact ⟨startup, green, change, stage, service, out⟩
    · obtain ⟨moving, stays⟩ := has f record
      refine ⟨fun new => ?_, fun stage own back => ?_, fun old _ h => ?_, fun old green => (moving green).stage old⟩
      · exact (moving (by rw [new]; nofun)).startup new
      · exact (moving fun e => by rw [e] at stage; cases stage).withdrawn ⟨back, stage, own⟩
      · exact stays old fun ⟨back, stage, own⟩ => h ⟨stage, own, back⟩

end Sys2Proof.Machine
end

section
/-!
PLAN READ (O25): a slot's content in terms of its bank's header and records, and the record a crossing runs on.
-/

namespace Sys2Proof.Machine

/-! ### Slots by their numbers (R23, R30, R34) -/

theorem numbered_zero : numbered 8 (byte 0) = none := by decide

theorem numbered_succ (c : CrossingId) : numbered 8 (byte (c.val + 1)) = some c := by revert c; decide

/-- Slot 0 is the header's, and slots 1 to 8 are the crossings'. -/
theorem slot_cases {n : Nat} (h : n ≤ 8) : n = 0 ∨ ∃ c : CrossingId, n = c.val + 1 := by
  cases n with
  | zero => exact .inl rfl
  | succ n => exact .inr ⟨⟨n, h⟩, rfl⟩

theorem slotContent_zero (p : PlanStore) (b : BankId) : p.slotContent b 0 = (p.header b).map .header := by
  simp only [PlanStore.slotContent, numbered_zero]

theorem slotContent_succ (p : PlanStore) (b : BankId) (c : CrossingId) :
    p.slotContent b (c.val + 1) = (p.recordIn b c).map fun f => .record c f.record := by
  simp only [PlanStore.slotContent, numbered_succ, PlanStore.recordIn, Option.map_map]
  rfl

/-! ### The record a crossing runs on (R34, R35) -/

/-- A record carries the bank that holds it. -/
theorem recordIn_bank {p : PlanStore} {b : BankId} {c : CrossingId} {f : InForce} (h : p.recordIn b c = some f) : f.bank = b := by
  obtain ⟨r, -, rfl⟩ := Option.map_eq_some_iff.1 h
  rfl

/-- The effective record of a crossing stands in the bank that supplied it (R35). -/
theorem recordIn_of_effective {p : PlanStore} {sel : Selection} {c : CrossingId} {f : InForce}
    (h : p.effective sel c = some f) : p.recordIn f.bank c = some f := by
  have stands {b : BankId} (e : p.recordIn b c = some f) : p.recordIn f.bank c = some f := by rw [recordIn_bank e]; exact e
  unfold PlanStore.effective at h
  split at h
  · rename_i r overlaid
    obtain ⟨o, -, e⟩ := Option.bind_eq_some_iff.1 overlaid
    exact stands (e.trans h)
  · exact stands h

/-- A bank in force holds the record a crossing it supplies runs on (R34). -/
theorem slotContent_of_inForce {s : State} (plan : s.PlanLaw) {c : CrossingId} {f : InForce}
    (h : (s.crossing c).inForce = some f) : s.store.slotContent f.bank (c.val + 1) = some (.record c f.record) := by
  obtain ⟨-, -, -, records⟩ := plan
  obtain ⟨sel, -, effective⟩ := Option.bind_eq_some_iff.1 ((records c).symm.trans h)
  rw [slotContent_succ, recordIn_of_effective effective]
  rfl

/-- The standing of a bank, mark by mark (R34). -/
theorem standing_eq (p : PlanStore) (b : BankId) : p.standing b =
    { inForceBase := decide (p.inForce.map (·.base) = some b)
      inForceOverlay := decide (p.inForce.bind (·.overlay) = some b)
      pendingBase := decide (p.pendingSelection.map (·.base) = some b)
      pendingOverlay := decide (p.pendingSelection.bind (·.overlay) = some b)
      stored := decide (∃ sel, p.stored = some sel ∧ (sel.base = b ∨ sel.overlay = some b)) } := by
  have base (x : Option Selection) : (x.any fun sel => decide (sel.base = b)) = decide (x.map (·.base) = some b) := by
    cases x <;> simp
  have overlay (x : Option Selection) : (x.any fun sel => decide (sel.overlay = some b)) = decide (x.bind (·.overlay) = some b) := by
    cases x <;> simp
  have names : p.stored.any (·.names b) = decide (∃ sel, p.stored = some sel ∧ (sel.base = b ∨ sel.overlay = some b)) := by
    cases p.stored <;> simp [Selection.names]
  simp only [PlanStore.standing, base, overlay, names]

/-- Settles O25. -/
theorem planReadReportsTheSlot : Obligations.PlanReadReportsTheSlot := by
  unfold Obligations.PlanReadReportsTheSlot
  intro fr rest s b n turn hk body
  refine ⟨fun plan c f h => slotContent_of_inForce plan h, congrArg Host.Outcome.next
    ((serve_at_turn turn hk executePlanRead).trans ?_)⟩
  simp only [executePlanRead, body]
  cases numbered 4 b with
  | none => rfl
  | some bank =>
    dsimp only
    split
    · rfl
    · rw [← standing_eq]; rfl

end Sys2Proof.Machine
end

section
/-!
Offered records (O24): what PLAN WRITE makes of a record's bytes, the checks against a header, and the effective record.
-/

namespace Sys2Proof.Machine

/-! ### The header's bytes (R25, R190) -/

/-- What is offered for slot 0 is read as a header. -/
theorem validate_header {l : List Byte} {h : Header} (p : PlanStore) (b : BankId) (e : offeredHeader l = some h) :
    p.validate b 0 l = .valid (.header h) := by simp only [PlanStore.validate, numbered_zero, e]

theorem validate_noHeader {l : List Byte} (p : PlanStore) (b : BankId) (e : offeredHeader l = none) :
    p.validate b 0 l = .refused .range := by simp only [PlanStore.validate, numbered_zero, e]

theorem readYesNo_isSome (b : Byte) : (readYesNo b).isSome = true ↔ b.toNat ≤ 1 := by
  unfold readYesNo
  split_ifs <;> simp <;> omega

theorem groupParams_inRange (q : GroupParams) :
    q.inRange = true ↔ q.stageLimit ≤ 4 ∧ q.spacing ≤ 600 ∧ q.pairing ≤ min q.spacing 100 := by
  simp only [GroupParams.inRange, Bool.and_eq_true, decide_eq_true_eq, and_assoc]

theorem readHeader_group (l : List Byte) (g : GroupId) : (readHeader l).groups[g] = readGroupParams l g := by
  simp [readHeader]

/-- What holds of the bytes from a place on holds of each byte by its offset. -/
theorem all_drop_iff {l : List Byte} {n k : Nat} (h : l.length = n + k) (q : Byte → Bool) :
    (l.drop n).all q = true ↔ ∀ i < k, q (l.getD (n + i) 0) = true := by
  rw [List.all_eq_true, List.forall_mem_iff_getElem]
  have entry {i : Nat} (lt : i < k) : l.getD (n + i) 0 = l[n + i]'(by omega) := by rw [List.getD_eq_getElem]
  constructor
  · intro all i lt
    rw [entry lt, ← List.getElem_drop]
    exact all i (by rw [List.length_drop]; omega)
  · intro each i lt
    have lt' : i < k := by rw [List.length_drop] at lt; omega
    rw [List.getElem_drop, ← entry lt']
    exact each i lt'

/-- The ranges of the header that 33 bytes read as, field by field (R25). -/
theorem readHeader_inRange {l : List Byte} (h : l.length = 33) : (readHeader l).inRange = true ↔
    400 ≤ readTwo l 0 ∧ readTwo l 0 ≤ 2400 ∧
    (∀ g : GroupId, readOne l (3 + 4 * g.val) ≤ 4 ∧ readTwo l (4 + 4 * g.val) ≤ 600 ∧
      readOne l (6 + 4 * g.val) ≤ min (readTwo l (4 + 4 * g.val)) 100) ∧
    readTwo l 19 ≤ 1439 ∧ readTwo l 21 ≤ 1439 ∧ 100 ≤ readTwo l 23 ∧ readTwo l 23 ≤ 3000 ∧
    ∀ i < 8, 32 ≤ readOne l (25 + i) ∧ readOne l (25 + i) ≤ 126 := by
  have groups : allGroups.all (fun g => ((readHeader l).groups[g]).inRange) = true ↔ ∀ g : GroupId,
      readOne l (3 + 4 * g.val) ≤ 4 ∧ readTwo l (4 + 4 * g.val) ≤ 600 ∧
        readOne l (6 + 4 * g.val) ≤ min (readTwo l (4 + 4 * g.val)) 100 := by
    simp only [List.all_eq_true, mem_allGroups, forall_const, readHeader_group, groupParams_inRange]
    rfl
  have label : ((readHeader l).label.all fun b => decide (32 ≤ b.toNat) && decide (b.toNat ≤ 126)) = true ↔
      ∀ i < 8, 32 ≤ readOne l (25 + i) ∧ readOne l (25 + i) ≤ 126 := by
    rw [show (readHeader l).label = l.drop 25 from List.drop_drop, all_drop_iff (k := 8) h]
    simp only [Bool.and_eq_true, decide_eq_true_eq]
    rfl
  simp only [Header.inRange, Bool.and_eq_true, decide_eq_true_eq, groups, label, and_assoc]
  rfl

theorem offeredHeader_eq (l : List Byte) : offeredHeader l =
    if readOne l 2 ≤ 1 ∧ (readHeader l).inRange = true then some (readHeader l) else none := by
  simp only [offeredHeader, Bool.and_eq_true, readYesNo_isSome]
  rfl

/-! ### A crossing record's bytes (R27, R190) -/

/-- What is offered for slot c is read as a crossing record and checked against the bank's header. -/
theorem validate_record {l : List Byte} {c : CrossingId} {r : Record} (p : PlanStore) (b : BankId)
    (e : offeredRecord l = some r) (check : checkAtWrite (p.header b) c r = none) :
    p.validate b (c.val + 1) l = .valid (.record c r) := by
  simp only [PlanStore.validate, numbered_succ, validateRecord, e, check]

theorem validate_failing {l : List Byte} {c : CrossingId} {r : Record} {reason : RecordReason} (p : PlanStore) (b : BankId)
    (e : offeredRecord l = some r) (check : checkAtWrite (p.header b) c r = some reason) :
    p.validate b (c.val + 1) l = .refused reason := by
  simp only [PlanStore.validate, numbered_succ, validateRecord, e, check]

theorem validate_noRecord {l : List Byte} (p : PlanStore) (b : BankId) (c : CrossingId) (e : offeredRecord l = none) :
    p.validate b (c.val + 1) l = .refused .range := by
  simp only [PlanStore.validate, numbered_succ, validateRecord, e]

/-- The ranges of a crossing record that need no header, with those of its group and partner bytes (R27). -/
theorem offeredRecord_eq (l : List Byte) : offeredRecord l =
    if readOne l 21 ≤ 4 ∧ readOne l 22 ≤ 8 ∧ (readRecord l).inRange = true then some (readRecord l) else none := by
  simp only [offeredRecord, Bool.and_eq_true, decide_eq_true_eq, and_assoc]

/-! ### The checks against a header (R26, R28) -/

theorem placed_iff (r : Record) (y : Nat) : r.placed y = true ↔ r.offset < y ∧ r.bandStart < y ∧ r.bandLen < y := by
  simp only [Record.placed, Bool.and_eq_true, decide_eq_true_eq, and_assoc]

theorem checkAtWrite_eq (h : Header) (c : CrossingId) (r : Record) : checkAtWrite (some h) c r =
    if ¬ (r.offset < h.cycle ∧ r.bandStart < h.cycle ∧ r.bandLen < h.cycle) then some .range
    else if ∃ g, r.group = some g ∧ (h.groups[g]).stageLimit = 0 then some .group
    else if r.partner = some c then some .partner
    else if 0 < r.bandLen ∧ h.cycle < r.bandLen + (r.amber + r.leadRed + r.minWalk +
        ((100 * r.length + r.accessibleSpeed - 1) / r.accessibleSpeed + r.margin) + r.trailRed) then some .fit
    else none := by
  simp only [checkAtWrite, ← placed_iff, ← groupDefined_iff, ← fits_iff, Bool.not_eq_true', Bool.not_eq_true]

theorem effective_overlaid {p : PlanStore} {sel : Selection} {c : CrossingId} {o : BankId} {f : InForce}
    (overlay : sel.overlay = some o) (present : p.recordIn o c = some f) : p.effective sel c = some f := by
  simp only [PlanStore.effective, overlay, Option.bind_some, present]

theorem effective_base {p : PlanStore} {sel : Selection} {c : CrossingId}
    (absent : ∀ o, sel.overlay = some o → p.recordIn o c = none) : p.effective sel c = p.recordIn sel.base c := by
  have none : (sel.overlay.bind fun o => p.recordIn o c) = none := Option.bind_eq_none_iff.2 absent
  simp only [PlanStore.effective, none]

/-- Settles O24. -/
theorem recordsAreCheckedAndResolved : Obligations.RecordsAreCheckedAndResolved := by
  unfold Obligations.RecordsAreCheckedAndResolved
  refine ⟨?_, ?_, fun c r => ⟨rfl, fun h => checkAtWrite_eq h c r⟩,
    fun p sel c => ⟨fun o f => effective_overlaid, effective_base⟩⟩
  · intro p b l len one pair inRange
    have ranges : readOne l 2 ≤ 1 ∧ (readHeader l).inRange = true ↔ inRange := by
      rw [readHeader_inRange len, and_left_comm, and_left_comm (a := readOne l 2 ≤ 1)]
      rfl
    have offered : offeredHeader l = if inRange then some (readHeader l) else none :=
      (offeredHeader_eq l).trans (if_congr ranges rfl rfl)
    refine ⟨fun good => ⟨readHeader l, validate_header p b (offered.trans (if_pos good)), rfl, beq_eq_decide .., ?_⟩,
      fun bad => validate_noHeader p b (offered.trans (if_neg bad))⟩
    exact ⟨readHeader_group l, rfl, rfl, rfl, List.drop_drop⟩
  · intro p b c l len one pair r inRange
    have ranges : one 21 ≤ 4 ∧ one 22 ≤ 8 ∧ r.inRange = true ↔ inRange := by
      unfold inRange
      clear_value r one
      simp only [Record.inRange, Bool.and_eq_true, Bool.or_eq_true, decide_eq_true_eq, and_assoc]
      simp only [and_left_comm (b := one 22 ≤ 8)]
      simp only [and_left_comm (b := one 21 ≤ 4)]
    have offered : offeredRecord l = if inRange then some r else none :=
      (offeredRecord_eq l).trans (if_congr ranges rfl rfl)
    refine ⟨fun bad => validate_noRecord p b c (offered.trans (if_neg bad)), fun good => ?_⟩
    cases check : checkAtWrite (p.header b) c r with
    | some reason => exact validate_failing p b (offered.trans (if_pos good)) check
    | none => exact validate_record p b (offered.trans (if_pos good)) check

end Sys2Proof.Machine
end

section
/-!
PLAN WRITE (O22, O23): what the begin and the end of a slot's write make of the plan store, how the records are cut from a
request, and the turns of the records.
-/

namespace Sys2Proof.Machine

variable {s : State}

/-! ### The begin of a slot's write (R31) -/

/-- A validated content belongs to the slot it was offered for. -/
theorem validate_slot {p : PlanStore} {b : BankId} {n : Nat} {l : List Byte} {item : SlotItem} (h : n ≤ 8)
    (e : p.validate b n l = .valid item) : item.slot = n := by
  obtain rfl | ⟨c, rfl⟩ := slot_cases h
  · cases offered : offeredHeader l with
    | none => cases (validate_noHeader p b offered).symm.trans e
    | some d => cases (validate_header p b offered).symm.trans e; rfl
  · cases offered : offeredRecord l with
    | none => cases (validate_noRecord p b c offered).symm.trans e
    | some r =>
      cases check : checkAtWrite (p.header b) c r with
      | none => cases (validate_record p b offered check).symm.trans e; rfl
      | some reason => cases (validate_failing p b offered check).symm.trans e

theorem changeBank_banks_other (p : PlanStore) {b b' : BankId} (f : Bank → Bank) (h : b' ≠ b) :
    (p.changeBank b f).banks[b'] = p.banks[b'] := change_get_ne _ _ (Ne.symm h)

@[simp] theorem absent_present {α : Type} (k : Slot α) : k.absent.present = none := by simp [Slot.absent, Slot.present]

@[simp] theorem written_present {α : Type} (a : α) : (Slot.written a).present = some a := rfl

/-- The plan store as the write of a content into a bank begins: its slot absent (R31). -/
def PlanStore.beginWrite (p : PlanStore) (b : BankId) (item : SlotItem) : PlanStore := p.changeBank b fun k => k.beginSlot item

/-- The slot whose write begins is absent from that moment (R31). -/
theorem beginWrite_slot (p : PlanStore) (b : BankId) (item : SlotItem) : (p.beginWrite b item).slotContent b item.slot = none := by
  cases item with
  | header h =>
    rw [SlotItem.slot, slotContent_zero, PlanStore.beginWrite, changeBank_header_self]
    simp [Bank.beginSlot]
  | record c r =>
    rw [SlotItem.slot, slotContent_succ, PlanStore.beginWrite, changeBank_recordIn_self]
    simp [Bank.beginSlot]

/-- Every other slot of the bank is as it was. -/
theorem beginWrite_other (p : PlanStore) (b : BankId) {item : SlotItem} {n : Nat} (h : n ≤ 8) (ne : n ≠ item.slot) :
    (p.beginWrite b item).slotContent b n = p.slotContent b n := by
  have header {c : CrossingId} {r : Record} : (p.beginWrite b (.record c r)).header b = p.header b := changeBank_header_self p b _
  obtain rfl | ⟨d, rfl⟩ := slot_cases h
  · cases item with
    | header h => exact absurd rfl ne
    | record c r => rw [slotContent_zero, slotContent_zero, header]
  · rw [slotContent_succ, slotContent_succ, PlanStore.beginWrite, changeBank_recordIn_self]
    cases item with
    | header h => rfl
    | record c r =>
      have other : c ≠ d := fun e => ne (e ▸ rfl)
      simp only [Bank.beginSlot, Fin.getElem_fin, change_get_ne _ _ other]
      rfl

/-! ### The end of a slot's write (R31, R32) -/

/-- A present record that fails the new header is no longer present; any other is as it was (R32). -/
theorem prunedSlot_present_eq (h : Header) (c : CrossingId) (k : Slot Record) : (prunedSlot h c k).present =
    k.present.bind fun r => if checkAtWrite (some h) c r = none then some r else none := by
  unfold prunedSlot
  cases present : k.present with
  | none => exact present
  | some r => cases check : checkAtWrite (some h) c r <;> simp [check, present]

/-- The re-check prunes a slot where its record is present before and absent after (R32). -/
theorem prunes_iff (h : Header) (c : CrossingId) (k : Slot Record) :
    prunes h c k = (k.present.isSome && (prunedSlot h c k).present.isNone) := by
  rw [prunedSlot_present_eq]
  unfold prunes
  cases k.present with
  | none => rfl
  | some r => cases check : checkAtWrite (some h) c r <;> simp [check]

/-- The plan store as the write of a content into a bank ends (R31, R32). -/
def PlanStore.finishWrite (p : PlanStore) (b : BankId) (item : SlotItem) : PlanStore := p.changeBank b fun k => k.finishSlot item

/-- A header's re-check, record by record (R32). -/
theorem finishHeader_recordIn (p : PlanStore) (b : BankId) (h : Header) (c : CrossingId) :
    (p.finishWrite b (.header h)).recordIn b c =
      (prunedSlot h c ((p.banks[b]).records[c])).present.map fun r => { bank := b, record := r } := by
  rw [PlanStore.finishWrite, changeBank_recordIn_self]
  simp [Bank.finishSlot]

/-- The written slot stands, and a header has pruned the records that fail it (R31, R32). -/
theorem finishWrite_slotFinished (p : PlanStore) (w : WriteRun) :
    SlotFinished p (p.finishWrite w.bank w.item) w ((p.banks[w.bank]).pruneCount w.item) where
  header h e := by
    rw [e]
    refine ⟨changeBank_header_self p w.bank _, fun c => ?_, congrArg List.length (List.filter_congr fun c _ => ?_)⟩
    · rw [finishHeader_recordIn, prunedSlot_present_eq, PlanStore.recordIn]
      cases ((p.banks[w.bank]).records[c]).present with
      | none => rfl
      | some r => by_cases check : checkAtWrite (some h) c r = none <;> simp [check]
    · rw [finishHeader_recordIn, prunes_iff]
      simp [PlanStore.recordIn]
  record c r e := by
    rw [e]
    refine ⟨?_, changeBank_header_self p w.bank _, fun d ne => ?_, rfl⟩
    · rw [PlanStore.finishWrite, changeBank_recordIn_self]
      simp [Bank.finishSlot]
    · rw [PlanStore.finishWrite, changeBank_recordIn_self]
      simp only [Bank.finishSlot, Fin.getElem_fin, change_get_ne _ _ (Ne.symm ne)]
      rfl
  banks b ne := changeBank_banks_other p _ ne
  inForce := rfl
  pendingSelection := rfl
  stored := rfl
  deferral := rfl

/-! ### The records of a request (section 12.3.1) -/

theorem recordsLength_succ (n m : Nat) : recordsLength (n + 1) m = 35 * m := by
  induction m generalizing n with
  | zero => rfl
  | succ m ih => rw [recordsLength, ih, slotSize, if_neg n.succ_ne_zero]; omega

/-- The length of `n` records from a slot on: 33 bytes of a header at slot 0, and 35 of every crossing record (R29). -/
theorem recordsLength_eq {first n : Nat} (h : 1 ≤ n) :
    recordsLength first n = if first = 0 then 33 + 35 * (n - 1) else 35 * n := by
  cases first with
  | zero => obtain ⟨m, rfl⟩ := Nat.exists_eq_add_of_le' h; rw [recordsLength, recordsLength_succ]; rfl
  | succ first => exact recordsLength_succ first n

@[simp] theorem cutRecords_length (first n : Nat) (l : List Byte) : (cutRecords first n l).length = n := by
  induction n generalizing first l with
  | zero => rfl
  | succ n ih => rw [cutRecords, List.length_cons, ih]

/-- The crossing records follow one another, 35 bytes each. -/
theorem cutRecords_get (first : Nat) {n i : Nat} (l : List Byte) (h : i < n) :
    (cutRecords (first + 1) n l)[i]? = some ((l.drop (35 * i)).take 35) := by
  induction n generalizing first l i with
  | zero => cases h
  | succ n ih =>
    rw [cutRecords, slotSize, if_neg first.succ_ne_zero]
    cases i with
    | zero => rfl
    | succ i =>
      rw [List.getElem?_cons_succ, ih _ _ (Nat.lt_of_succ_lt_succ h), List.drop_drop]
      rw [Nat.mul_succ, Nat.add_comm]

/-! ### The turn of a record (R30, R33) -/

/-- With no record left the transfer has ended (R33). -/
theorem nextRecord_nil {w : WriteRun} (h : w.rest = []) (n : Nat) : s.nextRecord w n = s.planWriteDone w none none := by
  simp only [State.nextRecord, h]

theorem nextRecord_refused {w : WriteRun} {l : List Byte} {rest : List (List Byte)} {n : Nat} {reason : RecordReason}
    (h : w.rest = l :: rest) (e : s.store.validate w.bank n l = .refused reason) :
    s.nextRecord w n = s.planWriteDone w (some n) (some reason) := by simp only [State.nextRecord, h, e]

theorem nextRecord_valid {w : WriteRun} {l : List Byte} {rest : List (List Byte)} {n : Nat} {item : SlotItem}
    (h : w.rest = l :: rest) (e : s.store.validate w.bank n l = .valid item) :
    s.nextRecord w n = { s with
      store := s.store.beginWrite w.bank item
      host := { s.host with executing := some { w with item := item, rest := rest } } } := by
  simp only [State.nextRecord, h, e]; rfl

/-- Where no write is in execution the reply is all that is made (R33). -/
theorem planWriteDone_idle (idle : s.host.executing = none) (w : WriteRun) (n : Option Nat) (r : Option RecordReason) :
    s.planWriteDone w n r = s.done w.tag (.planWrite w.written (w.count - w.written) n r w.pruned) := by
  have same : ({ s with host := { s.host with executing := none } } : State) = s := by rw [← idle]
  rw [State.planWriteDone, same]

/-! ### PLAN WRITE at its turn (R29, R30) -/

theorem slotsInRange_iff (f n : Nat) :
    slotsInRange f n = false ↔ 8 < f ∨ n < 1 ∨ 9 < n ∨ 8 < f + n - 1 := by
  simp only [slotsInRange, Bool.and_eq_false_iff, decide_eq_false_iff_not]
  omega

/-- A body too short to hold the three fields (R179). -/
theorem executePlanWrite_short {fr : Frame} (short : fr.body.length < 3) : executePlanWrite fr s = s.refuse fr.tag .badLength := by
  unfold executePlanWrite
  split
  · rename_i body
    rw [body] at short
    simp only [List.length_cons] at short
    omega
  · rfl

section
variable {fr : Frame} {b f n : Byte} {records : List Byte} {bank : BankId}

/-- Step 1 of R29. -/
theorem executePlanWrite_outOfRange (body : fr.body = b :: f :: n :: records)
    (bad : numbered 4 b = none ∨ slotsInRange f.toNat n.toNat = false) :
    executePlanWrite fr s = s.refuse fr.tag .outOfRange := by
  cases named : numbered 4 b with
  | none => simp only [executePlanWrite, body, named]
  | some bank => simp [executePlanWrite, body, named, bad.resolve_left (by rw [named]; nofun)]

/-- Step 2 of R29. -/
theorem executePlanWrite_badLength (body : fr.body = b :: f :: n :: records) (named : numbered 4 b = some bank)
    (slots : slotsInRange f.toNat n.toNat = true) (bad : records.length ≠ recordsLength f.toNat n.toNat) :
    executePlanWrite fr s = s.refuse fr.tag .badLength := by simp [executePlanWrite, body, named, slots, bad]

/-- Step 3 of R29. -/
theorem executePlanWrite_inUse (body : fr.body = b :: f :: n :: records) (named : numbered 4 b = some bank)
    (slots : slotsInRange f.toNat n.toNat = true) (length : records.length = recordsLength f.toNat n.toNat)
    (used : s.store.inUse bank = true) :
    executePlanWrite fr s = s.refuse fr.tag .bankInUse := by simp [executePlanWrite, body, named, slots, length, used]

/-- A PLAN WRITE that passes its checks takes the turn of its first record, with the others cut after it (R30). -/
theorem executePlanWrite_checked (s : State) (body : fr.body = b :: f :: n :: records) (named : numbered 4 b = some bank)
    (slots : slotsInRange f.toNat n.toNat = true) (length : records.length = recordsLength f.toNat n.toNat)
    (free : s.store.inUse bank = false) : ∃ w : WriteRun, executePlanWrite fr s = s.nextRecord w f.toNat ∧ w.tag = fr.tag ∧
      w.bank = bank ∧ w.count = n.toNat ∧ w.written = 0 ∧ w.pruned = 0 ∧ w.rest =
        records.take (slotSize f.toNat) :: cutRecords (f.toNat + 1) (n.toNat - 1) (records.drop (slotSize f.toNat)) := by
  have one : 1 ≤ n.toNat := by
    simp only [slotsInRange, Bool.and_eq_true, decide_eq_true_eq] at slots
    omega
  refine ⟨.start fr.tag bank .blank (cutRecords f.toNat n.toNat records), ?_, rfl, rfl, cutRecords_length _ _ _, rfl, rfl, ?_⟩
  · simp [executePlanWrite, body, named, slots, length, free]
  · obtain ⟨m, count⟩ := Nat.exists_eq_add_of_le' one
    rw [count]
    rfl

end

/-- Settles O22. -/
theorem planWriteIsCheckedThenBegins : Obligations.PlanWriteIsCheckedThenBegins := by
  unfold Obligations.PlanWriteIsCheckedThenBegins
  have served {fr : Frame} {rest : List Frame} {s t : State} (turn : s.AtTurn fr rest) (hk : fr.isKind 4 = true)
      (e : executePlanWrite fr (s.taking rest) = t) : exec .planWrite s = .next t.transmit :=
    congrArg Host.Outcome.next ((serve_at_turn turn hk executePlanWrite).trans (congrArg State.transmit e))
  refine ⟨fun fr rest s turn hk short => served turn hk (executePlanWrite_short short), ?_, ?_⟩
  · intro fr rest s b f n records turn hk body badSlots badLength
    have slots : slotsInRange f.toNat n.toNat = false ↔ badSlots := slotsInRange_iff _ _
    have inRange (good : ¬ badSlots) : slotsInRange f.toNat n.toNat = true := by
      rwa [← slots, Bool.not_eq_false] at good
    have length (good : ¬ badSlots) : badLength ↔ records.length ≠ recordsLength f.toNat n.toNat := by
      rw [recordsLength_eq (by omega)]
    refine ⟨fun bad => served turn hk (executePlanWrite_outOfRange body (bad.imp_right slots.2)),
      fun bank named good bad => served turn hk (executePlanWrite_badLength body named (inRange good) ((length good).1 bad)),
      fun bank named good whole used => served turn hk (executePlanWrite_inUse body named (inRange good) ?_ used)⟩
    exact not_ne_iff.1 fun bad => whole ((length good).2 bad)
  · intro fr rest s b f n records bank turn hk body named first one last whole free
    obtain ⟨-, ready, -⟩ := id turn
    simp only [HostPort.ready, Bool.and_eq_true, Option.isNone_iff_eq_none] at ready
    obtain ⟨⟨idle, -⟩, -⟩ := ready
    have slots : slotsInRange f.toNat n.toNat = true := by
      rw [← Bool.not_eq_false, slotsInRange_iff]
      omega
    obtain ⟨w, begins, tag, rfl, count, written, pruned, cut⟩ := executePlanWrite_checked (s.taking rest) body named slots
      (whole.trans (recordsLength_eq one).symm) free
    refine ⟨fun reason bad => ?_, fun item good => ?_⟩
    · have stopped := (nextRecord_refused (s := s.taking rest) cut bad).trans (planWriteDone_idle (s := s.taking rest) idle _ _ _)
      rw [tag, written, count, pruned] at stopped
      exact served turn hk (begins.trans stopped)
    · have slot := validate_slot first good
      have started := begins.trans (nextRecord_valid (s := s.taking rest) cut good)
      refine ⟨_, _, served turn hk started, rfl, tag, rfl, rfl, count, written, pruned, cutRecords_length _ _ _, slot,
        fun i lt => ?_, ?_, fun m le ne => ?_, fun b' ne => changeBank_banks_other _ _ ne, rfl, rfl, rfl, rfl⟩
      · exact (cutRecords_get _ _ lt).trans (by rw [List.drop_drop]; rfl)
      · rw [← slot]
        exact beginWrite_slot _ _ item
      · exact beginWrite_other _ _ le (slot ▸ ne)

/-! ### SLOT_WRITE_DONE (R30 to R33) -/

/-- The write run with one more record written and so many more pruned (R33). -/
def WriteRun.onward (w : WriteRun) (pruned : Nat) : WriteRun := { w with written := w.written + 1, pruned := w.pruned + pruned }

/-- The end of a slot's write, then the turn of the next record (R30 to R33). -/
theorem slotWriteDone_eq {w : WriteRun} (h : s.host.executing = some w) : s.slotWriteDone =
    ({ s with store := s.store.finishWrite w.bank w.item } : State).nextRecord
      (w.onward ((s.store.banks[w.bank]).pruneCount w.item)) (w.item.slot + 1) := by
  simp only [State.slotWriteDone, h]
  rfl

/-- Settles O23. -/
theorem lastSlotWriteEndsThePlanWrite : Obligations.LastSlotWriteEndsThePlanWrite := by
  unfold Obligations.LastSlotWriteEndsThePlanWrite
  have taken {s t : State} (run : s.running = true) (e : s.slotWriteDone = t) :
      exec .slotWriteDone s = .next t.transmit :=
    congrArg Host.Outcome.next ((live_running run State.slotWriteDone).trans (congrArg State.transmit e))
  refine ⟨fun s w run writing last => ?_, fun s w l rest run writing more lt => ?_⟩
  · have ended := (slotWriteDone_eq writing).trans (nextRecord_nil (w := w.onward _) last _)
    exact ⟨_, _, taken run ended, finishWrite_slotFinished s.store w, rfl⟩
  · intro slot
    refine ⟨_, _, finishWrite_slotFinished s.store w, fun reason bad => ?_, fun item good => ?_⟩
    · exact taken run ((slotWriteDone_eq writing).trans (nextRecord_refused more bad))
    · have begun : item.slot = slot := validate_slot lt good
      refine ⟨_, taken run ((slotWriteDone_eq writing).trans (nextRecord_valid more good)), begun, ?_, fun m le ne => ?_,
        fun b ne => changeBank_banks_other _ _ ne, rfl, rfl, rfl, rfl⟩
      · rw [← begun]
        exact beginWrite_slot _ _ item
      · exact beginWrite_other _ _ le (begun ▸ ne)

end Sys2Proof.Machine
end

section
/-!
The completion of start-up (O12): what is re-adopted from the plan store, and the fail-recall tests that end it.
-/

namespace Sys2Proof.Machine

variable {s t : State} {c : CrossingId}

/-! ### The stored selection re-adopted (R43) -/

theorem checked_effective (p : PlanStore) (sel : Selection) (c : CrossingId) : p.checked.effective sel c = p.effective sel c :=
  effective_congr (checked_recordIn p sel.base c) fun o _ => checked_recordIn p o c

theorem checked_misfit (p : PlanStore) (sel : Selection) (h : Header) : p.checked.misfit sel h = p.misfit sel h := by
  simp only [PlanStore.misfit, checked_effective]

theorem readoption_eq_some {p : PlanStore} {sel : Selection} {h : Header} (stored : p.stored = some sel)
    (header : p.header sel.base = some h) (fits : p.misfit sel h = none) : p.checked.readoption = some (sel, h) := by
  have stored' : p.checked.stored = some sel := stored
  simp [PlanStore.readoption, stored', header, checked_misfit, fits]

theorem readoption_eq_none {p : PlanStore} (lost : ∀ sel, p.stored = some sel → p.header sel.base = none ∨
    ∃ h, p.header sel.base = some h ∧ (p.misfit sel h).isSome = true) : p.checked.readoption = none := by
  unfold PlanStore.readoption
  split
  · rfl
  · rename_i sel stored
    rw [checked_header]
    obtain headerless | ⟨h, header, misfit⟩ := lost sel stored
    · rw [headerless]
    · obtain ⟨m, misfit⟩ := Option.isSome_iff_exists.1 misfit
      simp [header, checked_misfit, misfit]

/-! ### Fail recall at one crossing after another (R60) -/

/-- No crossing is in VEH_GREEN. -/
def State.NoGreen (s : State) : Prop := ∀ c, (s.crossing c).state ≠ .vehGreen

/-- Fail recall keeps every crossing's state where none is in VEH_GREEN. -/
theorem testFailRecall_noGreen (h : s.NoGreen) (c : CrossingId) : (s.testFailRecall c).NoGreen := by
  obtain ⟨alone, r, w, own⟩ := testFailRecall_barred (greenExpired_of_state (h c))
  intro d
  by_cases e : d = c
  · rw [e, own]; exact h c
  · rw [(alone.within d e).1]; exact h d

/-- Out of service fail recall places nothing (R60). -/
theorem testFailRecall_out (h : (s.crossing c).inService = false) : s.testFailRecall c = s := by simp [State.testFailRecall, h]

/-- Fail recall at a crossing that registers calls and has none places a call, which does not start at once (R47, R60). -/
theorem testFailRecall_places (flag : (s.crossing c).failRecall = true) (service : (s.crossing c).inService = true)
    (registers : (s.crossing c).state.registering = true) (free : s.callOf c = none) (moving : (s.crossing c).state ≠ .vehGreen) :
    (s.testFailRecall c).callOf c = some (recallOffer.newRecord c s.clock.now) := by
  have queued : s.testFailRecall c = (s.registerCall c recallOffer).evaluate c := by
    simp [State.testFailRecall, State.intoQueue, flag, service, registers, free]
  have barred : (s.registerCall c recallOffer).Barred c := .inl (greenExpired_of_state moving)
  rw [queued, (evaluate_waits barred).call]
  exact find_append_self (r := recallOffer.newRecord c s.clock.now) free

/-- The tests at other crossings leave a crossing as it is. -/
theorem failRecalls_others {l : List CrossingId} (h : c ∉ l) (hs : s.NoGreen) : Within (· ≠ c) s (l.foldl State.testFailRecall s) := by
  induction l generalizing s with
  | nil => exact .refl s
  | cons d l ih =>
    obtain ⟨other, rest⟩ := not_or.1 fun e => h (List.mem_cons.2 e)
    have turn : Within (· ≠ c) s (s.testFailRecall d) := fun e he =>
      (testFailRecall_barred (greenExpired_of_state (hs d))).1.within e fun same => he fun eq => other (eq ▸ same)
    exact turn.trans (ih rest (testFailRecall_noGreen hs d))

theorem failRecalls_noGreen (l : List CrossingId) (hs : s.NoGreen) : (l.foldl State.testFailRecall s).NoGreen :=
  foldl_keeps l s hs fun _ d h => testFailRecall_noGreen h d

/-- Every crossing tested once: its own test finds it as the start-up left it, and the tests after it leave what that made of
it. -/
theorem failRecalls_turn (hs : s.NoGreen) (c : CrossingId) : ∃ u, Steady s u ∧ u.NoGreen ∧ Within (· ≠ c) s u ∧
    Within (· ≠ c) (u.testFailRecall c) (allCrossings.foldl State.testFailRecall s) := by
  obtain ⟨before, rest, split⟩ := List.append_of_mem (mem_allCrossings c)
  have once : allCrossings.Nodup := by decide
  rw [split] at once ⊢
  obtain ⟨-, later, apart⟩ := List.nodup_append.1 once
  have green := failRecalls_noGreen before hs
  refine ⟨before.foldl State.testFailRecall s, .foldl _ s testFailRecall_steady, green,
    failRecalls_others (fun h => apart c h c (List.mem_cons_self ..) rfl) hs, ?_⟩
  rw [List.foldl_append, List.foldl_cons]
  exact failRecalls_others (List.nodup_cons.1 later).1 (testFailRecall_noGreen green c)

/-- Where no crossing is in service fail recall places nothing at all. -/
theorem failRecalls_out (h : ∀ c, (s.crossing c).inService = false) : allCrossings.foldl State.testFailRecall s = s :=
  foldl_keeps (P := (· = s)) allCrossings s rfl fun _ c e => by rw [e, testFailRecall_out (h c)]

/-- The tests leave the groups as they are. -/
theorem failRecalls_groups (hs : s.NoGreen) : (allCrossings.foldl State.testFailRecall s).groups = s.groups :=
  (foldl_keeps (P := fun t => t.NoGreen ∧ t.groups = s.groups) allCrossings s ⟨hs, rfl⟩ fun _ c ⟨green, groups⟩ =>
    ⟨testFailRecall_noGreen green c, (testFailRecall_barred (greenExpired_of_state (green c))).1.groups.trans groups⟩).2

/-! ### The completion of start-up (R43, R102) -/

/-- The part as its start-up begins: running, with every slot checked (R23). -/
def State.awake (s : State) : State := { s with store := s.store.checked, running := true }

theorem startUp_under (stop : s.running = false) {sel : Selection} {h : Header}
    (e : s.store.checked.readoption = some (sel, h)) :
    s.startUp = allCrossings.foldl State.testFailRecall (s.awake.startUnder sel h).relevelAll := by
  simp only [State.startUp, stop, e]; rfl

theorem startUp_empty (stop : s.running = false) (e : s.store.checked.readoption = none) :
    s.startUp = allCrossings.foldl State.testFailRecall s.awake.startEmpty.relevelAll := by
  simp only [State.startUp, stop, e]; rfl

theorem startUnder_crossing (sel : Selection) (h : Header) (c : CrossingId) :
    (s.awake.startUnder sel h).crossing c = .startUp (s.store.effective sel c) := by
  simp only [State.startUnder, State.crossing, Fin.getElem_fin, rewrite_get]
  exact congrArg Crossing.startUp (checked_effective s.store sel c)

theorem startUnder_noGreen (sel : Selection) (h : Header) : (s.awake.startUnder sel h).NoGreen := by
  intro c
  rw [startUnder_crossing]
  cases s.store.effective sel c <;> nofun

theorem startUnder_group (sel : Selection) (h : Header) (g : GroupId) :
    (s.awake.startUnder sel h).group g = .startUp h.groups[g] := by
  simp [State.startUnder, State.group]

/-- A crossing with a record as start-up completes: in STARTUP_FLASH with the call that fail recall placed (R60, R102). -/
theorem failRecalls_startUp {f : InForce} (hs : s.NoGreen) (started : s.crossing c = .startUp (some f)) (free : s.callOf c = none) :
    (∃ r w, (allCrossings.foldl State.testFailRecall s).crossing c = { Crossing.startUp (some f) with route := r, waiting := w }) ∧
    (allCrossings.foldl State.testFailRecall s).callOf c = some (recallOffer.newRecord c s.clock.now) := by
  obtain ⟨u, steady, green, before, after⟩ := failRecalls_turn hs c
  obtain ⟨crossing, call, -⟩ := before c (not_not_intro rfl)
  obtain ⟨crossing', call', -⟩ := after c (not_not_intro rfl)
  obtain ⟨-, r, w, tested⟩ := testFailRecall_barred (greenExpired_of_state (green c))
  rw [crossing, started] at tested
  refine ⟨⟨r, w, crossing'.trans tested⟩, ?_⟩
  rw [call', ← steady.clock]
  exact testFailRecall_places (by rw [crossing, started]; rfl) (by rw [crossing, started]; rfl) (by rw [crossing, started]; rfl)
    (call.trans free) (green c)

/-- A crossing without a record stays as it was (R60, R120). -/
theorem failRecalls_initial (hs : s.NoGreen) (initial : s.crossing c = .initial) :
    (allCrossings.foldl State.testFailRecall s).crossing c = .initial ∧
    (allCrossings.foldl State.testFailRecall s).callOf c = s.callOf c := by
  obtain ⟨u, -, -, before, after⟩ := failRecalls_turn hs c
  obtain ⟨crossing, call, -⟩ := before c (not_not_intro rfl)
  obtain ⟨crossing', call', -⟩ := after c (not_not_intro rfl)
  rw [testFailRecall_out (by rw [crossing, initial]; rfl)] at crossing' call'
  exact ⟨crossing'.trans (crossing.trans initial), call'.trans call⟩

theorem exec_startUpComplete (e : s.startUp = t) : exec .startUpComplete s = .next t.transmit := by
  rw [← e]; rfl

/-- Settles O12. -/
theorem startUpReadoptsTheStoredSelection : Obligations.StartUpReadoptsTheStoredSelection := by
  unfold Obligations.StartUpReadoptsTheStoredSelection
  refine ⟨fun s₀ s k filter sel h reset stored header fits => ?_, fun s₀ s k filter reset lost => ?_, fun s run => ?_⟩
  · have started := startUp_under reset.running (readoption_eq_some stored header fits)
    have noGreen : (s.awake.startUnder sel h).relevelAll.NoGreen := startUnder_noGreen sel h
    have crossing (c : CrossingId) : (s.awake.startUnder sel h).relevelAll.crossing c = .startUp (s.store.effective sel c) :=
      startUnder_crossing sel h c
    have free (c : CrossingId) : s.callOf c = none := by rw [State.callOf, reset.calls]; rfl
    have now : (s.awake.startUnder sel h).relevelAll.clock.now = 0 := congrArg Clock.now reset.clock
    have tests : Steady _ _ := .foldl allCrossings (s.awake.startUnder sel h).relevelAll testFailRecall_steady
    have groups := failRecalls_groups noGreen
    have recalled {c : CrossingId} {f : InForce} (record : s.store.effective sel c = some f) :=
      failRecalls_startUp (f := f) noGreen ((crossing c).trans (congrArg _ record)) (free c)
    have untouched {c : CrossingId} (record : s.store.effective sel c = none) :=
      failRecalls_initial noGreen ((crossing c).trans (congrArg _ record))
    generalize allCrossings.foldl State.testFailRecall _ = t at started tests groups recalled untouched
    have store : t.store = { s.store.checked with inForce := some sel } := tests.store
    obtain ⟨-, pending, deferral, -⟩ := reset.selections
    refine ⟨_, exec_startUpComplete started, tests.running, ?_, ?_⟩
    · exact tests.clock.trans (congrArg (fun k : Clock => { k with cycle := some h.cycle }) reset.clock)
    rw [transmit_store, store]
    refine ⟨rfl, stored, pending, deferral, checked_header s.store, checked_recordIn s.store, fun g => ?_, fun c => ?_,
      fun c f record => ?_, fun c record => ?_, fun u => ?_⟩
    · have group : t.transmit.group g = .startUp h.groups[g] := (group_of_eq groups g).trans (startUnder_group (s := s) sel h g)
      rw [group]
      exact ⟨rfl, rfl, rfl, rfl⟩
    · exact (tests.records c).trans (by rw [crossing, startUp_inForce])
    · obtain ⟨⟨r, w, own⟩, call⟩ := recalled record
      rw [transmit_crossing, transmit_callOf, own, call, now]
      exact ⟨rfl, rfl, rfl, rfl, rfl, rfl⟩
    · obtain ⟨own, call⟩ := untouched record
      rw [transmit_crossing, transmit_callOf, own, call]
      exact ⟨rfl, free c⟩
    · exact (tests.links u).trans ((relevelAll_steady _).links u)
  · have silent : allCrossings.foldl State.testFailRecall s.awake.startEmpty.relevelAll = s.awake.startEmpty.relevelAll :=
      failRecalls_out fun c => congrArg Crossing.inService (reset.crossings c)
    have started := (startUp_empty reset.running (readoption_eq_none lost)).trans silent
    obtain ⟨inForce, -, -, -⟩ := reset.selections
    exact ⟨_, exec_startUpComplete started, rfl, reset.clock, rfl, inForce, checked_header s.store, checked_recordIn s.store,
      reset.calls, reset.crossings, rfl, (relevelAll_steady s.awake.startEmpty).links⟩
  · exact exec_startUpComplete (if_pos run)

end Sys2Proof.Machine
end

section
/-!
What keeps the call queue and the units' buttons in order (O54, O58). `Orderly s t` says that from `s` to `t` the law of the
call queue is kept, that every crossing keeps what it was told of its buttons, that every unit keeps what its counts and its
button stand on, and that no FAILED unit is marked sounding. One lemma for each shared operation.
-/

namespace Sys2Proof.Machine

/-! ### The law of the call queue (R46, R47) -/

/-- What the count law and the working buttons say of a unit, but for its sounding mark, stands on these items. -/
def KerbUnit.tally (k : KerbUnit) : KerbUnit :=
  { KerbUnit.initial k.mapping with
    state := k.state, misses := k.misses, goods := k.goods, heldNow := k.heldNow, stuck := k.stuck }

/-- What the work of crossings, calls, groups and audible aids keeps of the call queue, the buttons and the units' counts. -/
structure Orderly (s t : State) : Prop where
  running : t.running = s.running
  calls : s.CallLaw → t.CallLaw
  buttons : ∀ c, (t.crossing c).working = (s.crossing c).working ∧ (t.crossing c).failRecall = (s.crossing c).failRecall
  tally : ∀ u, (t.unit u).tally = (s.unit u).tally
  sounding : ∀ u, (t.unit u).sounding = true → (s.unit u).sounding = true ∨ (s.unit u).state ≠ .failed

variable {s t w : State} {c : CrossingId}

/-- A crossing has no record where no record of the list is its own. -/
theorem callOf_eq_none : s.callOf c = none ↔ ∀ r ∈ s.calls, r.crossing ≠ c := by
  simp [State.callOf, List.find?_eq_none]

/-- The record found for a crossing is one of the list, and its own. -/
theorem callOf_mem {r : CallRecord} (h : s.callOf c = some r) : r ∈ s.calls ∧ r.crossing = c :=
  ⟨List.mem_of_find?_eq_some h, by simpa using List.find?_some h⟩

/-- A crossing with a record is in service. -/
theorem State.CallLaw.inService (h : s.CallLaw) (k : (s.callOf c).isSome = true) : (s.crossing c).inService = true := by
  obtain ⟨r, hr⟩ := Option.isSome_iff_exists.1 k
  obtain ⟨mem, rfl⟩ := callOf_mem hr
  exact (h.2 r mem).1

/-- Records may leave the list: the law stands where every crossing with a record left is still in service. -/
theorem State.CallLaw.sublist (h : s.CallLaw) (sub : t.calls.Sublist s.calls)
    (service : ∀ r ∈ t.calls, (s.crossing r.crossing).inService = true → (t.crossing r.crossing).inService = true) :
    t.CallLaw :=
  ⟨h.1.sublist (sub.map _), fun r hr => ⟨service r hr (h.2 r (sub.subset hr)).1, (h.2 r (sub.subset hr)).2⟩⟩

/-- A record changed in place: the law stands where the change keeps its crossing and the bound of its press count. -/
theorem State.CallLaw.mapped (h : s.CallLaw) (f : CallRecord → CallRecord) (own : ∀ r, (f r).crossing = r.crossing)
    (bound : ∀ r, r.pressCount ≤ 255 → (f r).pressCount ≤ 255) :
    ({ s with calls := s.calls.map fun r => if r.crossing = c then f r else r } : State).CallLaw := by
  have keeps : ∀ r : CallRecord, (if r.crossing = c then f r else r).crossing = r.crossing := fun r => by
    split
    · exact own r
    · rfl
  refine ⟨?_, fun r hr => ?_⟩
  · simpa [List.map_map, Function.comp_def, keeps] using h.1
  · obtain ⟨q, hq, rfl⟩ := List.mem_map.1 hr
    obtain ⟨service, presses⟩ := h.2 q hq
    refine ⟨by rw [keeps]; exact service, ?_⟩
    split
    · exact bound q presses
    · exact presses

/-- A record placed at the back of the list, of a crossing in service that has none (R47). -/
theorem State.CallLaw.appended (h : s.CallLaw) {r : CallRecord} (free : s.callOf r.crossing = none)
    (service : (s.crossing r.crossing).inService = true) (bound : r.pressCount ≤ 255) :
    ({ s with calls := s.calls ++ [r] } : State).CallLaw := by
  have alone := callOf_eq_none.1 free
  refine ⟨?_, fun q hq => ?_⟩
  · simp only [List.map_append, List.map_cons, List.map_nil]
    refine h.1.append (List.nodup_singleton _) fun x hx hx' => ?_
    obtain ⟨q, hq, rfl⟩ := List.mem_map.1 hx
    exact alone q hq (List.mem_singleton.1 hx')
  · rcases List.mem_append.1 hq with hq | hq
    · exact h.2 q hq
    · obtain rfl := List.mem_singleton.1 hq
      exact ⟨service, bound⟩

namespace Orderly

theorem refl (s : State) : Orderly s s := ⟨rfl, id, fun _ => ⟨rfl, rfl⟩, fun _ => rfl, fun _ => .inl⟩

theorem unitState (h : Orderly s t) (u : UnitId) : (t.unit u).state = (s.unit u).state :=
  (congrArg KerbUnit.state (h.tally u) :)

theorem trans (h : Orderly s t) (k : Orderly t w) : Orderly s w where
  running := k.running.trans h.running
  calls := k.calls ∘ h.calls
  buttons c := ⟨(k.buttons c).1.trans (h.buttons c).1, (k.buttons c).2.trans (h.buttons c).2⟩
  tally u := (k.tally u).trans (h.tally u)
  sounding u e := (k.sounding u e).elim (h.sounding u) fun ne => .inr (h.unitState u ▸ ne)

theorem after (k : Orderly t w) (h : Orderly s t) : Orderly s w := h.trans k

theorem foldl {α : Type} {f : State → α → State} (l : List α) (s : State) (h : ∀ s a, Orderly s (f s a)) :
    Orderly s (l.foldl f s) := foldl_related l s refl trans h

/-- Work that leaves the units' entries: the law of the calls and what each crossing was told of its buttons are left to
show. -/
theorem ofUnits (running : t.running = s.running) (units : t.units = s.units) (calls : s.CallLaw → t.CallLaw)
    (buttons : ∀ c, (t.crossing c).working = (s.crossing c).working ∧ (t.crossing c).failRecall = (s.crossing c).failRecall) :
    Orderly s t :=
  ⟨running, calls, buttons, fun u => by rw [unit_of_eq units], fun u e => .inl (by rwa [unit_of_eq units] at e)⟩

/-- Work that leaves the calls, the crossings and the units. -/
theorem same (running : t.running = s.running) (calls : t.calls = s.calls) (crossings : t.crossings = s.crossings)
    (units : t.units = s.units) : Orderly s t :=
  ofUnits running units (fun h => h.sublist (calls ▸ .refl _) fun r _ e => by rwa [crossing_of_eq crossings])
    fun c => by simp [crossing_of_eq crossings]

/-- Work that leaves the calls, puts no crossing out of service and tells none of its buttons, and leaves what the units'
counts and buttons stand on. -/
theorem ofEntries (running : t.running = s.running) (calls : t.calls = s.calls)
    (crossing : ∀ c, (t.crossing c).working = (s.crossing c).working ∧
      (t.crossing c).failRecall = (s.crossing c).failRecall ∧
      ((s.crossing c).inService = true → (t.crossing c).inService = true))
    (unit : ∀ u, (t.unit u).tally = (s.unit u).tally ∧ (t.unit u).sounding = (s.unit u).sounding) : Orderly s t :=
  ⟨running, fun k => k.sublist (calls ▸ .refl _) fun r _ e => (crossing r.crossing).2.2 e,
    fun c => ⟨(crossing c).1, (crossing c).2.1⟩, fun u => (unit u).1, fun u e => .inl ((unit u).2 ▸ e)⟩

/-- Work on units alone that leaves what their counts and buttons stand on, and makes no FAILED one sound. -/
theorem ofUnitEntries {v : Vector KerbUnit 32} (k : KerbLink)
    (h : ∀ u : UnitId, v[u].tally = (s.unit u).tally ∧
      (v[u].sounding = true → (s.unit u).sounding = true ∨ (s.unit u).state ≠ .failed)) :
    Orderly s { s with units := v, kerb := k } :=
  ⟨rfl, id, fun _ => ⟨rfl, rfl⟩, fun u => (h u).1, fun u => (h u).2⟩

end Orderly

variable (s)

/-! ### Updates -/

theorem raise_orderly (n : NoticeBody) : Orderly s (s.raise n) := .same rfl rfl rfl rfl

theorem countCrossing_orderly (c : CrossingId) (f : CrossingCounters → CrossingCounters) : Orderly s (s.countCrossing c f) :=
  .same rfl rfl rfl rfl

theorem countUnit_orderly (u : UnitId) (f : UnitCounters → UnitCounters) : Orderly s (s.countUnit u f) := .same rfl rfl rfl rfl

theorem changeGroup_orderly (g : GroupId) (f : Group → Group) : Orderly s (s.changeGroup g f) := .same rfl rfl rfl rfl

/-- A controller changed but for what it was told of its buttons: where the crossing has a record it stays in service. -/
theorem changeCrossing_orderly {f : Crossing → Crossing}
    (buttons : ∀ x, (f x).working = x.working ∧ (f x).failRecall = x.failRecall)
    (service : (s.crossing c).inService = true → (s.callOf c).isSome = true → (f (s.crossing c)).inService = true) :
    Orderly s (s.changeCrossing c f) := by
  refine .ofUnits rfl rfl (fun h => h.sublist (.refl _) fun r hr e => ?_) fun d => ?_
  · rw [changeCrossing_get]; split
    · rename_i own
      have found : (s.callOf c).isSome = true := by
        cases hc : s.callOf c with
        | none => exact absurd own.symm (callOf_eq_none.1 hc r hr)
        | some q => rfl
      exact own ▸ service (own ▸ e) found
    · exact e
  · rw [changeCrossing_get]; split
    · exact buttons _
    · exact ⟨rfl, rfl⟩

/-- A controller changed in a way that keeps every crossing in service that is. -/
theorem changeServing_orderly (c : CrossingId) {f : Crossing → Crossing}
    (h : ∀ x, (f x).working = x.working ∧ (f x).failRecall = x.failRecall ∧ (x.inService = true → (f x).inService = true)) :
    Orderly s (s.changeCrossing c f) :=
  changeCrossing_orderly s (fun x => ⟨(h x).1, (h x).2.1⟩) fun e _ => (h _).2.2 e

theorem changeUnit_orderly (u : UnitId) {f : KerbUnit → KerbUnit}
    (h : ∀ k, (f k).tally = k.tally ∧ ((f k).sounding = true → k.sounding = true)) : Orderly s (s.changeUnit u f) := by
  refine .ofUnitEntries _ fun v => ?_
  have e : (change s.units u f)[v] = if u = v then f (s.unit v) else s.unit v := change_get _ _ _ _
  rw [e]; split
  · exact ⟨(h _).1, .inl ∘ (h _).2⟩
  · exact ⟨rfl, .inl⟩

theorem changeAudible_orderly (u : UnitId) (f : Audible → Audible) : Orderly s (s.changeAudible u f) :=
  changeUnit_orderly s u fun _ => ⟨rfl, id⟩

theorem rewriteUnits_orderly {f : UnitId → KerbUnit → KerbUnit}
    (h : ∀ u k, (f u k).tally = k.tally ∧ (f u k).sounding = k.sounding) : Orderly s { s with units := rewrite s.units f } := by
  refine .ofUnitEntries _ fun u => ?_
  have e : (rewrite s.units f)[u] = f u (s.unit u) := rewrite_get _ _ _
  rw [e, (h _ _).2]
  exact ⟨(h _ _).1, .inl⟩

/-! ### The audible level block -/

theorem relevelUnit_tally (crossings : Vector Crossing 8) (q : Bool) (k : KerbUnit) :
    (relevelUnit crossings q k).tally = k.tally ∧ (relevelUnit crossings q k).sounding = k.sounding := by
  unfold relevelUnit; split <;> exact ⟨rfl, rfl⟩

theorem relevel_orderly (u : UnitId) : Orderly s (s.relevel u) :=
  changeUnit_orderly s u fun k => ⟨(relevelUnit_tally _ _ k).1, fun e => (relevelUnit_tally _ _ k).2 ▸ e⟩

theorem relevelAll_orderly : Orderly s s.relevelAll := rewriteUnits_orderly s fun _ => relevelUnit_tally _ _

theorem relevelCrossing_orderly (c : CrossingId) : Orderly s (s.relevelCrossing c) :=
  rewriteUnits_orderly s fun _ k => by
    split
    · exact relevelUnit_tally _ _ k
    · exact ⟨rfl, rfl⟩

theorem markAccessible_orderly (c : CrossingId) (b : Bool) : Orderly s (s.markAccessible c b) := by
  unfold State.markAccessible; split
  · exact .refl s
  · exact .after (relevelCrossing_orderly _ c) (changeServing_orderly s c fun _ => ⟨rfl, rfl, id⟩)

theorem request_orderly (u : UnitId) (a : SampleAction) : Orderly s (s.request u a) :=
  .after (t := s.changeUnit u fun k => { k with pendingAction := some a }) (.same rfl rfl rfl rfl)
    (changeUnit_orderly s u fun _ => ⟨rfl, id⟩)

theorem liftMutes_orderly (u : UnitId) : Orderly s (s.liftMutes u) := rewriteUnits_orderly s fun _ _ => ⟨rfl, rfl⟩

theorem endSample_orderly (u : UnitId) (r : SampleReport) : Orderly s (s.endSample u r) :=
  .after (changeAudible_orderly _ u _) (liftMutes_orderly s u)

theorem loseSample_orderly (u : UnitId) (cancel : Bool) : Orderly s (s.loseSample u cancel) := by
  unfold State.loseSample; split
  · exact .refl s
  · split
    · exact .after (request_orderly _ u _) (endSample_orderly s u _)
    · exact endSample_orderly s u _

theorem abandonSample_orderly (u : UnitId) : Orderly s (s.abandonSample u) :=
  .after (countUnit_orderly _ u _) (.after (request_orderly _ u _) (endSample_orderly s u _))

theorem closeSampleEarly_orderly (u : UnitId) (n : Time) : Orderly s (s.closeSampleEarly u n) :=
  .after (request_orderly _ u _) (.after (changeAudible_orderly _ u _) (liftMutes_orderly s u))

theorem closeSampleWindow_orderly (u : UnitId) (n : Time) : Orderly s (s.closeSampleWindow u n) :=
  .after (changeAudible_orderly _ u _) (liftMutes_orderly s u)

theorem onsetAt_orderly (v u : UnitId) : Orderly s (s.onsetAt v u) := by
  unfold State.onsetAt; split
  · exact .refl s
  · split
    · split
      · exact abandonSample_orderly s u
      · split
        · exact abandonSample_orderly s u
        · exact closeSampleEarly_orderly s u _
      · exact .refl s
    · exact .refl s

/-- Walk begin marks no FAILED unit sounding (R150). -/
theorem soundUnit_orderly (c : CrossingId) (u : UnitId) : Orderly s (s.soundUnit c u) := by
  unfold State.soundUnit; dsimp only; split
  · rename_i own
    have overtaken : Orderly s { s with kerb := s.kerb.overtake u } := .same rfl rfl rfl rfl
    split
    · exact overtaken
    · refine overtaken.trans (.trans ?_ (.foldl _ _ fun w v => onsetAt_orderly w u v))
      refine .ofUnitEntries _ fun v => ?_
      have e : (change s.units u fun k => { k with sounding := true })[v] =
          if u = v then { s.unit v with sounding := true } else s.unit v := change_get _ _ _ _
      change KerbUnit.tally ((change s.units u _)[v]) = (s.unit v).tally ∧ ((change s.units u _)[v].sounding = true → _)
      rw [e]; split
      · rename_i at_u; exact ⟨rfl, fun _ => .inr (at_u ▸ own.2)⟩
      · exact ⟨rfl, .inl⟩
  · exact .refl s

theorem soundCrossing_orderly (c : CrossingId) : Orderly s (s.soundCrossing c) :=
  .foldl _ s fun s u => soundUnit_orderly s c u

theorem grant_orderly (u : UnitId) : Orderly s (s.grant u) := by
  unfold State.grant
  exact .after (request_orderly _ u _) (.after (changeAudible_orderly _ u _)
    (rewriteUnits_orderly s fun _ k => by split <;> exact ⟨rfl, rfl⟩))

theorem grantSamples_orderly : Orderly s s.grantSamples := by
  unfold State.grantSamples; split
  · refine .foldl _ s fun s u => ?_
    unfold State.considerGrant; split
    · exact grant_orderly s u
    · exact .refl s
  · exact .refl s

/-! ### Admission -/

theorem removeCall_orderly (c : CrossingId) (r : RemovalReason) : Orderly s (s.removeCall c r) := by
  unfold State.removeCall; split
  · exact .refl s
  · refine .after (raise_orderly _ _) (.after (changeServing_orderly _ c fun _ => ⟨rfl, rfl, id⟩) ?_)
    exact .ofUnits rfl rfl (fun h => h.sublist List.filter_sublist fun _ _ => id) fun _ => ⟨rfl, rfl⟩

theorem await_orderly (c : CrossingId) (r : Route) (x : WaitReason) : Orderly s (s.await c r x) :=
  changeServing_orderly s c fun _ => ⟨rfl, rfl, id⟩

theorem admitCall_orderly (c : CrossingId) (call : CallRecord) (r : Record) (a : Admission) :
    Orderly s (s.admitCall c call r a) := by
  have cut : ∀ (w : State) k, Orderly w (w.raiseTruncated c k a.cut) := fun w k => by
    cases a.cut
    · exact .refl w
    · exact raise_orderly w _
  unfold State.admitCall
  exact .after (cut _ _) <| .after (raise_orderly _ _) <| .after (countCrossing_orderly _ _ _) <|
    .after (markAccessible_orderly _ _ _) <| .after
      (changeCrossing_orderly _ (fun _ => ⟨rfl, rfl⟩) fun _ some => by rw [removeCall_callOf] at some; cases some)
      (removeCall_orderly s c _)

theorem evaluateBand_orderly (c : CrossingId) (call : CallRecord) (r : Record) : Orderly s (s.evaluateBand c call r) := by
  unfold State.evaluateBand; split
  · exact admitCall_orderly s c call r _
  · exact await_orderly s c _ _

theorem evaluateDirect_orderly (c : CrossingId) (call : CallRecord) (r : Record) : Orderly s (s.evaluateDirect c call r) := by
  unfold State.evaluateDirect; split
  · exact admitCall_orderly s c call r _
  · exact await_orderly s c _ _

theorem considerInGroup_orderly (g : GroupId) (c : CrossingId) (call : CallRecord) (r : Record) :
    Orderly s (s.considerInGroup g c call r) := by
  unfold State.considerInGroup; split
  · exact await_orderly s c _ _
  · split
    · exact await_orderly s c _ _
    · split
      · exact .after (admitCall_orderly _ c call r _) (changeGroup_orderly s g _)
      · exact await_orderly s c _ _

theorem evaluateGroup_orderly (g : GroupId) : Orderly s (s.evaluateGroup g) := by
  refine .foldl _ s fun s c => ?_
  unfold State.groupTurn; split
  · split
    · exact considerInGroup_orderly s g c _ _
    · exact .refl s
  · exact .refl s

theorem evaluateOn_orderly (c : CrossingId) (call : CallRecord) (r : Record) (route : Route) :
    Orderly s (s.evaluateOn c call r route) := by
  cases route
  · exact evaluateBand_orderly s c call r
  · exact evaluateGroup_orderly s _
  · exact evaluateDirect_orderly s c call r

theorem evaluate_orderly (c : CrossingId) : Orderly s (s.evaluate c) := by
  unfold State.evaluate; split
  · split
    · exact await_orderly s c _ _
    · exact evaluateOn_orderly s c _ _ _
  · exact .refl s

theorem evaluateAll_orderly : Orderly s s.evaluateAll := .foldl _ s fun s c => evaluate_orderly s c

theorem uncount_orderly (g : Option GroupId) : Orderly s (s.uncount g) := by
  cases g
  · exact .refl s
  · exact changeGroup_orderly s _ _

theorem evaluateAfterEnd_orderly (g : Option GroupId) : Orderly s (s.evaluateAfterEnd g) := by
  cases g
  · exact .refl s
  · exact evaluateGroup_orderly s _

/-! ### Offers (R47, R48, R50) -/

theorem mapCalls_orderly (c : CrossingId) (f : CallRecord → CallRecord) (own : ∀ r, (f r).crossing = r.crossing)
    (bound : ∀ r, r.pressCount ≤ 255 → (f r).pressCount ≤ 255) :
    Orderly s { s with calls := s.calls.map fun r => if r.crossing = c then f r else r } :=
  .ofUnits rfl rfl (fun h => h.mapped f own bound) fun _ => ⟨rfl, rfl⟩

/-- An offer with its press count in bounds taken into the queue of a crossing in service. -/
theorem intoQueue_orderly {o : Offer} (service : (s.crossing c).inService = true) (bound : o.pressCount ≤ 255) :
    Orderly s (s.intoQueue c o).2 := by
  unfold State.intoQueue; split
  · rename_i free
    refine .after (evaluate_orderly _ c) (.after (raise_orderly _ _) (.after (countCrossing_orderly _ _ _) ?_))
    exact .ofUnits rfl rfl (fun h => h.appended (r := o.newRecord c s.clock.now) free service bound) fun _ => ⟨rfl, rfl⟩
  · exact .after (evaluate_orderly _ c) (mapCalls_orderly s c _ (fun _ => rfl) fun _ _ => Nat.min_le_right _ _)

theorem upgradeStage_orderly (c : CrossingId) (k : Stage) (x r : Nat) : Orderly s (s.upgradeStage c k x r) := by
  unfold State.upgradeStage
  exact .after (markAccessible_orderly _ _ _) <| .after (raise_orderly _ _) <| .after (countCrossing_orderly _ _ _)
    (changeServing_orderly s c fun _ => ⟨rfl, rfl, id⟩)

theorem offer_orderly (c : CrossingId) {o : Offer} (bound : o.pressCount ≤ 255) : Orderly s (s.offer c o).2 := by
  unfold State.offer; dsimp only; split
  · rename_i h
    exact intoQueue_orderly s (by simp_all) bound
  · split
    · split
      · unfold State.tryUpgrade; dsimp only; split
        · exact .refl s
        · split
          · exact .refl s
          · exact upgradeStage_orderly s c _ _ _
          · split
            · rename_i service; exact intoQueue_orderly s service bound
            · exact .refl s
      · exact .refl s
    · exact .refl s

theorem handOver_orderly (c : CrossingId) (side : Side) (p x : Nat) : Orderly s (s.handOver c side p x) :=
  .after (offer_orderly _ c (Nat.min_le_right _ _)) (countCrossing_orderly s c _)

theorem testFailRecall_orderly (c : CrossingId) : Orderly s (s.testFailRecall c) := by
  unfold State.testFailRecall; dsimp only; split
  · rename_i h
    exact intoQueue_orderly s (by simp_all) (Nat.zero_le _)
  · exact .refl s

theorem placeLink_orderly (c : CrossingId) (k : Stage) : Orderly s (s.placeLink c k) := by
  unfold State.placeLink; split
  · exact .refl s
  · split
    · exact .refl s
    · split
      · exact .refl s
      · split
        · exact .after (countCrossing_orderly _ c _) (offer_orderly s _ (Nat.zero_le _))
        · exact countCrossing_orderly s c _

/-! ### Changes of crossing state -/

theorem reportState_orderly (c : CrossingId) (cause : Cause) : Orderly s (s.reportState c cause) := raise_orderly s _

theorem loseService_orderly (c : CrossingId) : Orderly s (s.loseService c) :=
  .after (changeServing_orderly _ c fun _ => ⟨rfl, rfl, id⟩) (removeCall_orderly s c _)

/-- A controller put out of service, and its record removed in the same event (R62). -/
theorem leave_orderly (c : CrossingId) {f : Crossing → Crossing}
    (buttons : ∀ x, (f x).working = x.working ∧ (f x).failRecall = x.failRecall) :
    Orderly s ((s.changeCrossing c f).loseService c) := by
  have changed (d : CrossingId) : ((s.changeCrossing c f).crossing d).working = (s.crossing d).working ∧
      ((s.changeCrossing c f).crossing d).failRecall = (s.crossing d).failRecall := by
    rw [changeCrossing_get]; split
    · exact buttons _
    · exact ⟨rfl, rfl⟩
  have lost := loseService_orderly (s.changeCrossing c f) c
  refine ⟨lost.running, fun h => ?_, fun d => ?_, lost.tally, lost.sounding⟩
  · have gone := callOf_eq_none.1 (loseService_callOf (s.changeCrossing c f) c)
    refine h.sublist ?_ fun r hr e => ?_
    · simp only [State.loseService, State.removeCall, changeCrossing_calls, changeCrossing_callOf]; split
      · exact .refl _
      · exact List.filter_sublist
    · have other : c ≠ r.crossing := fun own => gone r hr own.symm
      have kept := (loseService_alone (s.changeCrossing c f) c).within r.crossing (fun own => other own.symm)
      rw [kept.1, changeCrossing_other _ _ other]; exact e
  · exact ⟨(lost.buttons d).1.trans (changed d).1, (lost.buttons d).2.trans (changed d).2⟩

theorem enter_inService {st : CrossingState} (left : Option Nat) (h : st.serving = true) (x : Crossing) :
    x.inService = true → (x.enter st left).inService = true := by
  simp only [Crossing.inService, Bool.and_eq_true, Crossing.enter]
  exact fun e => ⟨h, e.2⟩

theorem enterStartup_orderly (c : CrossingId) (cause : Cause) : Orderly s (s.enterStartup c cause) := by
  unfold State.enterStartup
  exact .after (testFailRecall_orderly _ c) (.after (reportState_orderly _ c _)
    (changeServing_orderly s c fun _ => ⟨rfl, rfl, fun _ => rfl⟩))

theorem enterUntimed_orderly (c : CrossingId) (st : CrossingState) (cause : Cause) :
    Orderly s (s.enterUntimed c st cause) := by
  unfold State.enterUntimed; dsimp only; split
  · exact .after (reportState_orderly _ c _) (leave_orderly s c fun _ => ⟨rfl, rfl⟩)
  · rename_i out
    exact .after (reportState_orderly _ c _)
      (changeCrossing_orderly s (fun _ => ⟨rfl, rfl⟩) fun service => absurd service out)

theorem enterUnconfigured_orderly (c : CrossingId) (cause : Cause) : Orderly s (s.enterUnconfigured c cause) := by
  unfold State.enterUnconfigured; dsimp only; split
  · exact .after (enterStartup_orderly _ c _) (enterUntimed_orderly s c _ _)
  · exact enterUntimed_orderly s c _ _

theorem discardStage_orderly (c : CrossingId) : Orderly s (s.discardStage c) :=
  .after (markAccessible_orderly _ c _) (changeServing_orderly s c fun _ => ⟨rfl, rfl, id⟩)

theorem enterFaultFlash_orderly (c : CrossingId) (cause : Cause) : Orderly s (s.enterFaultFlash c cause) := by
  unfold State.enterFaultFlash
  exact .after (evaluateAfterEnd_orderly _ _) <| .after (reportState_orderly _ _ _) <|
    .after (changeCrossing_orderly _ (fun _ => ⟨rfl, rfl⟩) fun _ some => by rw [loseService_callOf] at some; cases some) <|
      .after (loseService_orderly _ _) <| .after (uncount_orderly _ _) (discardStage_orderly s c)

theorem enterTarget_orderly (c : CrossingId) (tg : Target) (cause : Cause) : Orderly s (s.enterTarget c tg cause) := by
  cases tg
  · exact enterUntimed_orderly s c _ _
  · exact enterUnconfigured_orderly s c _
  · exact enterFaultFlash_orderly s c _
  · exact enterUntimed_orderly s c _ _

theorem setPending_orderly (c : CrossingId) (tg : Target) (cause : Cause) : Orderly s (s.setPending c tg cause) := by
  have closing (w : State) : Orderly w ((w.changeCrossing c Crossing.beginClosing).reportState c cause) :=
    .after (reportState_orderly _ c _) (changeServing_orderly w c fun x =>
      ⟨rfl, rfl, enter_inService (st := .vehAmber) none rfl x⟩)
  have held : Orderly s ((if (s.crossing c).inService then
      (s.changeCrossing c fun x => { x with pendingChange := some { target := tg, cause := cause } }).loseService c
      else s.changeCrossing c fun x => { x with pendingChange := some { target := tg, cause := cause } }).reportState c cause) := by
    refine .after (reportState_orderly _ c _) ?_
    split
    · exact leave_orderly s c fun _ => ⟨rfl, rfl⟩
    · rename_i out
      exact changeCrossing_orderly s (fun _ => ⟨rfl, rfl⟩) fun service => absurd service out
  unfold State.setPending; dsimp only; split
  · split
    · exact held.trans (closing _)
    · exact held
  · exact .refl s

/-- A change of service is entered, set pending, or left alone (R110). -/
theorem changeService_cases (c : CrossingId) (tg : Target) (cause : Cause) :
    s.changeService c tg cause = s.enterTarget c tg cause ∨ s.changeService c tg cause = s.setPending c tg cause ∨
      s.changeService c tg cause = s := by
  unfold State.changeService; split <;> simp

theorem changeService_orderly (c : CrossingId) (tg : Target) (cause : Cause) : Orderly s (s.changeService c tg cause) := by
  rcases changeService_cases s c tg cause with e | e | e <;> rw [e]
  · exact enterTarget_orderly s c tg cause
  · exact setPending_orderly s c tg cause
  · exact .refl s

/-- A fault class brings FAULT_FLASH, a change of service towards it, DARK, or no change of state (R113). -/
theorem actOnFault_cases (c : CrossingId) (cls : FaultClass) :
    s.actOnFault c cls = s ∨ s.actOnFault c cls = s.enterFaultFlash c .fault ∨
      s.actOnFault c cls = s.changeService c .faultFlash .fault ∨ s.actOnFault c cls = s.enterUntimed c .dark .fault := by
  unfold State.actOnFault; split <;> simp

theorem faultEvent_orderly (c : CrossingId) (lamp : Lamp) (cls : FaultClass) : Orderly s (s.faultEvent c lamp cls) := by
  have act (w : State) : Orderly w (w.actOnFault c cls) := by
    rcases actOnFault_cases w c cls with e | e | e | e <;> rw [e]
    · exact .refl w
    · exact enterFaultFlash_orderly w c _
    · exact changeService_orderly w c _ _
    · exact enterUntimed_orderly w c _ _
  have joined : Orderly s (s.changeCrossing c fun x => { x with faults := x.faults.insert cls }) :=
    changeServing_orderly s c fun _ => ⟨rfl, rfl, id⟩
  unfold State.faultEvent; dsimp only; split
  · exact .after (raise_orderly _ _) <| .after (countCrossing_orderly _ c _) <| .after (act _) joined
  · exact .after (act _) joined

theorem settleAdoption_orderly (c : CrossingId) : Orderly s (s.settleAdoption c) := by
  unfold State.settleAdoption; dsimp only; split
  · exact changeService_orderly s c _ _
  · split
    · exact enterStartup_orderly s c _
    · split
      · exact .after (testFailRecall_orderly _ c) <| .after (reportState_orderly _ c _) <|
          changeServing_orderly s c fun x => ⟨rfl, rfl, fun e => by simp_all [Crossing.inService]⟩
      · exact .refl s

theorem restoreCrossing_orderly (c : CrossingId) : Orderly s (s.restoreCrossing c) := by
  have cleared : Orderly s (s.changeCrossing c fun x => { x with faults := {}, recallTimer := none }) :=
    changeServing_orderly s c fun _ => ⟨rfl, rfl, id⟩
  unfold State.restoreCrossing; dsimp only; split
  · exact .after (enterStartup_orderly _ c _) cleared
  · exact .after (enterUntimed_orderly _ c _ _) cleared

/-! ### The crossing sequence -/

theorem beginWalk_orderly (c : CrossingId) (k : Stage) : Orderly s (s.beginWalk c k) := by
  unfold State.beginWalk
  exact .after (soundCrossing_orderly _ c) <| .after (countCrossing_orderly _ c _) <| .after (raise_orderly _ _) <|
    .after (placeLink_orderly _ c k) (changeServing_orderly s c fun x => ⟨rfl, rfl, enter_inService _ rfl x⟩)

/-- The start of the recall timer changes nothing else of the controller (R118). -/
theorem startRecall_eq (x : Crossing) (now : Time) : ∃ n, x.startRecall now = { x with recallTimer := n } := by
  unfold Crossing.startRecall; split
  · split
    · exact ⟨_, rfl⟩
    · exact ⟨x.recallTimer, rfl⟩
  · exact ⟨x.recallTimer, rfl⟩

theorem startRecall_orderly (c : CrossingId) (now : Time) : Orderly s (s.changeCrossing c fun x => x.startRecall now) :=
  changeServing_orderly s c fun x => by
    obtain ⟨n, e⟩ := startRecall_eq x now
    rw [e]; exact ⟨rfl, rfl, id⟩

theorem enterGreen_orderly (c : CrossingId) : Orderly s (s.enterGreen c) :=
  .after (testFailRecall_orderly _ c) (changeServing_orderly s c fun x =>
    ⟨rfl, rfl, enter_inService (st := .vehGreen) none rfl x⟩)

theorem endStage_orderly (c : CrossingId) (k : Stage) : Orderly s (s.endStage c k) := by
  have ended := (discardStage_orderly s c).trans <| (uncount_orderly _ k.group).trans <|
    (startRecall_orderly _ c ((s.discardStage c).uncount k.group).clock.now).trans <|
    raise_orderly _ (.stageEnd c k.walk k.clearance k.upgraded
      (saturate (k.elapsed ((s.discardStage c).uncount k.group).clock.now)))
  unfold State.endStage
  refine .after (evaluateAfterEnd_orderly _ _) ?_
  split
  · exact .after (enterGreen_orderly _ c) ended
  · exact .after (enterTarget_orderly _ c _ _) ended

theorem completeStartup_orderly (c : CrossingId) : Orderly s (s.completeStartup c) := by
  unfold State.completeStartup
  refine .after (testFailRecall_orderly _ c) <| .after (reportState_orderly _ c _) <|
    changeServing_orderly s c fun x => ?_
  obtain ⟨n, e⟩ := startRecall_eq x.enterGreen s.clock.now
  rw [e]; exact ⟨rfl, rfl, enter_inService (st := .vehGreen) none rfl x⟩

theorem endClosing_orderly (c : CrossingId) : Orderly s (s.endClosing c) := by
  unfold State.endClosing; split
  · exact enterTarget_orderly s c _ _
  · exact .refl s

theorem follow_orderly (c : CrossingId) {st : CrossingState} (n : Nat) (h : st.serving = true) : Orderly s (s.follow c st n) :=
  .after (testFailRecall_orderly _ c) (changeServing_orderly s c fun x => ⟨rfl, rfl, enter_inService _ h x⟩)

theorem endInterval_orderly (c : CrossingId) : Orderly s (s.endInterval c) := by
  unfold State.endInterval; dsimp only; split
  · split
    case h_1 => exact follow_orderly s c _ rfl
    case h_2 => exact completeStartup_orderly s c
    case h_3 =>
      split
      · exact endClosing_orderly s c
      · split
        · exact follow_orderly s c _ rfl
        · exact .refl s
    case h_4 =>
      split
      · exact beginWalk_orderly s c _
      · exact .refl s
    case h_5 | h_6 =>
      split
      · exact follow_orderly s c _ rfl
      · exact .refl s
    case h_7 =>
      split
      · exact endStage_orderly s c _
      · exact .refl s
    all_goals exact .refl s
  · exact .refl s

theorem expireGreen_orderly (c : CrossingId) : Orderly s (s.expireGreen c) := by
  unfold State.expireGreen; split
  · exact .after (evaluate_orderly _ c) (changeServing_orderly s c fun _ => ⟨rfl, rfl, id⟩)
  · exact .refl s

theorem expireRecall_orderly (c : CrossingId) : Orderly s (s.expireRecall c) := by
  unfold State.expireRecall; split
  · split
    · exact .after (offer_orderly _ c (Nat.zero_le _)) (changeServing_orderly s c fun _ => ⟨rfl, rfl, id⟩)
    · exact .refl s
  · exact .refl s

theorem arriveNotBefore_orderly (c : CrossingId) : Orderly s (s.arriveNotBefore c) := by
  unfold State.arriveNotBefore; split
  · split
    · exact .after (evaluate_orderly _ c) (mapCalls_orderly s c _ (fun _ => rfl) fun _ => id)
    · exact .refl s
  · exact .refl s

theorem changeFlashHalf_orderly (c : CrossingId) : Orderly s (s.changeFlashHalf c) := by
  unfold State.changeFlashHalf; split
  · exact changeServing_orderly s c fun _ => ⟨rfl, rfl, id⟩
  · exact .refl s

theorem expireSpacing_orderly (g : GroupId) : Orderly s (s.expireSpacing g) := by
  unfold State.expireSpacing; split
  · split
    · exact .after (evaluateGroup_orderly _ g) (changeGroup_orderly s g _)
    · exact .refl s
  · exact .refl s

theorem closePairing_orderly (g : GroupId) : Orderly s (s.closePairing g) := by
  unfold State.closePairing; split
  · split
    · exact .after (evaluateGroup_orderly _ g) (changeGroup_orderly s g _)
    · exact .refl s
  · exact .refl s

end Sys2Proof.Machine
end

section
/-!
The call queue and the units' buttons under the corridor's events, the decisecond event, the host port and the parts of the
kerb link that change no unit's state (O54, O58).
-/

namespace Sys2Proof.Machine

variable {s t w : State}

variable (s)

/-! ### The corridor clock and the plan -/

theorem withClock_orderly (k : Clock) : Orderly s { s with clock := k } := .same rfl rfl rfl rfl

theorem countCorridor_orderly (f : CorridorCounters → CorridorCounters) : Orderly s (s.countCorridor f) := .same rfl rfl rfl rfl

theorem withDue_orderly (l : List Due) : Orderly s { s with due := l } := .same rfl rfl rfl rfl

theorem reviewQuiet_orderly : Orderly s s.reviewQuiet := by
  unfold State.reviewQuiet; dsimp only; split
  · exact .refl s
  · exact .after (relevelAll_orderly _) (withClock_orderly s _)

theorem advanceSecond_orderly : Orderly s s.advanceSecond := by
  unfold State.advanceSecond; dsimp only; split
  · split
    · exact withClock_orderly s _
    · exact .after (reviewQuiet_orderly _) (withClock_orderly s _)
  · exact .refl s

theorem dropToFree_orderly (cause : ModeCause) : Orderly s (s.dropToFree cause) :=
  .after (raise_orderly _ _) (withClock_orderly s _)

theorem expireWatchdog_orderly : Orderly s s.expireWatchdog := by
  unfold State.expireWatchdog; split
  · exact .after (evaluateAll_orderly _) (dropToFree_orderly s _)
  · exact .refl s

theorem bandEndEvent_orderly (c : CrossingId) : Orderly s (s.bandEndEvent c) := by
  unfold State.bandEndEvent; split
  · exact evaluate_orderly s c
  · exact .refl s

/-- A crossing handed its in-force record, or the absence of one, stays in its state (R41). -/
theorem receive_service (x : Crossing) (r : Option InForce) :
    (x.receive r).working = x.working ∧ (x.receive r).failRecall = x.failRecall ∧ (x.receive r).inService = x.inService := by
  cases r <;> exact ⟨rfl, rfl, rfl⟩

theorem install_orderly (sel : Selection) (h : Header) : Orderly s (s.install sel h) := by
  refine .ofEntries rfl rfl (fun c => ?_) fun u => ?_
  · have e : (s.install sel h).crossing c = (s.crossing c).receive (s.store.effective sel c) := rewrite_get _ _ _
    obtain ⟨working, failRecall, service⟩ := receive_service (s.crossing c) (s.store.effective sel c)
    rw [e, service]
    exact ⟨working, failRecall, id⟩
  · have e : (s.install sel h).unit u = rescheduled h.sampleInterval (s.unit u) := rewrite_get _ _ _
    rw [e]; unfold rescheduled; split <;> exact ⟨rfl, rfl⟩

theorem adopt_orderly (sel : Selection) (h : Header) : Orderly s (s.adopt sel h) := by
  have announced : Orderly s (s.adopting sel h) := by
    have sent : Orderly s ((s.install sel h).announceAdoption sel h (decide (s.clock.cycle ≠ some h.cycle)) s.store.deferral) :=
      .after (raise_orderly _ _) (.after (countCorridor_orderly _ _) (install_orderly s sel h))
    unfold State.adopting State.dropIfDisallowed; split
    · exact .after (dropToFree_orderly _ _) sent
    · exact sent
  rw [adopt_eq]
  exact .after (relevelAll_orderly _) <| .after (reviewQuiet_orderly _) <|
    .after (.foldl _ _ fun w c => settleAdoption_orderly w c) announced

theorem planBoundary_orderly : Orderly s s.planBoundary.2 := by
  unfold State.planBoundary; split
  · exact .refl s
  · split
    · exact .refl s
    · dsimp only; split
      · exact adopt_orderly s _ _
      · split
        · exact adopt_orderly s _ _
        · exact .same rfl rfl rfl rfl

theorem clockBoundary_orderly (o : PlanOutcome) : Orderly s (s.clockBoundary o).2 := by
  unfold State.clockBoundary; split
  · unfold State.correct; dsimp only; split <;> exact .same rfl rfl rfl rfl
  · exact .refl s

theorem evaluateBoundary_orderly (before : Vector Group 4) (b : Bool) : Orderly s (s.evaluateBoundary before b) := by
  have reviewed (w : State) (g : GroupId) : Orderly w (State.reviewGroup before w g) := by
    unfold State.reviewGroup; split
    · exact .refl w
    · exact evaluateGroup_orderly w g
  have dropped : Orderly s (s.withDueFor b) := by
    cases b
    · exact .refl s
    · exact withDue_orderly s _
  exact .after (evaluateAll_orderly _) (.after (.foldl _ _ reviewed) dropped)

theorem boundary_orderly : Orderly s s.boundary := by
  rw [boundary_eq]
  exact .after (evaluateBoundary_orderly _ _ _) <| .after (clockBoundary_orderly _ _) <|
    .after (planBoundary_orderly _) (withClock_orderly s _)

/-! ### SYNC -/

theorem timeStep_orderly : Orderly s s.timeStep := .after (evaluateAll_orderly _) (withDue_orderly s _)

theorem setTime_orderly (n : Nat) : Orderly s (s.setTime n) := .same rfl rfl rfl rfl

theorem enterCoordinated_orderly (n : Nat) : Orderly s (s.enterCoordinated n) := by
  unfold State.enterCoordinated
  exact .after (timeStep_orderly _) <| .after (raise_orderly _ _) <| .after (withClock_orderly _ _) (setTime_orderly s n)

theorem setCorridorTime_orderly (n : Nat) : Orderly s (s.setCorridorTime n) := by
  unfold State.setCorridorTime
  exact .after (timeStep_orderly _) (setTime_orderly s n)

theorem takeReference_orderly (n : Nat) : Orderly s (s.takeReference n).2 := by
  unfold State.takeReference; split
  · split
    · exact .refl s
    · split
      · exact .refl s
      · split
        · dsimp only; exact enterCoordinated_orderly s n
        · dsimp only; exact setCorridorTime_orderly s n
  · dsimp only; split <;> exact withClock_orderly s _

theorem respond_orderly (tag : Byte) (r : ReplyContent) : Orderly s (s.respond tag r) := .same rfl rfl rfl rfl

theorem transmit_orderly : Orderly s s.transmit := .same rfl rfl rfl rfl

theorem takeTimeOfDay_orderly (n : Nat) : Orderly s (s.takeTimeOfDay n) := by
  unfold State.takeTimeOfDay
  exact .after (reviewQuiet_orderly _) <| .after (countCorridor_orderly _ _) (withClock_orderly s _)

theorem acceptSync_orderly (tag : Byte) (tref seconds : Nat) : Orderly s (s.acceptSync tag tref seconds) := by
  unfold State.acceptSync
  exact .after (respond_orderly _ _ _) <| .after (takeReference_orderly _ _) (takeTimeOfDay_orderly s _)

theorem executeSync_orderly (fr : Frame) : Orderly s (executeSync fr s) := by
  unfold executeSync; split
  · split
    · exact acceptSync_orderly s _ _ _
    · exact respond_orderly s _ _
  · exact respond_orderly s _ _

/-! ### Requests to the plan store and the host port -/

theorem nextRecord_orderly (x : WriteRun) (slot : Nat) : Orderly s (s.nextRecord x slot) := by
  unfold State.nextRecord; split
  · exact .same rfl rfl rfl rfl
  · split <;> exact .same rfl rfl rfl rfl

theorem slotWriteDone_orderly : Orderly s s.slotWriteDone := by
  unfold State.slotWriteDone; split
  · exact .refl s
  · exact .after (nextRecord_orderly _ _ _) (.same rfl rfl rfl rfl)

theorem executePlanWrite_orderly (fr : Frame) : Orderly s (executePlanWrite fr s) := by
  unfold executePlanWrite; split
  · split
    · exact respond_orderly s _ _
    · split
      · exact respond_orderly s _ _
      · split
        · exact respond_orderly s _ _
        · split
          · exact respond_orderly s _ _
          · exact nextRecord_orderly s _ _
  · exact respond_orderly s _ _

theorem executePlanSelect_orderly (fr : Frame) : Orderly s (executePlanSelect fr s) := by
  unfold executePlanSelect; split
  · split
    · exact respond_orderly s _ _
    · unfold State.select; split
      · exact respond_orderly s _ _
      · split <;> exact .same rfl rfl rfl rfl
  · exact respond_orderly s _ _

theorem executePlanRead_orderly (fr : Frame) : Orderly s (executePlanRead fr s) := by
  unfold executePlanRead; split
  · split
    · exact respond_orderly s _ _
    · split <;> exact respond_orderly s _ _
  · exact respond_orderly s _ _

theorem executeStatus_orderly (fr : Frame) : Orderly s (executeStatus fr s) := by
  unfold executeStatus; split <;> exact .same rfl rfl rfl rfl

theorem executeCrossingStatus_orderly (fr : Frame) : Orderly s (executeCrossingStatus fr s) := by
  unfold executeCrossingStatus; split
  · split <;> exact respond_orderly s _ _
  · exact respond_orderly s _ _

theorem executeUnitStatus_orderly (fr : Frame) : Orderly s (executeUnitStatus fr s) := by
  unfold executeUnitStatus; split
  · split
    · exact respond_orderly s _ _
    · split <;> exact respond_orderly s _ _
  · exact respond_orderly s _ _

theorem executeCounters_orderly (fr : Frame) : Orderly s (executeCounters fr s) := by
  unfold executeCounters; split
  · split
    · unfold State.readCounters; split <;> exact .same rfl rfl rfl rfl
    · exact respond_orderly s _ _
  · exact respond_orderly s _ _

theorem executeFilterWrite_orderly (fr : Frame) : Orderly s (executeFilterWrite fr s) := by
  unfold executeFilterWrite; split
  · split
    · dsimp only; split <;> exact .same rfl rfl rfl rfl
    · exact respond_orderly s _ _
  · exact respond_orderly s _ _

theorem executeRestart_orderly (fr : Frame) : Orderly s (executeRestart fr s) := by
  unfold executeRestart; split <;> exact .same rfl rfl rfl rfl

theorem abandonFrame_orderly : Orderly s s.abandonFrame := by
  unfold State.abandonFrame; split <;> exact .same rfl rfl rfl rfl

theorem receiveFrame_orderly (bytes : List Byte) : Orderly s (s.receiveFrame bytes) := by
  unfold State.receiveFrame; split
  · exact .refl s
  · split
    · unfold State.enqueue; split <;> exact .same rfl rfl rfl rfl
    · exact .same rfl rfl rfl rfl

theorem endTransmission_orderly : Orderly s s.endTransmission := by
  unfold State.endTransmission; split <;> exact .same rfl rfl rfl rfl

/-! ### Requests to the call queue and the crossings -/

theorem executeCall_orderly (fr : Frame) : Orderly s (executeCall fr s) := by
  unfold executeCall; split
  · split
    · unfold State.call; split
      · exact .after (respond_orderly _ _ _) (offer_orderly s _ (Nat.zero_le _))
      · exact respond_orderly s _ _
    · exact respond_orderly s _ _
  · exact respond_orderly s _ _

theorem withdrawRemote_orderly (c : CrossingId) : Orderly s (s.withdrawRemote c) :=
  mapCalls_orderly s c _ (fun _ => rfl) fun _ => id

theorem executeCancel_orderly (fr : Frame) : Orderly s (executeCancel fr s) := by
  unfold executeCancel; split
  · split
    · unfold State.cancel; split
      · exact respond_orderly s _ _
      · split
        · dsimp only; split
          · exact .after (respond_orderly _ _ _) <| .after (testFailRecall_orderly _ _) <|
              .after (removeCall_orderly _ _ _) (withdrawRemote_orderly s _)
          · exact .after (respond_orderly _ _ _) (withdrawRemote_orderly s _)
        · exact respond_orderly s _ _
    · exact respond_orderly s _ _
  · exact respond_orderly s _ _

theorem executeControl_orderly (fr : Frame) : Orderly s (executeControl fr s) := by
  unfold executeControl; split
  · split
    · unfold State.control; split
      · exact .after (respond_orderly _ _ _) (enterTarget_orderly s _ _ _)
      · exact .after (respond_orderly _ _ _) (setPending_orderly s _ _ _)
      · exact .after (respond_orderly _ _ _) (restoreCrossing_orderly s _)
      · exact respond_orderly s _ _
    · exact respond_orderly s _ _
  · exact respond_orderly s _ _

/-! ### The kerb link -/

theorem poll_orderly : Orderly s s.poll := by
  unfold State.poll; split
  · exact .refl s
  · split
    · exact .same rfl rfl rfl rfl
    · split
      · exact .refl s
      · rename_i u _ _ c _
        exact .trans (changeUnit_orderly s u (f := fun e => { e with lastCommand := some (s.buildCommand u c), revivalDue := false })
          fun _ => ⟨rfl, id⟩) (.same rfl rfl rfl rfl)

theorem lateBytes_orderly : Orderly s s.lateBytes := by
  unfold State.lateBytes; split <;> exact .same rfl rfl rfl rfl

theorem endTransaction_orderly (e : Option UnitId) : Orderly s (s.endTransaction e) := .same rfl rfl rfl rfl

theorem reportUnit_orderly (u : UnitId) (m : Mapping) (before : UnitState) (cause : UnitCause) :
    Orderly s (s.reportUnit u m before cause) := by
  unfold State.reportUnit; dsimp only; split
  · exact .refl s
  · split
    · exact .after (loseSample_orderly _ u _) (raise_orderly s _)
    · exact raise_orderly s _

theorem raiseStale_orderly (u : UnitId) (stale : Bool) : Orderly s (s.raiseStale u stale) := by
  unfold State.raiseStale; dsimp only; split
  · exact raise_orderly s _
  · exact .refl s

theorem takeSample_orderly (u : UnitId) (start : Time) (level : Nat) (short early : Bool) :
    Orderly s (s.takeSample u start level short early) := by
  have taken := (changeAudible_orderly s u fun a => a.take start s.sampleInterval level short early).trans <|
    (relevel_orderly _ u).trans (countUnit_orderly _ u fun n => { n with samplesTaken := satAdd n.samplesTaken 1 })
  unfold State.takeSample; dsimp only; split
  · exact .after (raiseStale_orderly _ u _) taken
  · exact taken

theorem sampleReply_orderly (u : UnitId) (x : Transaction) (r : KerbReply) : Orderly s (s.sampleReply u x r) := by
  unfold State.sampleReply; split
  · exact .refl s
  · split
    · exact .refl s
    · split
      · exact loseSample_orderly s u _
      · exact .refl s
    · split
      · exact loseSample_orderly s u _
      · split
        · split
          · exact takeSample_orderly s u _ _ _ _
          · exact loseSample_orderly s u _
        · exact .refl s

theorem deliver_orderly (u : UnitId) : Orderly s (s.deliver u) := by
  unfold State.deliver; split
  · split
    · split
      · refine .trans (changeUnit_orderly s u (f := fun k => { k with pendingAction := none }) fun _ => ⟨rfl, id⟩) ?_
        unfold State.delivered; split
        · exact changeAudible_orderly _ u _
        · exact .refl _
      · exact .refl s
    · exact .refl s
  · exact .refl s

theorem judgeAudio_orderly (u : UnitId) (m : Mapping) (r : KerbReply) : Orderly s (s.judgeAudio u m r) := by
  unfold State.judgeAudio; split
  · exact .refl s
  · exact .after (raise_orderly _ _) (changeUnit_orderly s u fun _ => ⟨rfl, id⟩)

theorem accountPresses_orderly (u : UnitId) (m : Mapping) (found : KerbUnit) (r : KerbReply) :
    Orderly s (s.accountPresses u m found r) := by
  have accounted : Orderly s (s.changeUnit u fun k => { k with pressBaseline := some r.presses, extendedBaseline := some r.extended }) :=
    changeUnit_orderly s u fun _ => ⟨rfl, id⟩
  unfold State.accountPresses; dsimp only; split
  · exact .after (handOver_orderly _ _ _ _ _) accounted
  · exact accounted

theorem reviveUnit_orderly (u : UnitId) : Orderly s (s.reviveUnit u) := by
  unfold State.reviveUnit; dsimp only; split
  · split
    · exact changeUnit_orderly s u fun _ => ⟨rfl, id⟩
    · exact .refl s
  · exact .refl s

theorem closeSample_orderly (u : UnitId) : Orderly s (s.closeSample u) := by
  unfold State.closeSample; split
  · split
    · exact closeSampleWindow_orderly s u _
    · exact .refl s
  · exact .refl s

theorem becomeStale_orderly (u : UnitId) : Orderly s (s.becomeStale u) := by
  unfold State.becomeStale; split
  · exact .after (raiseStale_orderly _ u _) (.after (relevel_orderly _ u) (changeAudible_orderly s u _))
  · exact .refl s

/-! ### The decisecond event -/

theorem runDue_orderly (d : Due) : Orderly s (runDue d s) := by
  cases d with
  | secondAdvance => exact advanceSecond_orderly s
  | cycleBoundary | boundaryDue => exact boundary_orderly s
  | watchdog => exact expireWatchdog_orderly s
  | intervalEnd c => exact endInterval_orderly s c
  | flashHalf c => exact changeFlashHalf_orderly s c
  | mismatch c lamp cls => exact faultEvent_orderly s c lamp cls
  | conflict c => exact faultEvent_orderly s c _ _
  | greenExpiry c => exact expireGreen_orderly s c
  | bandEnd c => exact bandEndEvent_orderly s c
  | notBefore c => exact arriveNotBefore_orderly s c
  | recallExpiry c => exact expireRecall_orderly s c
  | spacing g => exact expireSpacing_orderly s g
  | pairing g => exact closePairing_orderly s g
  | revival u => exact reviveUnit_orderly s u
  | windowClose u => exact closeSample_orderly s u
  | stale u => exact becomeStale_orderly s u

theorem take_orderly (d : Due) {f : State → State} (h : ∀ s, Orderly s (f s)) : Orderly s (s.take d f) := by
  unfold State.take; split
  · exact .after (h _) (withDue_orderly s _)
  · exact .refl s

theorem settle_orderly : Orderly s s.settle :=
  .after (withDue_orderly _ []) <| .foldl s.due s fun w d =>
    .after (transmit_orderly _) (take_orderly w d (runDue_orderly · d))

theorem advance_orderly (inputs : ProvingInputs) : Orderly s (s.advance inputs) :=
  .ofEntries rfl rfl (fun c => by rw [advance_crossing]; exact ⟨rfl, rfl, id⟩)
    fun u => by rw [advance_unit]; exact ⟨rfl, rfl⟩

theorem tick_orderly (inputs : ProvingInputs) : Orderly s (s.tick inputs) :=
  .after (grantSamples_orderly _) <| .after (withDue_orderly _ _) <| .after (advance_orderly _ inputs) (settle_orderly s)

theorem serve_orderly (is : Frame → Bool) {f : Frame → State → State} (h : ∀ s fr, Orderly s (f fr s)) :
    Orderly s (s.serve is f) := by
  unfold State.serve; split
  · split
    · exact .after (h _ _) (.same rfl rfl rfl rfl)
    · exact .refl s
  · exact .refl s

end Sys2Proof.Machine
end

section
/-!
The units' counts and their buttons where a unit changes its state (O58): a good reply, a miss, and an entry of the unit map
written or cleared, each followed by the review of the working buttons of the crossings concerned (R148).
-/

namespace Sys2Proof.Machine

variable {s t w : State} {c : CrossingId} {u : UnitId}

/-! ### The laws of one unit and of one crossing -/

/-- The items a unit's tally holds. -/
theorem tally_eq_iff {k k' : KerbUnit} : k'.tally = k.tally ↔ k'.mapping = k.mapping ∧ k'.state = k.state ∧
    k'.misses = k.misses ∧ k'.goods = k.goods ∧ k'.heldNow = k.heldNow ∧ k'.stuck = k.stuck := by
  simp [KerbUnit.tally, KerbUnit.initial]

theorem countLaw_of_tally {k k' : KerbUnit} (tally : k'.tally = k.tally)
    (sounding : k'.sounding = true → k.sounding = true ∨ k.state ≠ .failed) (h : k.CountLaw) : k'.CountLaw := by
  obtain ⟨-, state, misses, goods, held, -⟩ := tally_eq_iff.1 tally
  unfold KerbUnit.CountLaw at h ⊢
  rw [state, misses, goods, held]
  cases st : k.state <;> simp only [st] at h ⊢ <;> try exact h
  obtain ⟨m, g, n, silent⟩ := h
  refine ⟨m, g, n, ?_⟩
  cases e : k'.sounding
  · rfl
  · simpa [silent, st] using sounding e

theorem Orderly.counts (h : Orderly s t) (k : ∀ u, (s.unit u).CountLaw) (u : UnitId) : (t.unit u).CountLaw :=
  countLaw_of_tally (h.tally u) (h.sounding u) (k u)

theorem button_of_tally {k k' : KerbUnit} (tally : k'.tally = k.tally) (c : CrossingId) (side : Side) :
    (k'.workingButton && k'.mappedTo c side) = (k.workingButton && k.mappedTo c side) := by
  obtain ⟨mapping, state, -, -, -, stuck⟩ := tally_eq_iff.1 tally
  simp only [KerbUnit.workingButton, KerbUnit.mappedTo, mapping, state, stuck]

theorem workingSides_congr (h : ∀ v side, ((t.unit v).workingButton && (t.unit v).mappedTo c side) =
    ((s.unit v).workingButton && (s.unit v).mappedTo c side)) : t.workingSides c = s.workingSides c := by
  simp only [State.workingSides, h]

/-- The law of the working buttons at one crossing (R60, R148). -/
def State.WorkingAt (s : State) (c : CrossingId) : Prop :=
  (s.crossing c).working = s.workingSides c ∧
    (s.crossing c).failRecall = !((s.crossing c).working.a && (s.crossing c).working.b)

theorem workingLaw_iff : s.WorkingLaw ↔ ∀ c, s.WorkingAt c := by
  unfold State.WorkingLaw State.WorkingAt
  exact forall_congr' fun c => and_congr_right fun e => by rw [e]

/-- Orderly work leaves the law of the working buttons at every crossing. -/
theorem Orderly.workingAt (h : Orderly s t) (k : s.WorkingAt c) : t.WorkingAt c := by
  obtain ⟨working, failRecall⟩ := h.buttons c
  have sides : t.workingSides c = s.workingSides c := workingSides_congr fun v side => button_of_tally (h.tally v) c side
  unfold State.WorkingAt
  rw [working, failRecall, sides]
  exact k

/-! ### The review of a crossing's working buttons (R148) -/

/-- The review tells the crossing what its units say, and touches neither the units nor what the others were told. -/
theorem reviewWorking_spec (s : State) (c : CrossingId) :
    (s.reviewWorking c).running = s.running ∧ (s.CallLaw → (s.reviewWorking c).CallLaw) ∧
    (∀ v, ((s.reviewWorking c).unit v).tally = (s.unit v).tally) ∧
    (∀ v, ((s.reviewWorking c).unit v).sounding = true → (s.unit v).sounding = true ∨ (s.unit v).state ≠ .failed) ∧
    (∀ d, d ≠ c → ((s.reviewWorking c).crossing d).working = (s.crossing d).working ∧
      ((s.reviewWorking c).crossing d).failRecall = (s.crossing d).failRecall) ∧
    ((s.reviewWorking c).crossing c).working = s.workingSides c ∧
    ((s.crossing c).failRecall = !((s.crossing c).working.a && (s.crossing c).working.b) →
      ((s.reviewWorking c).crossing c).failRecall = !((s.workingSides c).a && (s.workingSides c).b)) := by
  unfold State.reviewWorking State.tellWorking
  generalize s.workingSides c = sides
  split
  · rename_i told
    exact ⟨rfl, id, fun _ => rfl, fun _ => .inl, fun _ _ => ⟨rfl, rfl⟩, told, fun h => by rw [h, told]⟩
  · have test := testFailRecall_orderly (s.changeCrossing c fun x => { x with working := sides, failRecall := !(sides.a && sides.b) }) c
    refine ⟨test.running, fun h => test.calls (h.sublist (.refl _) fun r _ e => ?_), test.tally, test.sounding,
      fun d ne => ?_, ?_, fun _ => ?_⟩
    · rw [changeCrossing_get]; split <;> exact e
    · have kept := changeCrossing_other s (fun x => { x with working := sides, failRecall := !(sides.a && sides.b) }) (Ne.symm ne)
      exact ⟨(test.buttons d).1.trans (by rw [kept]), (test.buttons d).2.trans (by rw [kept])⟩
    · exact (test.buttons c).1.trans (by rw [changeCrossing_crossing])
    · exact (test.buttons c).2.trans (by rw [changeCrossing_crossing])

theorem reviewWorking_callLaw (h : s.CallLaw) (c : CrossingId) : (s.reviewWorking c).CallLaw := (reviewWorking_spec s c).2.1 h

theorem reviewWorking_counts (h : ∀ u, (s.unit u).CountLaw) (c : CrossingId) (u : UnitId) :
    ((s.reviewWorking c).unit u).CountLaw := by
  obtain ⟨-, -, tally, sounding, -⟩ := reviewWorking_spec s c
  exact countLaw_of_tally (tally u) (sounding u) (h u)

/-- The fail-recall flag of every crossing is set unless it was told of two working buttons (R60). -/
def State.Told (s : State) : Prop :=
  ∀ c, (s.crossing c).failRecall = !((s.crossing c).working.a && (s.crossing c).working.b)

/-- A review leaves the law at the crossing reviewed, and at every other where it stood. -/
theorem reviewWorking_workingAt (told : s.Told) (c : CrossingId) {d : CrossingId} (h : d ≠ c → s.WorkingAt d) :
    (s.reviewWorking c).WorkingAt d := by
  obtain ⟨-, -, tally, -, others, working, failRecall⟩ := reviewWorking_spec s c
  have sides : (s.reviewWorking c).workingSides d = s.workingSides d :=
    workingSides_congr fun v side => button_of_tally (tally v) d side
  unfold State.WorkingAt
  rw [sides]
  by_cases e : d = c
  · subst e; rw [working]; exact ⟨rfl, failRecall (told _)⟩
  · rw [(others d e).1, (others d e).2]; exact h e

/-! ### Work that changes one unit's entry -/

/-- Work orderly but for the entry of unit `u`. -/
structure Aside (u : UnitId) (s t : State) : Prop where
  running : t.running = s.running
  calls : s.CallLaw → t.CallLaw
  buttons : ∀ c, (t.crossing c).working = (s.crossing c).working ∧ (t.crossing c).failRecall = (s.crossing c).failRecall
  others : ∀ v, v ≠ u → (t.unit v).tally = (s.unit v).tally ∧
    ((t.unit v).sounding = true → (s.unit v).sounding = true ∨ (s.unit v).state ≠ .failed)

theorem Orderly.aside (h : Orderly s t) (u : UnitId) : Aside u s t :=
  ⟨h.running, h.calls, h.buttons, fun v _ => ⟨h.tally v, h.sounding v⟩⟩

theorem changeUnit_aside (s : State) (u : UnitId) (f : KerbUnit → KerbUnit) : Aside u s (s.changeUnit u f) :=
  ⟨rfl, id, fun _ => ⟨rfl, rfl⟩, fun v ne => by rw [changeUnit_other s f (Ne.symm ne)]; exact ⟨rfl, .inl⟩⟩

namespace Aside

theorem refl (u : UnitId) (s : State) : Aside u s s := (Orderly.refl s).aside u

theorem trans (h : Aside u s t) (k : Aside u t w) : Aside u s w where
  running := k.running.trans h.running
  calls := k.calls ∘ h.calls
  buttons c := ⟨(k.buttons c).1.trans (h.buttons c).1, (k.buttons c).2.trans (h.buttons c).2⟩
  others v ne := by
    obtain ⟨tally, sounding⟩ := h.others v ne
    obtain ⟨tally', sounding'⟩ := k.others v ne
    have state : (t.unit v).state = (s.unit v).state := (tally_eq_iff.1 tally).2.1
    exact ⟨tally'.trans tally, fun e => (sounding' e).elim sounding fun live => .inr (state ▸ live)⟩

theorem told (h : Aside u s t) (k : s.Told) : t.Told := fun c => by
  rw [(h.buttons c).1, (h.buttons c).2]; exact k c

theorem counts (h : Aside u s t) (k : ∀ v, (s.unit v).CountLaw) (own : (t.unit u).CountLaw) (v : UnitId) :
    (t.unit v).CountLaw := by
  by_cases e : v = u
  · exact e ▸ own
  · exact countLaw_of_tally (h.others v e).1 (h.others v e).2 (k v)

/-- Where the unit's own button says the same of a crossing, the law at the crossing stands. -/
theorem workingAt (h : Aside u s t) (k : s.WorkingAt c)
    (own : ∀ side, ((t.unit u).workingButton && (t.unit u).mappedTo c side) =
      ((s.unit u).workingButton && (s.unit u).mappedTo c side)) : t.WorkingAt c := by
  have sides : t.workingSides c = s.workingSides c := workingSides_congr fun v side => by
    by_cases e : v = u
    · exact e ▸ own side
    · exact button_of_tally (h.others v e).1 c side
  unfold State.WorkingAt
  rw [(h.buttons c).1, (h.buttons c).2, sides]
  exact k

end Aside

/-! ### The laws together -/

/-- Every unit's counts are those its state allows, and every crossing knows its working buttons. -/
structure State.Tended (s : State) : Prop where
  counts : ∀ u, (s.unit u).CountLaw
  working : ∀ c, s.WorkingAt c

namespace State.Tended

theorem told (h : s.Tended) : s.Told := fun c => (h.working c).2

theorem orderly (h : s.Tended) (k : Orderly s t) : t.Tended := ⟨k.counts h.counts, fun c => k.workingAt (h.working c)⟩

/-- A unit that stays mapped to its crossing has changed, and that crossing's working buttons are reviewed where the unit's
state or its stuck flag is another than before. -/
theorem reviewed (h : s.Tended) (k : Aside u s t) {m : Mapping} (before : (s.unit u).mapping = some m)
    (after : (t.unit u).mapping = some m) (own : (t.unit u).CountLaw) :
    (if (t.unit u).state = (s.unit u).state ∧ (t.unit u).stuck = (s.unit u).stuck then t else
      t.reviewWorking m.crossing).Tended := by
  have counts := k.counts h.counts own
  split
  · rename_i same
    refine ⟨counts, fun c => k.workingAt (h.working c) fun side => ?_⟩
    simp only [KerbUnit.workingButton, KerbUnit.mappedTo, before, after, same]
  · refine ⟨reviewWorking_counts counts _, fun c => reviewWorking_workingAt (k.told h.told) _ fun other => ?_⟩
    refine k.workingAt (h.working c) fun side => ?_
    simp only [KerbUnit.mappedTo, before, after, decide_eq_false (Ne.symm other), Bool.false_and, Bool.and_false]

end State.Tended

/-! ### A good reply (R138, R143) -/

/-- The handling of a good reply up to the review of the working buttons. -/
def State.heard (s : State) (u : UnitId) (m : Mapping) (x : Transaction) (r : KerbReply) : State :=
  let found := s.unit u
  let s := (s.changeUnit u KerbUnit.good).reportUnit u m found.state (goodCause found.state)
  let s := s.judgeStuck u m r
  let s := s.judgeAudio u m r
  let s := s.accountPresses u m found r
  let s := s.sampleReply u x r
  let s := s.deliver u
  if x.endsSounding then s.changeUnit u fun k => { k with sounding := false } else s

theorem goodReply_eq (s : State) (u : UnitId) (m : Mapping) (x : Transaction) (r : KerbReply) :
    s.goodReply u m x r = if ((s.heard u m x r).unit u).state = (s.unit u).state ∧
      ((s.heard u m x r).unit u).stuck = (s.unit u).stuck then s.heard u m x r
      else (s.heard u m x r).reviewWorking m.crossing := rfl

/-- A good reply leaves no unit FAILED (R138). -/
theorem good_state (k : KerbUnit) : k.good.state ≠ .failed := by
  unfold KerbUnit.good; split
  · split <;> nofun
  · simp_all
  · nofun
  · nofun

theorem good_kept (k : KerbUnit) : k.good.mapping = k.mapping ∧ k.good.stuck = k.stuck ∧ k.good.heldNow = k.heldNow := by
  unfold KerbUnit.good; split <;> exact ⟨rfl, rfl, rfl⟩

theorem good_countLaw {k : KerbUnit} (h : k.CountLaw) : k.good.CountLaw := by
  unfold KerbUnit.CountLaw KerbUnit.good at *
  cases st : k.state <;> simp only [st] at h ⊢
  · by_cases third : 3 ≤ k.goods + 1
    · simp only [third, if_true, true_and]; omega
    · simp only [third, if_false]; omega
  · simp only [true_and]; omega
  · simp
  · simp

/-- The stuck flag judged: the reply's held report, and the flag by R146. -/
theorem judgeStuck_tally (s : State) (u : UnitId) (m : Mapping) (r : KerbReply) :
    Aside u s (s.judgeStuck u m r) ∧ ((s.judgeStuck u m r).unit u).tally =
      { (s.unit u).tally with heldNow := r.heldNow, stuck := stuckAfter (s.crossing m.crossing).record (s.unit u).stuck r } := by
  unfold State.judgeStuck; dsimp only
  split
  · exact ⟨changeUnit_aside s u _, by rw [changeUnit_unit]; rfl⟩
  · exact ⟨((changeUnit_aside s u _).trans ((countUnit_orderly _ u _).aside u)).trans ((raise_orderly _ _).aside u),
      by rw [raise_unit, countUnit_unit, changeUnit_unit]; rfl⟩

/-- What a good reply makes of the unit's counts and of what its button says; the other units, the calls and what the
crossings were told keep their order. -/
theorem heard_tally (s : State) (u : UnitId) (m : Mapping) (x : Transaction) (r : KerbReply) :
    Aside u s (s.heard u m x r) ∧ ∃ stuck,
      ((s.heard u m x r).unit u).tally = { (s.unit u).good.tally with heldNow := r.heldNow, stuck := stuck } := by
  let moved := s.changeUnit u KerbUnit.good
  let reported := moved.reportUnit u m (s.unit u).state (goodCause (s.unit u).state)
  have first : Orderly moved reported := reportUnit_orderly moved u m _ _
  obtain ⟨judged, tally⟩ := judgeStuck_tally reported u m r
  have rest : Orderly (reported.judgeStuck u m r) (s.heard u m x r) := by
    have delivered := (judgeAudio_orderly (reported.judgeStuck u m r) u m r).trans <|
      (accountPresses_orderly _ u m (s.unit u) r).trans <| (sampleReply_orderly _ u x r).trans (deliver_orderly _ u)
    unfold State.heard; dsimp only; split
    · exact delivered.trans (changeUnit_orderly _ u fun _ => ⟨rfl, nofun⟩)
    · exact delivered
  refine ⟨((changeUnit_aside s u _).trans (first.aside u)).trans (judged.trans (rest.aside u)),
    stuckAfter (reported.crossing m.crossing).record (reported.unit u).stuck r, ?_⟩
  have own : (reported.unit u).tally = (s.unit u).good.tally := by rw [first.tally u, changeUnit_unit]
  rw [rest.tally u, tally, own]

theorem goodReply_tended (h : s.Tended) {m : Mapping} (mapped : (s.unit u).mapping = some m) (x : Transaction) (r : KerbReply) :
    (s.goodReply u m x r).Tended := by
  obtain ⟨aside, stuck, tally⟩ := heard_tally s u m x r
  obtain ⟨mapping, state, misses, goods, -, -⟩ := tally_eq_iff (k := { (s.unit u).good with heldNow := r.heldNow, stuck := stuck }).1 tally
  rw [goodReply_eq]
  refine h.reviewed aside mapped (mapping.trans ((good_kept _).1.trans mapped)) ?_
  have law := good_countLaw (h.counts u)
  have live := good_state (s.unit u)
  unfold KerbUnit.CountLaw at law ⊢
  rw [state, misses, goods]
  cases st : (s.unit u).good.state with
  | failed => exact absurd st live
  | joining => rw [st] at law; exact law
  | online => rw [st] at law; exact law
  | suspect => rw [st] at law; exact law

/-! ### A miss (R138, R139) -/

theorem miss_kept (k : KerbUnit) (now : Time) : (k.miss now).mapping = k.mapping ∧ (k.miss now).stuck = k.stuck := by
  unfold KerbUnit.miss; split
  · split <;> exact ⟨rfl, rfl⟩
  · exact ⟨rfl, rfl⟩
  · split <;> exact ⟨rfl, rfl⟩
  · unfold KerbUnit.reviveLater; split <;> exact ⟨rfl, rfl⟩

/-- A miss keeps the count law: the sixth in a row fails the unit (R138). -/
theorem miss_countLaw {k : KerbUnit} (h : k.CountLaw) (now : Time) : (k.miss now).CountLaw := by
  unfold KerbUnit.CountLaw at h
  unfold KerbUnit.miss
  cases st : k.state <;> simp only [st] at h ⊢
  · split
    · exact ⟨rfl, rfl, rfl, rfl⟩
    · simp only [KerbUnit.CountLaw]; omega
  · simp [KerbUnit.CountLaw]
  · split
    · exact ⟨rfl, rfl, rfl, rfl⟩
    · simp only [KerbUnit.CountLaw]; omega
  · unfold KerbUnit.reviveLater; split <;> simpa [KerbUnit.CountLaw, st] using h

/-- A miss of a mapped unit up to the review of the working buttons. -/
def State.missed (s : State) (u : UnitId) (m : Mapping) (bad : Bool) : State :=
  let w := (s.countUnit u fun n =>
    { n with pollsMissed := satAdd n.pollsMissed 1, badReplies := satAdd n.badReplies (if bad then 1 else 0) }).changeUnit u
      fun e => e.miss s.clock.now
  w.reportUnit u m (s.unit u).state .miss

theorem missUnit_eq {m : Mapping} (mapped : (s.unit u).mapping = some m) (bad : Bool) :
    s.missUnit u bad = if ((s.unit u).miss s.clock.now).state = (s.unit u).state then s.missed u m bad
      else (s.missed u m bad).reviewWorking m.crossing := by
  simp only [State.missUnit, State.missed, countUnit_unit, mapped, changeUnit_unit, countUnit_clock]
  split
  · rename_i same
    simp only [State.reportUnit, changeUnit_unit, countUnit_unit, same, if_true]
  · rfl

theorem missUnit_unmapped (h : (s.unit u).mapping = none) (bad : Bool) : Orderly s (s.missUnit u bad) := by
  unfold State.missUnit; dsimp only
  rw [countUnit_unit, h]
  exact countUnit_orderly s u _

theorem missed_tally (s : State) (u : UnitId) (m : Mapping) (bad : Bool) :
    Aside u s (s.missed u m bad) ∧ ((s.missed u m bad).unit u).tally = ((s.unit u).miss s.clock.now).tally ∧
      (((s.missed u m bad).unit u).sounding = true → ((s.unit u).miss s.clock.now).sounding = true ∨
        ((s.unit u).miss s.clock.now).state ≠ .failed) := by
  have reported (w : State) := reportUnit_orderly w u m (s.unit u).state .miss
  refine ⟨(((countUnit_orderly s u _).aside u).trans (changeUnit_aside _ u _)).trans ((reported _).aside u), ?_, ?_⟩
  · exact ((reported _).tally u).trans (by rw [changeUnit_unit, countUnit_unit])
  · have k := (reported ((s.countUnit u fun n =>
      { n with pollsMissed := satAdd n.pollsMissed 1, badReplies := satAdd n.badReplies (if bad then 1 else 0) }).changeUnit u
        fun e => e.miss s.clock.now)).sounding u
    rwa [changeUnit_unit, countUnit_unit] at k

theorem missUnit_tended (h : s.Tended) (u : UnitId) (bad : Bool) : (s.missUnit u bad).Tended := by
  cases mapped : (s.unit u).mapping with
  | none => exact h.orderly (missUnit_unmapped mapped bad)
  | some m =>
    obtain ⟨aside, tally, sounding⟩ := missed_tally s u m bad
    obtain ⟨mapping, state, -, -, -, stuck⟩ := tally_eq_iff.1 tally
    obtain ⟨mapping', stuck'⟩ := miss_kept (s.unit u) s.clock.now
    have reviewed := h.reviewed aside mapped (mapping.trans (mapping'.trans mapped))
      (countLaw_of_tally tally sounding (miss_countLaw (h.counts u) _))
    rw [missUnit_eq mapped, ← state]
    simpa only [stuck.trans stuck', and_true] using reviewed

/-! ### The unit map (R151) -/

theorem mapped_initial_countLaw (m : Option Mapping) : (KerbUnit.initial m).CountLaw := ⟨Nat.zero_le 5, Nat.zero_le 2⟩

theorem detachUnit_orderly (s : State) (u : UnitId) (cleared : Bool) : Orderly s (s.detachUnit u cleared) := by
  have left := (loseSample_orderly s u false).trans <|
    rewriteUnits_orderly _ (f := fun _ k => { k with audible := { k.audible with
      sample := k.audible.sample.map fun q => { q with muted := q.muted.filter fun v => decide (v ≠ u) } } }) fun _ _ => ⟨rfl, rfl⟩
  exact left.trans (.same rfl rfl rfl rfl)

/-- A unit that is no working button now has changed, and every crossing it was mapped to is reviewed. -/
theorem reviewConcerned_tended (h : s.Tended) (k : Aside u s t) (own : (t.unit u).CountLaw)
    (idle : (t.unit u).workingButton = false) (new : Option CrossingId) :
    (t.reviewConcerned (s.unit u).crossing new).Tended := by
  have counts := k.counts h.counts own
  have told := k.told h.told
  have elsewhere : ∀ d, (s.unit u).crossing ≠ some d → t.WorkingAt d := fun d ne => by
    refine k.workingAt (h.working d) fun side => ?_
    have other : (s.unit u).mappedTo d side = false := by
      unfold KerbUnit.mappedTo
      cases e : (s.unit u).mapping with
      | none => rfl
      | some m => simp only [KerbUnit.crossing, e, Option.map_some, ne_eq, Option.some.injEq] at ne; simp [ne]
    rw [idle, other, Bool.false_and, Bool.and_false]
  have review : ∀ {w : State} (d : CrossingId), w.Tended → (w.reviewWorking d).Tended := fun d hw =>
    ⟨reviewWorking_counts hw.counts d, fun _ => reviewWorking_workingAt hw.told d fun _ => hw.working _⟩
  have first : (match (s.unit u).crossing with | some c => t.reviewWorking c | none => t).Tended := by
    cases old : (s.unit u).crossing with
    | none => exact ⟨counts, fun d => elsewhere d (by rw [old]; nofun)⟩
    | some c =>
      exact ⟨reviewWorking_counts counts c, fun d => reviewWorking_workingAt told c fun ne =>
        elsewhere d (by rw [old]; exact fun e => ne (Option.some.inj e).symm)⟩
  unfold State.reviewConcerned; dsimp only
  cases new with
  | none => exact first
  | some d =>
    dsimp only
    split
    · exact first
    · exact review d first

theorem mapUnit_tended (h : s.Tended) (u : UnitId) (m : Mapping) : (s.mapUnit u m).Tended := by
  let fresh := (s.unit u).mapped m (s.detachUnit u false).clock.now
  let mapped := (s.detachUnit u false).changeUnit u fun _ => fresh
  let reported := (mapped.relevel u).raiseMapped u m (s.unit u).reportedState (some .joining)
  have settled : Orderly mapped reported := (relevel_orderly mapped u).trans (raise_orderly _ _)
  have aside : Aside u s reported :=
    (((detachUnit_orderly s u false).aside u).trans (changeUnit_aside _ u _)).trans (settled.aside u)
  have entry : mapped.unit u = fresh := by rw [changeUnit_unit]
  have tally : (reported.unit u).tally = (KerbUnit.initial (some m)).tally := by rw [settled.tally u, entry]; rfl
  refine reviewConcerned_tended h aside (countLaw_of_tally tally (fun e => ?_) (mapped_initial_countLaw _)) ?_ (some m.crossing)
  · exact (settled.sounding u e).elim (fun on => by rw [entry] at on; cases on) fun _ => .inr nofun
  · obtain ⟨mapping, state, -, -, -, stuck⟩ := tally_eq_iff.1 tally
    simp [KerbUnit.workingButton, mapping, state, stuck, KerbUnit.initial]

theorem unmapUnit_tended (h : s.Tended) {u : UnitId} {m : Mapping} (mapped : (s.unit u).mapping = some m) :
    (s.unmapUnit u m).Tended := by
  have aside : Aside u s (((s.detachUnit u true).changeUnit u fun _ => .initial none).raiseMapped u m (some (s.unit u).state) none) :=
    (((detachUnit_orderly s u true).aside u).trans (changeUnit_aside _ u _)).trans ((raise_orderly _ _).aside u)
  have entry : (((s.detachUnit u true).changeUnit u fun _ => .initial none).raiseMapped u m (some (s.unit u).state) none).unit u =
      .initial none := by rw [State.raiseMapped, raise_unit, changeUnit_unit]
  have reviewed := reviewConcerned_tended h aside (by rw [entry]; exact mapped_initial_countLaw _) (by rw [entry]; rfl) none
  simp only [KerbUnit.crossing, mapped, Option.map_some] at reviewed
  exact reviewed

/-! ### The call queue under the same commands -/

theorem reviewConcerned_callLaw (h : s.CallLaw) (old new : Option CrossingId) : (s.reviewConcerned old new).CallLaw := by
  have first : (match old with | some c => s.reviewWorking c | none => s).CallLaw := by
    cases old with
    | none => exact h
    | some c => exact reviewWorking_callLaw h c
  unfold State.reviewConcerned; dsimp only
  cases new with
  | none => exact first
  | some d =>
    dsimp only
    split
    · exact first
    · exact reviewWorking_callLaw first d

theorem goodReply_callLaw (h : s.CallLaw) (u : UnitId) (m : Mapping) (x : Transaction) (r : KerbReply) :
    (s.goodReply u m x r).CallLaw := by
  have heard := (heard_tally s u m x r).1.calls h
  rw [goodReply_eq]; split
  · exact heard
  · exact reviewWorking_callLaw heard _

theorem missUnit_callLaw (h : s.CallLaw) (u : UnitId) (bad : Bool) : (s.missUnit u bad).CallLaw := by
  cases mapped : (s.unit u).mapping with
  | none => exact (missUnit_unmapped mapped bad).calls h
  | some m =>
    have missed := (missed_tally s u m bad).1.calls h
    rw [missUnit_eq mapped]; split
    · exact missed
    · exact reviewWorking_callLaw missed _

theorem mapUnit_callLaw (h : s.CallLaw) (u : UnitId) (m : Mapping) : (s.mapUnit u m).CallLaw := by
  have detached : (s.detachUnit u false).CallLaw := (detachUnit_orderly s u _).calls h
  have mapped := ((changeUnit_aside _ u fun _ => (s.unit u).mapped m (s.detachUnit u false).clock.now).calls detached)
  exact reviewConcerned_callLaw ((raise_orderly _ _).calls ((relevel_orderly _ u).calls mapped)) _ _

theorem unmapUnit_callLaw (h : s.CallLaw) (u : UnitId) (m : Mapping) : (s.unmapUnit u m).CallLaw := by
  have detached : (s.detachUnit u true).CallLaw := (detachUnit_orderly s u _).calls h
  exact reviewConcerned_callLaw ((raise_orderly _ _).calls ((changeUnit_aside _ u fun _ => .initial none).calls detached)) _ _

/-! ### What orderly work and every change of a unit's state keep -/

/-- A law that orderly work keeps, and the four changes of a unit's state: a good reply, a miss, an entry of the unit map
written, and one cleared. -/
structure KeptOnTheKerb (P : State → Prop) : Prop where
  orderly : ∀ {s t}, Orderly s t → P s → P t
  good : ∀ {s u m}, (s.unit u).mapping = some m → ∀ x r, P s → P (s.goodReply u m x r)
  miss : ∀ {s} u bad, P s → P (s.missUnit u bad)
  mapped : ∀ {s} u m, P s → P (s.mapUnit u m)
  cleared : ∀ {s u m}, (s.unit u).mapping = some m → P s → P (s.unmapUnit u m)

theorem callLaw_keptOnTheKerb : KeptOnTheKerb State.CallLaw where
  orderly k h := k.calls h
  good _ x r h := goodReply_callLaw h _ _ x r
  miss u bad h := missUnit_callLaw h u bad
  mapped u m h := mapUnit_callLaw h u m
  cleared _ h := unmapUnit_callLaw h _ _

theorem tended_keptOnTheKerb : KeptOnTheKerb State.Tended where
  orderly k h := h.orderly k
  good mapped x r h := goodReply_tended h mapped x r
  miss u bad h := missUnit_tended h u bad
  mapped u m h := mapUnit_tended h u m
  cleared mapped h := unmapUnit_tended h mapped

/-- A reset leaves the law of a stopped part (R22, R44, R65, R95, R120, R153, R188). -/
theorem AfterReset.stoppedLaw {k : Counters} {f : Vector FilterEntry 16} (h : AfterReset s t k f) : t.StoppedLaw := fun _ => by
  obtain ⟨inForce, pending, deferral, -⟩ := h.selections
  exact ⟨h.clock, inForce, pending, deferral, h.calls, h.crossings, h.groups, fun u => by rw [h.units u]; rfl, h.kerb,
    by rw [h.host]; rfl, h.due⟩

/-- The start-up hands each crossing its record or leaves it as it was, and then tests fail recall (R43, R60). -/
theorem startUp_from (stop : s.running = false) : ∃ w, Orderly w s.startUp ∧ w.calls = s.calls ∧ w.units = s.units ∧
    ∀ c, (∃ f, w.crossing c = .startUp f) ∨ w.crossing c = s.crossing c := by
  have finish (w : State) : Orderly w (allCrossings.foldl State.testFailRecall w.relevelAll) :=
    .after (.foldl _ _ fun w c => testFailRecall_orderly w c) (relevelAll_orderly w)
  cases e : s.store.checked.readoption with
  | none =>
    rw [startUp_empty stop e]
    exact ⟨_, finish _, rfl, rfl, fun _ => .inr rfl⟩
  | some adopted =>
    rw [startUp_under stop e]
    exact ⟨_, finish _, rfl, rfl, fun c => .inl ⟨_, startUnder_crossing _ _ c⟩⟩

theorem startUp_running (s : State) : s.startUp.running = true := by
  cases run : s.running with
  | true => rw [State.startUp, if_pos run, run]
  | false =>
    cases e : s.store.checked.readoption with
    | none =>
      rw [startUp_empty run e]
      exact (Steady.foldl _ _ fun w c => testFailRecall_steady w c).running
    | some adopted =>
      rw [startUp_under run e]
      exact (Steady.foldl _ _ fun w c => testFailRecall_steady w c).running

namespace KeptOnTheKerb

variable {P : State → Prop} (keeps : KeptOnTheKerb P)
include keeps

theorem endInMiss (h : P s) (x : Transaction) (bad counted : Bool) : P (s.endInMiss x bad counted) := by
  unfold State.endInMiss; dsimp only; split
  · exact keeps.orderly (endTransaction_orderly s _) h
  · exact keeps.orderly (endTransaction_orderly _ _) (keeps.miss _ bad h)

theorem receiveGood (h : P s) (frame : List Byte) : P (s.receiveGood frame) := by
  unfold State.receiveGood; split
  · exact h
  · dsimp only; split
    · split
      · exact keeps.orderly (endTransaction_orderly s _) h
      · split
        · exact keeps.orderly (endTransaction_orderly s _) h
        · rename_i mapped
          exact keeps.orderly (endTransaction_orderly _ _) (keeps.good mapped _ _ h)
    · exact h

theorem receiveBad (h : P s) (frame : List Byte) : P (s.receiveBad frame) := by
  unfold State.receiveBad; split
  · exact h
  · split
    · exact h
    · exact keeps.endInMiss h _ _ _

theorem closeWindow (h : P s) (x : WindowContent) : P (s.closeWindow x) := by
  unfold State.closeWindow; split
  · exact h
  · exact keeps.endInMiss h _ _ _

theorem executeMap (h : P s) (fr : Frame) : P (executeMap fr s) := by
  unfold Machine.executeMap; split
  · exact keeps.orderly (respond_orderly s _ _) h
  · exact keeps.orderly (respond_orderly s _ _) h
  · exact keeps.orderly (respond_orderly _ _ _) (keeps.mapped _ _ h)
  · split
    · exact keeps.orderly (respond_orderly s _ _) h
    · rename_i mapped
      exact keeps.orderly (respond_orderly _ _ _) (keeps.cleared mapped h)

theorem serve (h : P s) (is : Frame → Bool) {f : Frame → State → State} (hf : ∀ fr {s : State}, P s → P (f fr s)) :
    P (s.serve is f) := by
  unfold State.serve; split
  · split
    · exact hf _ (keeps.orderly (s := s) (.same rfl rfl rfl rfl) h)
    · exact h
  · exact h

/-- Every command but those of a reset does work that keeps such a law. -/
theorem exec {i : Instr} (wf : wellFormed i = true) (hc : i ≠ .coldStart) (hs : i ≠ .startUpComplete)
    (hr : i ≠ .restartBegin) :
    ∃ f : State → State, (∀ s, exec i s = .next (s.live f)) ∧ (∀ s, (f s).running = s.running) ∧
      ∀ {s : State}, P s → P (f s) := by
  have other : ∀ {f : State → State}, (∀ s, Orderly s (f s)) →
      (∀ s, (f s).running = s.running) ∧ ∀ {s : State}, P s → P (f s) :=
    fun hf => ⟨fun s => (hf s).running, fun h => keeps.orderly (hf _) h⟩
  have request : ∀ {is : Frame → Bool} {f : Frame → State → State}, (∀ s fr, Orderly s (f fr s)) →
      (∀ s : State, (s.serve is f).running = s.running) ∧ ∀ {s : State}, P s → P (s.serve is f) :=
    fun hf => other fun s => serve_orderly s _ hf
  have map : ∀ {is : Frame → Bool}, (∀ s : State, (s.serve is Machine.executeMap).running = s.running) ∧
      ∀ {s : State}, P s → P (s.serve is Machine.executeMap) :=
    ⟨fun s => by
      unfold State.serve; split
      · split
        · exact (executeMap_planKept _ _).running
        · rfl
      · rfl, fun h => keeps.serve h _ fun fr _ k => keeps.executeMap k fr⟩
  cases hd : takenBy i with
  | some d => exact ⟨_, exec_takes hd, other fun s => take_orderly s d (runDue_orderly · d)⟩
  | none =>
    cases i with
    | coldStart => exact absurd rfl hc
    | startUpComplete => exact absurd rfl hs
    | restartBegin => exact absurd rfl hr
    | decisecondEvent inputs => exact ⟨_, fun _ => rfl, other (f := fun s => s.tick inputs) fun s => tick_orderly s inputs⟩
    | mismatchTimerLimit c lamp =>
      refine ⟨_, fun _ => rfl, other fun s => ?_⟩
      split
      · rename_i cls _; exact take_orderly s _ (faultEvent_orderly · c lamp cls)
      · exact .refl s
    | sync => exact ⟨_, fun _ => rfl, request executeSync_orderly⟩
    | planWrite => exact ⟨_, fun _ => rfl, request executePlanWrite_orderly⟩
    | slotWriteDone => exact ⟨_, fun _ => rfl, other slotWriteDone_orderly⟩
    | planSelect => exact ⟨_, fun _ => rfl, request executePlanSelect_orderly⟩
    | planRead => exact ⟨_, fun _ => rfl, request executePlanRead_orderly⟩
    | call => exact ⟨_, fun _ => rfl, request executeCall_orderly⟩
    | callCancel => exact ⟨_, fun _ => rfl, request executeCancel_orderly⟩
    | serviceOff | dark | restore => exact ⟨_, fun _ => rfl, request executeControl_orderly⟩
    | unitMapSet | unitMapClear => exact ⟨_, fun _ => rfl, map⟩
    | unitStatus => exact ⟨_, fun _ => rfl, request executeUnitStatus_orderly⟩
    | counters => exact ⟨_, fun _ => rfl, request executeCounters_orderly⟩
    | unknownKind => exact ⟨_, fun _ => rfl, request fun s fr => respond_orderly s fr.tag _⟩
    | status => exact ⟨_, fun _ => rfl, request executeStatus_orderly⟩
    | crossingStatus => exact ⟨_, fun _ => rfl, request executeCrossingStatus_orderly⟩
    | filterWrite => exact ⟨_, fun _ => rfl, request executeFilterWrite_orderly⟩
    | restart => exact ⟨_, fun _ => rfl, request executeRestart_orderly⟩
    | pollCommand => exact ⟨_, fun _ => rfl, other poll_orderly⟩
    | replyWindowOpen => exact ⟨_, fun _ => rfl, other (f := State.openWindow) fun s => .same rfl rfl rfl rfl⟩
    | replyWindowClose x =>
      exact ⟨_, fun _ => rfl, fun s => (closeWindow_planKept s x).running, fun h => keeps.closeWindow h x⟩
    | lateBytes => exact ⟨_, fun _ => rfl, other lateBytes_orderly⟩
    | hostFrameStart => exact ⟨_, fun _ => rfl, other (f := State.startFrame) fun s => .same rfl rfl rfl rfl⟩
    | frameGapTimeout => exact ⟨_, fun _ => rfl, other abandonFrame_orderly⟩
    | transmitEnd => exact ⟨_, fun _ => rfl, other endTransmission_orderly⟩
    | goodReply frame =>
      exact ⟨_, fun _ => if_pos wf, fun s => (receiveGood_planKept s frame).running, fun h => keeps.receiveGood h frame⟩
    | badReply frame =>
      exact ⟨_, fun _ => if_pos wf, fun s => (receiveBad_planKept s frame).running, fun h => keeps.receiveBad h frame⟩
    | hostFrameReceived bytes => exact ⟨_, fun _ => if_pos wf, other fun s => receiveFrame_orderly s bytes⟩
    | frameAbandon cause => exact ⟨_, fun _ => if_pos wf, other abandonFrame_orderly⟩
    | _ => cases hd

/-- A law that such work keeps is kept by every step, with the law of a stopped part, where it stands at the values a reset
leaves and in a part that starts up from them. -/
theorem step (reset : ∀ {s t : State} {k : Counters} {f : Vector FilterEntry 16}, AfterReset s t k f → P t)
    (started : ∀ {s : State}, s.StoppedLaw → s.running = false → P s.startUp)
    {s t : State} (stopped : s.StoppedLaw) (h : P s) (e : Machine.step s = .next t) : t.StoppedLaw ∧ P t := by
  unfold Machine.step at e
  split at e
  · rename_i i rest _
    have waiting : P { s with pending := rest } := keeps.orderly (s := s) (.same rfl rfl rfl rfl) h
    have stopped : ({ s with pending := rest } : State).StoppedLaw := stopped
    generalize ({ s with pending := rest } : State) = s at waiting stopped e
    have down : ∀ k f, (s.shutDown k f).StoppedLaw ∧ P (s.shutDown k f) := fun k f =>
      ⟨(shutDown_afterReset s k f).stoppedLaw, reset (shutDown_afterReset s k f)⟩
    have wf : wellFormed i = true := by
      by_contra bad
      rw [exec_fault (by simpa using bad)] at e
      cases e
    by_cases hc : i = .coldStart
    · subst hc; obtain rfl := Host.Outcome.next.inj e; exact down _ _
    by_cases hr : i = .restartBegin
    · subst hr; obtain rfl := Host.Outcome.next.inj e
      split
      · exact down _ _
      · exact ⟨stopped, waiting⟩
    by_cases hs : i = .startUpComplete
    · subst hs; obtain rfl := Host.Outcome.next.inj e
      have up : s.startUp.running = true ∧ P s.startUp := by
        cases run : s.running with
        | false => exact ⟨startUp_running s, started stopped run⟩
        | true => exact ⟨startUp_running s, by rwa [State.startUp, if_pos run]⟩
      exact ⟨fun stop => absurd (up.1.symm.trans stop) (by simp), keeps.orderly (transmit_orderly _) up.2⟩
    obtain ⟨f, hf, running, kept⟩ := keeps.exec wf hc hs hr
    obtain rfl := Host.Outcome.next.inj ((hf s).symm.trans e)
    cases run : s.running with
    | false => rw [live_stopped run]; exact ⟨stopped, waiting⟩
    | true =>
      rw [live_running run]
      exact ⟨fun stop => absurd (((running s).trans run).symm.trans stop) (by simp),
        keeps.orderly (transmit_orderly _) (kept waiting)⟩
  · obtain rfl := Host.Outcome.next.inj e; exact ⟨stopped, h⟩

end KeptOnTheKerb

/-! ### The two laws under every step -/

/-- No unit of a part at its values after reset is a working button, and no crossing has been told of one (R148, R153). -/
theorem tended_of_initial (units : ∀ u, s.unit u = .initial (s.unit u).mapping)
    (crossings : ∀ c, (s.crossing c).working = {} ∧ (s.crossing c).failRecall = true) : s.Tended := by
  have idle (u : UnitId) : (s.unit u).workingButton = false := by
    rw [units u]; simp [KerbUnit.workingButton, KerbUnit.initial]
  refine ⟨fun u => by rw [units u]; exact mapped_initial_countLaw _, fun c => ?_⟩
  obtain ⟨working, failRecall⟩ := crossings c
  have sides : s.workingSides c = {} := by simp [State.workingSides, idle]
  rw [State.WorkingAt, working, failRecall, sides]
  exact ⟨rfl, rfl⟩

/-- Settles O54. -/
theorem everyStepKeepsTheCallQueueSound : Obligations.EveryStepKeepsTheCallQueueSound := by
  unfold Obligations.EveryStepKeepsTheCallQueueSound
  have empty : ∀ {w : State}, w.calls = [] → w.CallLaw := fun e => by simp [State.CallLaw, e]
  intro s t stopped law e
  refine callLaw_keptOnTheKerb.step (fun h => empty h.calls) (fun {s} stopped stop => ?_) stopped law e
  obtain ⟨-, -, -, -, calls, -⟩ := stopped stop
  obtain ⟨w, up, sameCalls, -⟩ := startUp_from stop
  exact up.calls (empty (sameCalls.trans calls))

/-- Settles O58. -/
theorem everyStepKeepsTheUnitsAndTheirButtons : Obligations.EveryStepKeepsTheUnitsAndTheirButtons := by
  unfold Obligations.EveryStepKeepsTheUnitsAndTheirButtons
  have reset {s t : State} {k : Counters} {f : Vector FilterEntry 16} (h : AfterReset s t k f) : t.Tended :=
    tended_of_initial (fun u => by rw [h.units u]; rfl) fun c => by rw [h.crossings c]; exact ⟨rfl, rfl⟩
  have started {s : State} (stopped : s.StoppedLaw) (stop : s.running = false) : s.startUp.Tended := by
    obtain ⟨-, -, -, -, -, crossings, -, units, -⟩ := stopped stop
    obtain ⟨w, up, -, sameUnits, handed⟩ := startUp_from stop
    refine (tended_of_initial (fun u => ?_) fun c => ?_).orderly up
    · rw [unit_of_eq sameUnits]; exact units u
    · rcases handed c with ⟨f, e⟩ | e
      · rw [e]; cases f <;> exact ⟨rfl, rfl⟩
      · rw [e, crossings c]; exact ⟨rfl, rfl⟩
  intro s t stopped counts working e
  obtain ⟨stopped', tended⟩ := tended_keptOnTheKerb.step reset started stopped ⟨counts, workingLaw_iff.1 working⟩ e
  exact ⟨stopped', tended.counts, workingLaw_iff.2 tended.working⟩

end Sys2Proof.Machine
end

section
/-!
Offers and the call queue: CALL (O30, O31), the merge (O32), CALL_CANCEL (O33), and the arrivals of a not-before and of a
recall timer (O34).
-/

namespace Sys2Proof.Machine

variable {s t w : State} {c : CrossingId} {o : Offer} {call q : CallRecord} {r : Record} {fr : Frame} {rest : List Frame}

/-! ### What the work of a crossing leaves of the others -/

/-- The crossings that the work of a crossing may reach: itself and those its group takes (R87). -/
def State.Company (s : State) (c d : CrossingId) : Prop := d = c ∨ s.shareGroup c d

theorem company_covers (s : State) (c : CrossingId) : s.Covers (s.Company c) c := ⟨.inl rfl, fun _ => .inr⟩

theorem Within.othersKept (h : Within (s.Company c) s t) : OthersKept s t c := fun d ne apart => h d fun k => k.elim ne apart

theorem AloneAt.othersKept (h : AloneAt c s t) : OthersKept s t c := fun d ne _ => h.within d ne

theorem registering_not_committed {x : Crossing} (h : x.state.registering = true) : x.inCommittedStage = false := by
  unfold Crossing.inCommittedStage
  cases e : x.state <;> simp_all [CrossingState.registering, CrossingState.committed]

/-! ### The queue with an offer taken in (R46 to R48) -/

theorem mergeCall_callOf (s : State) (c : CrossingId) (o : Offer) :
    (s.mergeCall c o).callOf c = (s.callOf c).map fun q => q.merge o := find_map_self _ fun _ => rfl

theorem registerCall_callOf (o : Offer) (free : s.callOf c = none) :
    (s.registerCall c o).callOf c = some (o.newRecord c s.clock.now) := find_append_self (r := o.newRecord c s.clock.now) free

/-- The state with an offer taken into the queue and not yet evaluated. -/
def State.queued (s : State) (c : CrossingId) (o : Offer) : State :=
  if (s.callOf c).isSome then s.mergeCall c o else s.registerCall c o

/-- The crossing's record once the offer is taken in. -/
def State.recordWith (s : State) (c : CrossingId) (o : Offer) : CallRecord :=
  match s.callOf c with
  | none => o.newRecord c s.clock.now
  | some q => q.merge o

/-- What the host is answered of an offer taken in. -/
def State.queuedAs (s : State) (c : CrossingId) : OfferOutcome := if (s.callOf c).isSome then .merged else .registered

theorem intoQueue_eq (s : State) (c : CrossingId) (o : Offer) :
    s.intoQueue c o = (s.queuedAs c, (s.queued c o).evaluate c) := by
  unfold State.intoQueue State.queued State.queuedAs
  cases s.callOf c <;> rfl

@[simp] theorem queued_crossing (s : State) (c d : CrossingId) (o : Offer) : (s.queued c o).crossing d = s.crossing d := by
  unfold State.queued; split <;> rfl

@[simp] theorem queued_clock (s : State) (c : CrossingId) (o : Offer) : (s.queued c o).clock = s.clock := by
  unfold State.queued; split <;> rfl

@[simp] theorem queued_groups (s : State) (c : CrossingId) (o : Offer) : (s.queued c o).groups = s.groups := by
  unfold State.queued; split <;> rfl

@[simp] theorem queued_callOf (s : State) (c : CrossingId) (o : Offer) :
    (s.queued c o).callOf c = some (s.recordWith c o) := by
  unfold State.queued State.recordWith
  cases h : s.callOf c with
  | none => exact registerCall_callOf o h
  | some q => exact (mergeCall_callOf s c o).trans (by rw [h]; rfl)

theorem queued_alone (s : State) (c : CrossingId) (o : Offer) : AloneAt c s (s.queued c o) := by
  unfold State.queued; split
  · exact ⟨mergeCall_within s o rfl, rfl⟩
  · exact ⟨registerCall_within s o rfl, rfl⟩

theorem queued_counters (s : State) (c : CrossingId) (o : Offer) :
    (s.queued c o).counters.crossings[c] = if (s.callOf c).isSome then s.counters.crossings[c]
      else { s.counters.crossings[c] with callsRegistered := min (s.counters.crossings[c].callsRegistered + 1) 65535 } := by
  unfold State.queued; split
  · rfl
  · exact change_get_self s.counters.crossings c _

/-- A call that may not start, taken into the queue, waits there (R82). -/
theorem intoQueue_waits (h : (s.queued c o).Barred c) : Waits c (s.queued c o) (s.intoQueue c o).2 := by
  rw [intoQueue_eq]; exact evaluate_waits h

/-- What an offer leaves where it enters the queue and no stage can start: the record, its count and the crossing's
progress. -/
structure Enqueued (s t : State) (c : CrossingId) (o : Offer) : Prop where
  call : t.callOf c = some (s.recordWith c o)
  counters : t.counters.crossings[c] = if (s.callOf c).isSome then s.counters.crossings[c]
    else { s.counters.crossings[c] with callsRegistered := min (s.counters.crossings[c].callsRegistered + 1) 65535 }
  state : (t.crossing c).state = (s.crossing c).state
  stage : (t.crossing c).stage = (s.crossing c).stage

theorem intoQueue_enqueued (h : (s.queued c o).Barred c) : Enqueued s (s.intoQueue c o).2 c o := by
  have waits := intoQueue_waits h
  exact ⟨waits.call.trans (queued_callOf s c o), waits.counters.trans (queued_counters s c o),
    waits.state.trans (by rw [queued_crossing]), waits.stage.trans (by rw [queued_crossing])⟩

/-- No stage can start where the green timer has not expired, or the record taken in has a not-before (R53). -/
theorem queued_barred (h : (s.crossing c).greenExpired = false ∨ (s.recordWith c o).notBefore.isSome = true) :
    (s.queued c o).Barred c := by
  rcases h with green | later
  · exact .inl (by rwa [queued_crossing])
  · exact .inr fun q hq => by
      obtain rfl : s.recordWith c o = q := Option.some.inj ((queued_callOf s c o).symm.trans hq)
      exact later

/-! ### Where an offer goes (R50, R52) -/

theorem offer_registers (o : Offer) (service : (s.crossing c).inService = true)
    (registers : (s.crossing c).state.registering = true) : s.offer c o = s.intoQueue c o := by
  simp [State.offer, service, registers]

theorem offer_committed {k : Stage} (o : Offer) (committed : (s.crossing c).inCommittedStage = true)
    (stage : (s.crossing c).stage = some k) : s.offer c o =
      if o.accessible then
        match upgradeOutcome k ((s.crossing c).remaining k) (s.upgradeBarred c) (s.upgradeLimit c) with
        | .already => (.absorbed, s)
        | .fits k' extra remaining => (.upgraded, s.upgradeStage c k' extra remaining)
        | .noFit => if (s.crossing c).inService then s.intoQueue c o else (.discarded, s)
      else (.absorbed, s) := by
  have waiting : (s.crossing c).state.registering = false :=
    Bool.eq_false_iff.2 fun h => by rw [registering_not_committed h] at committed; cases committed
  simp only [State.offer, State.tryUpgrade, committed, stage, waiting, Bool.and_false, Bool.false_eq_true, if_false, if_true] <;> rfl

theorem offer_upgrades {k k' : Stage} {x r : Nat} (accessible : o.accessible = true)
    (committed : (s.crossing c).inCommittedStage = true) (stage : (s.crossing c).stage = some k)
    (fits : upgradeOutcome k ((s.crossing c).remaining k) (s.upgradeBarred c) (s.upgradeLimit c) = .fits k' x r) :
    s.offer c o = (.upgraded, s.upgradeStage c k' x r) := by
  rw [offer_committed o committed stage, if_pos accessible, fits]

/-- A CALL's offer reaches the queue: in a registering state, or accessible at a committed stage whose upgrade does not
fit. -/
theorem offer_taken (service : (s.crossing c).inService = true)
    (h : (s.crossing c).state.registering = true ∨
      (o.accessible = true ∧ (s.crossing c).inCommittedStage = true ∧ ∃ k, (s.crossing c).stage = some k ∧
        upgradeOutcome k ((s.crossing c).remaining k) (s.upgradeBarred c) (s.upgradeLimit c) = .noFit)) :
    s.offer c o = s.intoQueue c o := by
  rcases h with registers | ⟨accessible, committed, k, stage, noFit⟩
  · exact offer_registers o service registers
  · rw [offer_committed o committed stage, if_pos accessible, noFit]
    exact if_pos service

/-! ### The merge (R48) -/

/-- Settles O32: the merge field by field, and its place in the list. -/
theorem offersMergeIntoTheRecord : Obligations.OffersMergeIntoTheRecord := by
  unfold Obligations.OffersMergeIntoTheRecord
  refine ⟨fun r o => ?_, fun s c o q hq => ?_⟩
  · have sooner : (r.merge o).notBefore = mergeNotBefore r.notBefore o.notBefore := rfl
    simp only [CallRecord.merge, Sides.union, Origins.union, Bool.or_eq_true, iff_self, true_and]
    refine ⟨?_, fun a b ha hb => ?_⟩
    · cases r.notBefore <;> cases o.notBefore <;> simp [mergeNotBefore]
    · rw [ha, hb]; rfl
  · refine ⟨_, rfl, ?_, fun r hr other => ?_, by rw [mergeCall_callOf, hq]; rfl⟩
    · rw [List.map_map]
      exact List.map_congr_left fun r _ => by dsimp only [Function.comp]; split <;> rfl
    · exact List.mem_map.2 ⟨r, hr, if_neg other⟩

/-! ### A request answered after its work -/

/-- Steady work on a request at its turn, then its reply: it is answered, and the corridor, the kerb link and the announced
events stay. -/
theorem turn_answered (steady : Steady (s.taking rest) t) (tag : Byte) (content : ReplyContent) :
    Answered s (t.respond tag content).transmit tag content ∧ CorridorKept s (t.respond tag content).transmit ∧
      KerbKept s (t.respond tag content).transmit ∧ (t.respond tag content).transmit.host.requests = rest ∧
      (t.respond tag content).transmit.due = s.due :=
  ⟨answered_respond steady.transmission, Undisturbed.ofTurn steady⟩

/-! ### CALL (R56, R57) -/

theorem readYesNo_of_le {b : Byte} (h : b.toNat ≤ 1) : readYesNo b = some (decide (b = 1)) := by
  have cases : b = 0 ∨ b = 1 := by
    rcases Nat.le_one_iff_eq_zero_or_eq_one.1 h with z | one
    · exact .inl (BitVec.eq_of_toNat_eq z)
    · exact .inr (BitVec.eq_of_toNat_eq one)
  rcases cases with rfl | rfl <;> rfl

section Request

variable {cb ab d1 d0 : Byte} (turn : s.AtTurn fr rest)
include turn

theorem exec_call_frame (kind : fr.isKind 8 = true) : exec .call s = .next (executeCall fr (s.taking rest)).transmit :=
  congrArg Host.Outcome.next (serve_at_turn turn kind executeCall)

/-- A CALL whose fields are in range is taken at its crossing. -/
theorem exec_call (kind : fr.isKind 8 = true) (body : fr.body = [cb, ab, d1, d0]) (named : numbered 8 cb = some c)
    (yes : ab.toNat ≤ 1) : exec .call s =
      .next ((s.taking rest).call fr.tag c (decide (ab = 1)) (d1.toNat * 256 + d0.toNat)).transmit := by
  rw [exec_call_frame turn kind]
  simp only [executeCall, body, named, readYesNo_of_le yes]; rfl

/-- A CALL at a crossing in service is offered there and answered with what came of it. -/
theorem exec_call_offers (kind : fr.isKind 8 = true) (body : fr.body = [cb, ab, d1, d0]) (named : numbered 8 cb = some c)
    (yes : ab.toNat ≤ 1) (service : (s.crossing c).inService = true) {outcome : OfferOutcome} {delay : Nat}
    (applied : delay = min (d1.toNat * 256 + d0.toNat) 600)
    (offered : (s.taking rest).offer c (remoteOffer s.clock.now (decide (ab = 1)) delay) = (outcome, w)) :
    exec .call s = .next (w.respond fr.tag (.done (.call outcome delay (w.callReport c)))).transmit := by
  have called : (s.taking rest).call fr.tag c (decide (ab = 1)) (d1.toNat * 256 + d0.toNat) =
      w.respond fr.tag (.done (.call outcome delay (w.callReport c))) := by
    refine (if_pos service).trans ?_
    rw [← applied]
    exact congrArg (fun r : OfferOutcome × State => r.2.respond fr.tag (.done (.call r.1 delay (r.2.callReport c)))) offered
  rw [exec_call turn kind body named yes, called]

end Request

/-- An upgrade that fits: the crossing takes the new context, and UPGRADES rises. -/
theorem upgradeStage_spec (s : State) (c : CrossingId) (k : Stage) (x r : Nat) :
    (s.upgradeStage c k x r).crossing c = { s.crossing c with
      stage := some k
      timeLeft := if (s.crossing c).state = .walk then (s.crossing c).timeLeft.map (· + x) else (s.crossing c).timeLeft
      accessibleMark := true } ∧
    (s.upgradeStage c k x r).counters.crossings[c] = { s.counters.crossings[c] with
      upgrades := min (s.counters.crossings[c].upgrades + 1) 65535 } ∧
    (s.upgradeStage c k x r).calls = s.calls ∧ (s.upgradeStage c k x r).groups = s.groups := by
  have counted (w : State) : (w.markAccessible c true).counters = w.counters ∧ (w.markAccessible c true).calls = w.calls := by
    unfold State.markAccessible; split <;> exact ⟨rfl, rfl⟩
  unfold State.upgradeStage
  refine ⟨?_, ?_, (counted _).2, markAccessible_groups _ _ _⟩
  · rw [markAccessible_crossing]
    exact congrArg (fun y : Crossing => { y with accessibleMark := true }) (changeCrossing_crossing s c fun y => y.upgrade k x)
  · rw [(counted _).1]
    exact change_get_self s.counters.crossings c _

/-- Settles O30, by the answer the CALL gets. -/
theorem callIsRefusedAbsorbedOrUpgrades : Obligations.CallIsRefusedAbsorbedOrUpgrades := by
  unfold Obligations.CallIsRefusedAbsorbedOrUpgrades
  refine ⟨fun fr rest s cb ab d1 d0 turn kind body => ⟨fun range => ?_, fun c named yes out => ?_,
    fun c k named yes service committed stage plain => ?_⟩,
    fun fr rest s cb d1 d0 c k k' x r turn kind body named service committed stage fits => ?_⟩
  · rw [exec_call_frame turn kind]
    rcases range with unnamed | above
    · simp only [executeCall, body, unnamed]; rfl
    · have unread : readYesNo ab = none := by
        rw [← Option.not_isSome_iff_eq_none, readYesNo_isSome]; omega
      simp only [executeCall, body, unread]; cases numbered 8 cb <;> rfl
  · rw [exec_call turn kind body named yes]
    exact congrArg (fun w : State => Host.Outcome.next w.transmit) (if_neg (by simp [out]))
  · refine exec_call_offers (w := s.taking rest) turn kind body named yes service rfl ?_
    rw [offer_committed (s := s.taking rest) _ committed stage]
    split
    · rename_i accessible
      have marked : k.accessible = true := plain.resolve_left fun zero => by simp [remoteOffer, zero] at accessible
      simp only [upgradeOutcome, marked, if_true]
    · rfl
  · have offered : (s.taking rest).offer c (remoteOffer s.clock.now (decide ((1 : Byte) = 1))
        (min (d1.toNat * 256 + d0.toNat) 600)) = (.upgraded, (s.taking rest).upgradeStage c k' x r) :=
      offer_upgrades rfl committed stage fits
    have steady := upgradeStage_steady (s.taking rest) c k' x r
    obtain ⟨crossing, counters, calls, groups⟩ := upgradeStage_spec (s.taking rest) c k' x r
    obtain ⟨answered, corridor, kerb, requests, agenda⟩ := turn_answered steady fr.tag
      (.done (.call .upgraded (min (d1.toNat * 256 + d0.toNat) 600) ((s.callOf c).map (·.report s.clock.now))))
    have report : ((s.taking rest).upgradeStage c k' x r).callReport c = (s.callOf c).map (·.report s.clock.now) := by
      unfold State.callReport State.callOf; rw [calls, steady.clock]; rfl
    have e := exec_call_offers turn kind body named (by decide) service rfl offered
    rw [report] at e
    refine ⟨_, e, crossing, answered, counters, calls, fun d ne => ?_, groups, corridor, kerb, requests, agenda⟩
    obtain ⟨controller, _, counts⟩ := upgradeStage_within (p := (· = c)) (s.taking rest) k' x r rfl d ne
    exact ⟨controller, counts⟩

end Sys2Proof.Machine
end

section
/-!
Records withdrawn, freed and recalled: CALL_CANCEL (O33), NOT_BEFORE_ARRIVAL and RECALL_TIMER_EXPIRY (O34).
-/

namespace Sys2Proof.Machine

variable {s t w : State} {c : CrossingId} {o : Offer} {call q : CallRecord} {r : Record} {fr : Frame} {rest : List Frame}

/-! ### CALL_CANCEL (R58) -/

theorem recordWith_free (o : Offer) (free : s.callOf c = none) : s.recordWith c o = o.newRecord c s.clock.now := by
  simp only [State.recordWith, free]

theorem recordWith_merged (o : Offer) (found : s.callOf c = some q) : s.recordWith c o = q.merge o := by
  simp only [State.recordWith, found]

theorem removeCall_eq (found : s.callOf c = some q) (reason : RemovalReason) : s.removeCall c reason =
    ({ s with calls := s.calls.filter fun q => decide (q.crossing ≠ c) }.changeCrossing c fun x =>
      { x with waiting := none }).raise
        (.callRemoved c reason q.origins (reportedSince s.clock.now q.registeredAt)) := by
  simp only [State.removeCall, found]

theorem withdrawRemote_callOf (s : State) (c : CrossingId) : (s.withdrawRemote c).callOf c =
    (s.callOf c).map fun q => { q with origins := { q.origins with remote := false } } := find_map_self _ fun _ => rfl

theorem withdrawRemote_alone (s : State) (c : CrossingId) : AloneAt c s (s.withdrawRemote c) :=
  ⟨withCalls_within s fun _ ne => find_map_other _ (fun _ => rfl) ne, rfl⟩

theorem testFailRecall_clear (h : (s.crossing c).failRecall = false) : s.testFailRecall c = s := by
  simp [State.testFailRecall, h]

/-- A CALL_CANCEL that names a crossing is taken there. -/
theorem exec_cancel {cb : Byte} (turn : s.AtTurn fr rest) (kind : fr.isKind 9 = true) (body : fr.body = [cb])
    (named : numbered 8 cb = some c) : exec .callCancel s = .next ((s.taking rest).cancel fr.tag c).transmit := by
  refine congrArg Host.Outcome.next ((serve_at_turn turn kind executeCancel).trans ?_)
  simp only [executeCancel, body, named]

/-- A cancel at a record with REMOTE: kept with its other origins, or removed and fail recall tested. -/
theorem cancel_remote (tag : Byte) (found : s.callOf c = some q) (remote : q.origins.remote = true) : s.cancel tag c =
    if (q.origins.press || q.origins.link || q.origins.recalled) = true then
      (s.withdrawRemote c).done tag (.callCancel ((s.withdrawRemote c).callReport c))
    else (((s.withdrawRemote c).removeCall c .cancelled).testFailRecall c).done tag (.callCancel none) := by
  simp only [State.cancel, found, remote, if_true, Origins.none?, Bool.or_false, Bool.not_eq_true']
  cases q.origins.press || q.origins.link || q.origins.recalled <;> rfl

/-- Settles O33, by the record the request finds. -/
theorem callCancelWithdrawsRemote : Obligations.CallCancelWithdrawsRemote := by
  unfold Obligations.CallCancelWithdrawsRemote
  intro fr rest s cb turn kind body
  refine ⟨fun unnamed => ?_, fun c named => ⟨fun none => ?_, fun r found remote others => ⟨_, rfl, ?_⟩,
    fun r found remote alone working => ?_⟩⟩
  · refine congrArg Host.Outcome.next ((serve_at_turn turn kind executeCancel).trans ?_)
    simp only [executeCancel, body, unnamed]; rfl
  · have refused : (s.taking rest).cancel fr.tag c = (s.taking rest).refuse fr.tag .notApplicable := by
      rcases none with free | ⟨r, found, plain⟩
      · simp only [State.cancel, taking_callOf, free]
      · simp [State.cancel, found, plain]
    rw [exec_cancel turn kind body named, refused]; rfl
  · have report : ((s.taking rest).withdrawRemote c).callReport c =
        some (({ r with origins := { r.origins with remote := false } } : CallRecord).report s.clock.now) := by
      unfold State.callReport
      rw [withdrawRemote_callOf, taking_callOf, found]; rfl
    rw [exec_cancel turn kind body named, cancel_remote (s := s.taking rest) fr.tag found remote, if_pos others, report]
    rfl
  · let u := (s.taking rest).withdrawRemote c
    have held : u.callOf c = some { r with origins := { r.origins with remote := false } } := by
      rw [withdrawRemote_callOf, taking_callOf, found]; rfl
    have crossing : (u.removeCall c .cancelled).crossing c = { s.crossing c with waiting := none } := by
      rw [removeCall_eq held, raise_crossing, changeCrossing_crossing]; rfl
    have cancelled : (s.taking rest).cancel fr.tag c = (u.removeCall c .cancelled).done fr.tag (.callCancel none) := by
      rw [cancel_remote (s := s.taking rest) fr.tag found remote, if_neg (by simp [alone]),
        testFailRecall_clear (by rw [crossing]; exact working)]
    have steady : Steady (s.taking rest) (u.removeCall c .cancelled) :=
      .after (removeCall_steady u c _) (withCalls_steady _ _)
    have within := ((withdrawRemote_alone (s.taking rest) c).trans (removeCall_alone u c .cancelled)).within
    obtain ⟨answered, corridor, kerb, requests, _⟩ := turn_answered steady fr.tag (.done (.callCancel none))
    have e := exec_cancel turn kind body named
    rw [cancelled] at e
    refine ⟨_, e, removeCall_callOf u c _, fun d ne => ?_, crossing, answered, removeCall_groups u c _, ?_, corridor, kerb, ?_, requests⟩
    · obtain ⟨controller, own, _⟩ := within d ne
      exact ⟨own, controller⟩
    · change (u.removeCall c .cancelled).units = s.units
      rw [removeCall_eq held]; rfl
    · change (u.removeCall c .cancelled).counters.crossings = s.counters.crossings
      rw [removeCall_eq held]; rfl

/-! ### A not-before that has come (R49) -/

/-- The not-before of a crossing's record taken away. -/
def State.freed (s : State) (c : CrossingId) : State :=
  { s with calls := s.calls.map fun (q : CallRecord) => if q.crossing = c then { q with notBefore := none } else q }

theorem freed_callOf (s : State) (c : CrossingId) :
    (s.freed c).callOf c = (s.callOf c).map fun q => { q with notBefore := none } := find_map_self _ fun _ => rfl

theorem freed_alone (s : State) (c : CrossingId) : AloneAt c s (s.freed c) :=
  ⟨withCalls_within s fun _ ne => find_map_other _ (fun _ => rfl) ne, rfl⟩

theorem arriveNotBefore_eq {n : Time} (found : s.callOf c = some q) (later : q.notBefore = some n)
    (come : reached s.clock.now n = true) : s.arriveNotBefore c = (s.freed c).evaluate c := by
  simp only [State.arriveNotBefore, found, Option.bind_some, later, come, if_true]; rfl

/-! ### The recall timer (R118) -/

/-- An offer that is not accessible leaves no record at a crossing out of service or in no registering state (R50). -/
theorem offer_passed (plain : o.accessible = false)
    (h : (s.crossing c).inService = false ∨ (s.crossing c).state.registering = false) : (s.offer c o).2 = s := by
  have closed : ((s.crossing c).inService && (s.crossing c).state.registering) = false := by
    rcases h with h | h <;> simp [h]
  simp only [State.offer, closed, plain, Bool.false_eq_true, if_false]
  split <;> rfl

theorem expireRecall_eq {n : Time} (timer : (s.crossing c).recallTimer = some n) (come : reached s.clock.now n = true) :
    s.expireRecall c = ((s.changeCrossing c fun x => { x with recallTimer := none }).offer c recallOffer).2 := by
  simp only [State.expireRecall, timer, come, if_true]

/-- Settles O34. -/
theorem notBeforeAndRecallReachTheQueue : Obligations.NotBeforeAndRecallReachTheQueue := by
  unfold Obligations.NotBeforeAndRecallReachTheQueue
  refine ⟨fun s c r n due found later come green => ?_, fun s c n due timer come => ?_⟩
  · let u := (s.without (.notBefore c)).freed c
    have barred : u.Barred c := .inl green
    have e : exec (.notBeforeArrival c) s = .next (u.evaluate c).transmit := by
      refine congrArg Host.Outcome.next ((take_due due (State.arriveNotBefore c)).trans ?_)
      rw [arriveNotBefore_eq (s := s.without (.notBefore c)) found later come]
    have waits := evaluate_waits barred
    have others := ((freed_alone (s.without (.notBefore c)) c).trans (evaluate_barred_alone barred)).othersKept
    obtain ⟨corridor, kerb, port, agenda⟩ := Undisturbed.ofDue (d := .notBefore c)
      (.after (evaluate_steady u c) (withCalls_steady (s.without (.notBefore c)) _))
    refine ⟨_, e, waits.call.trans ?_, waits.state, waits.stage, others, corridor, kerb, port, agenda⟩
    rw [freed_callOf, without_callOf, found]; rfl
  · let u := (s.without (.recallExpiry c)).changeCrossing c fun x => { x with recallTimer := none }
    have own : u.crossing c = { s.crossing c with recallTimer := none } := changeCrossing_crossing _ c _
    have e : exec (.recallTimerExpiry c) s = .next (u.offer c recallOffer).2.transmit := by
      refine congrArg Host.Outcome.next ((take_due due (State.expireRecall c)).trans ?_)
      rw [expireRecall_eq (s := s.without (.recallExpiry c)) timer come]
    refine ⟨fun closed => e.trans ?_, fun service registers free green => ?_⟩
    · rw [offer_passed rfl (by rw [own]; exact closed)]
    · have green' : (u.crossing c).greenExpired = false := by rw [own]; exact green
      have free' : u.callOf c = none := free
      rw [offer_registers _ (by rw [own]; exact service) (by rw [own]; exact registers)] at e
      obtain ⟨call, counters, state, _⟩ := intoQueue_enqueued (o := recallOffer) (queued_barred (.inl green'))
      obtain ⟨reaches, _, _, crossing⟩ := intoQueue_barred recallOffer green'
      obtain ⟨corridor, kerb, port, _⟩ := Undisturbed.ofDue (d := .recallExpiry c)
        (.after (intoQueue_steady u c recallOffer) (changeCrossing_steady (s.without (.recallExpiry c)) c fun _ => rfl))
      refine ⟨_, e, ?_, ?_, ?_, ?_, (reaches.after (changeCrossing_alone _ c _)).othersKept, corridor, kerb, port⟩
      · exact (congrArg Crossing.recallTimer crossing).trans (by rw [own])
      · rw [recordWith_free _ free'] at call; exact call
      · rw [free'] at counters; exact congrArg CrossingCounters.callsRegistered counters
      · exact state.trans (by rw [own])

end Sys2Proof.Machine
end

section
/-!
Calls that may be served, with the hold clear: how an evaluation admits one or leaves it waiting, and CALL at an expired
green timer (O31).
-/

namespace Sys2Proof.Machine

variable {s t w : State} {c d : CrossingId} {g : GroupId} {o : Offer} {call q : CallRecord} {r : Record} {fr : Frame}
  {rest : List Frame}

/-! ### Admission and waiting, entry by entry -/

theorem removeCall_counts (s : State) (c : CrossingId) (x : RemovalReason) :
    (s.removeCall c x).counters.crossings = s.counters.crossings := by
  unfold State.removeCall; split <;> rfl

theorem markAccessible_counters (s : State) (c : CrossingId) (b : Bool) : (s.markAccessible c b).counters = s.counters := by
  unfold State.markAccessible; split <;> rfl

theorem raiseTruncated_counts (s : State) (c : CrossingId) (k : Stage) (cut : Option Cut) :
    (s.raiseTruncated c k cut).counters.crossings = s.counters.crossings := by cases cut <;> rfl

theorem admitCall_counters (s : State) (c : CrossingId) (call : CallRecord) (r : Record) (a : Admission) :
    (s.admitCall c call r a).counters.crossings[c] =
      (s.counters.crossings[c]).admitted (newStage s.clock.now call r a) := by
  unfold State.admitCall
  simp only [raiseTruncated_counts]
  refine (change_get_self _ c _).trans ?_
  rw [markAccessible_counters]
  exact congrArg (fun v : Vector CrossingCounters 8 => (v[c]).admitted _) (removeCall_counts s c _)

theorem admitCall_green (s : State) (c : CrossingId) (call : CallRecord) (r : Record) (a : Admission) :
    ((s.admitCall c call r a).crossing c).green = none := by
  simp [State.admitCall, Crossing.admitStage, Crossing.enter]

/-- A change of an entry that does no more the second time. -/
theorem change_change {α : Type} {n : Nat} (v : Vector α n) (i : Fin n) {f : α → α} (h : ∀ a, f (f a) = f a) :
    change (change v i f) i f = change v i f :=
  Vector.ext fun j hj => by
    have twice := change_get (change v i f) i ⟨j, hj⟩ f
    have once := change_get v i ⟨j, hj⟩ f
    simp only at twice once
    rw [twice, once]
    split
    · exact h _
    · rfl

theorem await_await (s : State) (c : CrossingId) (x : Route) (y : WaitReason) :
    (s.await c x y).await c x y = s.await c x y :=
  congrArg (fun v => ({ s with crossings := v } : State)) (change_change s.crossings c fun _ => rfl)

/-! ### A call's turn in its group (R88) -/

theorem withinHold_clear (clear : s.clock.hold = false) (n : Nat) : s.withinHold n = true := by
  simp [State.withinHold, State.holdLimit, clear]

theorem ineligible_none (nb : call.notBefore = none) (green : (s.crossing c).greenExpired = true) :
    ineligible (s.crossing c) call = none := by simp [ineligible, nb, green]

theorem groupTurn_eq (found : s.callOf c = some call) (record : (s.crossing c).record = some r)
    (route : routeOf s.clock.mode r = .group g) : s.groupTurn g c = State.considerInGroup g s c call r := by
  simp only [State.groupTurn, found, record, route, if_true]

/-- A crossing without a call, or with no record that names the group, has no turn. -/
theorem groupTurn_none (h : s.callOf c = none ∨ ∀ r, (s.crossing c).record = some r → routeOf s.clock.mode r ≠ .group g) :
    s.groupTurn g c = s := by
  unfold State.groupTurn
  split
  · rename_i found record
    rcases h with free | other
    · rw [free] at found; cases found
    · exact if_neg (other _ record)
  · rfl

theorem considerInGroup_starts (r : Record) {st : GroupStart} (eligible : ineligible (s.crossing c) call = none)
    (may : (s.group g).mayStart s.clock.now = some st) (clear : s.clock.hold = false) :
    State.considerInGroup g s c call r = (s.changeGroup g fun q => q.started s.clock.now st).admitCall c call r
      (freeAdmission r call.accessible (.group g) (some st)) := by
  simp only [State.considerInGroup, eligible, may, withinHold_clear clear, if_true]

theorem considerInGroup_waits (r : Record) (eligible : ineligible (s.crossing c) call = none)
    (may : (s.group g).mayStart s.clock.now = none) :
    State.considerInGroup g s c call r = s.await c (.group g) (s.group g).reason := by
  simp only [State.considerInGroup, eligible, may]

/-- A group evaluation where one crossing's calls alone wait is that crossing's turn. -/
theorem evaluateGroup_own (own : ∀ q ∈ s.calls, q.crossing = c) (found : s.callOf c = some call)
    (again : (s.groupTurn g c).groupTurn g c = s.groupTurn g c) : s.evaluateGroup g = s.groupTurn g c := by
  have turns (n : Nat) : (List.replicate n c).foldl (State.groupTurn g) (s.groupTurn g c) = s.groupTurn g c := by
    induction n with
    | zero => rfl
    | succ n ih => rw [List.replicate_succ, List.foldl_cons, again, ih]
  have all : s.calls.map (·.crossing) = List.replicate s.calls.length c :=
    List.eq_replicate_iff.2 ⟨List.length_map _, fun d hd => by
      obtain ⟨q, hq, rfl⟩ := List.mem_map.1 hd
      exact own q hq⟩
  obtain ⟨n, hn⟩ : ∃ n, s.calls.length = n + 1 :=
    Nat.exists_eq_add_one_of_ne_zero fun z => by
      rw [State.callOf, List.length_eq_zero_iff.1 z] at found; cases found
  rw [State.evaluateGroup, all, hn, List.replicate_succ, List.foldl_cons, turns]

/-! ### The evaluation of a call that may be served (R82) -/

/-- The state with the group's counts moved on, where the admission is a group's (R88). -/
def State.beginning (s : State) (a : Admission) : State :=
  match a.route, a.start with
  | .group g, some st => s.changeGroup g fun q => q.started s.clock.now st
  | _, _ => s

/-- What the evaluation of a crossing's call stands on: the call and the record, and nothing in the way of the call. -/
structure MayBeServed (s : State) (c : CrossingId) (call : CallRecord) (r : Record) : Prop where
  found : s.callOf c = some call
  record : (s.crossing c).record = some r
  eligible : ineligible (s.crossing c) call = none
  clear : s.clock.hold = false

theorem evaluate_served (h : MayBeServed s c call r) : s.evaluate c = s.evaluateOn c call r (routeOf s.clock.mode r) := by
  simp only [State.evaluate, h.found, h.record, h.eligible]

theorem groupTurn_starts (h : MayBeServed s c call r) (route : routeOf s.clock.mode r = .group g) {st : GroupStart}
    (may : (s.group g).mayStart s.clock.now = some st) :
    s.groupTurn g c = (s.changeGroup g fun q => q.started s.clock.now st).admitCall c call r
      (freeAdmission r call.accessible (.group g) (some st)) := by
  rw [groupTurn_eq h.found h.record route, considerInGroup_starts r h.eligible may h.clear]

theorem groupTurn_waits (h : MayBeServed s c call r) (route : routeOf s.clock.mode r = .group g)
    (may : (s.group g).mayStart s.clock.now = none) : s.groupTurn g c = s.await c (.group g) (s.group g).reason := by
  rw [groupTurn_eq h.found h.record route, considerInGroup_waits r h.eligible may]

/-- The bounds of the BAND route under the clock's cycle. -/
theorem evaluateBand_eq (clear : s.clock.hold = false) {y : Nat} (cycle : s.clock.cycle = some y) (c : CrossingId)
    (call : CallRecord) (r : Record) : s.evaluateBand c call r =
      match bandOutcome r call.accessible y (s.localUnder r y) none with
      | .start walk cut => s.admitCall c call r { route := .band, start := none, walk := walk, cut := cut }
      | .wait reason => s.await c .band reason := by
  have length : s.clock.cycle.getD 0 = y := by simp [cycle]
  have held : s.holdLimit = none := by simp [State.holdLimit, clear]
  simp only [State.evaluateBand, length, held, State.localTimeOf]; rfl

/-- A call that starts a stage is admitted on its route. -/
theorem evaluate_starts (h : MayBeServed s c call r) {a : Admission} (starts : s.StartsAs c call.accessible r a) :
    s.evaluate c = (s.beginning a).admitCall c call r a := by
  rw [evaluate_served h]
  rcases starts with ⟨route, rfl⟩ | ⟨g, st, route, own, may, rfl⟩ | ⟨route, y, cycle, out, fits⟩
  · rw [route]
    exact if_pos (withinHold_clear h.clear _)
  · rw [route]
    have turn := groupTurn_starts h route may
    have admitted := admitCall_callOf (s.changeGroup g fun q => q.started s.clock.now st) c call r
      (freeAdmission r call.accessible (.group g) (some st))
    refine (evaluateGroup_own own h.found ?_).trans turn
    rw [turn]
    exact groupTurn_none (.inl admitted)
  · rw [route]
    refine (evaluateBand_eq h.clear cycle c call r).trans ?_
    rw [bandOutcome_clear, if_neg (Nat.not_lt.2 out)]
    rcases fits with ⟨whole, rfl⟩ | ⟨short, least, rfl⟩
    · rw [if_pos (show _ ≤ gapFrom r y (s.localUnder r y) from whole)]; rfl
    · rw [if_neg (Nat.not_le.2 (show gapFrom r y (s.localUnder r y) < _ from short)),
        if_pos (show _ ≤ gapFrom r y (s.localUnder r y) from least)]; rfl

/-- A call that starts none waits on its route. -/
theorem evaluate_awaits (h : MayBeServed s c call r) {route : Route} {x : WaitReason}
    (awaits : s.WaitsFor c call.accessible r route x) : s.evaluate c = s.await c route x := by
  rw [evaluate_served h]
  rcases awaits with ⟨g, rfl, on, own, may, rfl⟩ | ⟨rfl, on, y, cycle, band⟩
  · rw [on]
    have turn := groupTurn_waits h on may
    refine (evaluateGroup_own own h.found ?_).trans turn
    have served : MayBeServed (s.await c (.group g) (s.group g).reason) c call r :=
      ⟨h.found, by rw [await_crossing]; exact h.record, by rw [await_crossing]; exact h.eligible, h.clear⟩
    rw [turn, groupTurn_waits served on may]
    exact await_await s c _ _
  · rw [on]
    refine (evaluateBand_eq h.clear cycle c call r).trans ?_
    rw [bandOutcome_clear]
    rcases band with ⟨inside, rfl⟩ | ⟨out, short, least, rfl⟩
    · rw [if_pos inside]
    · rw [if_neg (Nat.not_lt.2 out), if_neg (Nat.not_le.2 (show gapFrom r y (s.localUnder r y) < _ from short)),
        if_neg (Nat.not_le.2 (show gapFrom r y (s.localUnder r y) < _ from least))]

end Sys2Proof.Machine
end

section
/-!
CALL at a crossing whose queue takes it (O31).
-/

namespace Sys2Proof.Machine

variable {s t w : State} {c : CrossingId} {o : Offer} {call q : CallRecord} {r : Record} {fr : Frame} {rest : List Frame}

/-! ### The offer of a CALL -/

theorem merge_remoteOffer (q : CallRecord) (now : Time) (x : Bool) (delay : Nat) :
    q.merge (remoteOffer now x delay) = { q with
      origins := { q.origins with remote := true }
      accessible := q.accessible || x
      pressCount := min q.pressCount 255
      notBefore := mergeNotBefore q.notBefore (notBeforeOf now delay) } := by
  simp [CallRecord.merge, remoteOffer, Sides.union, Origins.union]

theorem mergeNotBefore_none (n : Option Time) : mergeNotBefore n none = none := by cases n <;> rfl

theorem notBeforeOf_isSome (now : Time) {delay : Nat} (h : 0 < delay) : (notBeforeOf now delay).isSome = true := by
  simp [notBeforeOf, h.ne']

/-! ### The queue taken for its evaluation -/

theorem queued_own (own : ∀ q ∈ s.calls, q.crossing = c) (o : Offer) : ∀ q ∈ (s.queued c o).calls, q.crossing = c := by
  unfold State.queued; split
  · intro q hq
    obtain ⟨p, hp, rfl⟩ := List.mem_map.1 hq
    rw [if_pos (own p hp)]; exact own p hp
  · intro q hq
    rcases List.mem_append.1 hq with hq | hq
    · exact own q hq
    · rw [List.mem_singleton.1 hq]; rfl

theorem queued_group (s : State) (c : CrossingId) (o : Offer) (g : GroupId) : (s.queued c o).group g = s.group g := by
  unfold State.group; rw [queued_groups]

theorem startsAs_queued {x : Bool} {a : Admission} (o : Offer) (h : s.StartsAs c x r a) : (s.queued c o).StartsAs c x r a := by
  unfold State.StartsAs State.localUnder at h ⊢
  simp only [queued_clock, queued_group]
  rcases h with direct | ⟨g, st, route, own, may, e⟩ | band
  · exact .inl direct
  · exact .inr (.inl ⟨g, st, route, queued_own own o, may, e⟩)
  · exact .inr (.inr band)

theorem waitsFor_queued {x : Bool} {route : Route} {y : WaitReason} (o : Offer) (h : s.WaitsFor c x r route y) :
    (s.queued c o).WaitsFor c x r route y := by
  unfold State.WaitsFor State.localUnder at h ⊢
  simp only [queued_clock, queued_group]
  rcases h with ⟨g, e, on, own, may, reason⟩ | band
  · exact .inl ⟨g, e, on, queued_own own o, may, reason⟩
  · exact .inr band

theorem queued_served (record : (s.crossing c).record = some r) (green : (s.crossing c).greenExpired = true)
    (clear : s.clock.hold = false) (nb : (s.recordWith c o).notBefore = none) :
    MayBeServed (s.queued c o) c (s.recordWith c o) r where
  found := queued_callOf s c o
  record := by rw [queued_crossing]; exact record
  eligible := by rw [queued_crossing]; exact ineligible_none nb green
  clear := by rw [queued_clock]; exact clear

theorem beginning_keeps (s : State) (a : Admission) : (s.beginning a).clock = s.clock ∧
    (s.beginning a).counters = s.counters := by
  unfold State.beginning; split <;> exact ⟨rfl, rfl⟩

/-- An offer whose stage starts at once: the record has passed into the context. -/
theorem intoQueue_starts (served : MayBeServed (s.queued c o) c call r) {a : Admission}
    (starts : s.StartsAs c call.accessible r a) :
    let t := (s.intoQueue c o).2
    (t.crossing c).state = .vehAmber ∧ (t.crossing c).timeLeft = some r.amber ∧
      (t.crossing c).stage = some (newStage s.clock.now call r a) ∧ (t.crossing c).green = none ∧ t.callOf c = none ∧
      t.counters.crossings[c].stages = min (s.counters.crossings[c].stages + 1) 65535 ∧
      t.counters.crossings[c].callsRegistered = (s.queued c o).counters.crossings[c].callsRegistered := by
  let u := (s.queued c o).beginning a
  obtain ⟨clock, counts⟩ := beginning_keeps (s.queued c o) a
  have now : u.clock.now = s.clock.now := by rw [clock, queued_clock]
  have e : (s.intoQueue c o).2 = u.admitCall c call r a := by
    rw [intoQueue_eq]; exact evaluate_starts served (startsAs_queued o starts)
  have counters : (u.admitCall c call r a).counters.crossings[c] =
      ((s.queued c o).counters.crossings[c]).admitted (newStage u.clock.now call r a) := by
    rw [admitCall_counters, counts]
  have before : (s.queued c o).counters.crossings[c].stages = s.counters.crossings[c].stages := by
    rw [queued_counters]; split <;> rfl
  obtain ⟨stage, state, left⟩ := admitCall_crossing u c call r a
  intro t
  rw [show t = u.admitCall c call r a from e, counters]
  refine ⟨state, left, now ▸ stage, admitCall_green u c call r a, admitCall_callOf u c call r a, ?_, rfl⟩
  exact congrArg (fun n => min (n + 1) 65535) before

/-- An offer whose stage may not start now: the record waits on its route with its reason. -/
theorem intoQueue_awaits (served : MayBeServed (s.queued c o) c call r) {route : Route} {x : WaitReason}
    (awaits : s.WaitsFor c call.accessible r route x) : (s.intoQueue c o).2 = (s.queued c o).await c route x := by
  rw [intoQueue_eq]; exact evaluate_awaits served (waitsFor_queued o awaits)

/-! ### The request -/

section Request

variable {cb ab d1 d0 : Byte} {delay : Nat} (turn : s.AtTurn fr rest) (kind : fr.isKind 8 = true)
  (body : fr.body = [cb, ab, d1, d0]) (named : numbered 8 cb = some c) (yes : ab.toNat ≤ 1)
  (service : (s.crossing c).inService = true)
include turn kind body named yes service

/-- A CALL whose offer the queue takes: what follows is the answer, and what the work leaves of the rest. -/
theorem exec_call_taken (applied : delay = min (d1.toNat * 256 + d0.toNat) 600)
    (taken : (s.crossing c).state.registering = true ∨
      (ab = 1 ∧ (s.crossing c).inCommittedStage = true ∧ ∃ k, (s.crossing c).stage = some k ∧
        upgradeOutcome k ((s.crossing c).remaining k) (s.upgradeBarred c) (s.upgradeLimit c) = .noFit)) :
    let t := ((s.taking rest).intoQueue c (remoteOffer s.clock.now (decide (ab = 1)) delay)).2
    let reply := ReplyContent.done (.call (s.queuedAs c) delay ((t.callOf c).map (·.report s.clock.now)))
    exec .call s = .next (t.respond fr.tag reply).transmit ∧ OthersKept s (t.respond fr.tag reply).transmit c ∧
      Answered s (t.respond fr.tag reply).transmit fr.tag reply ∧ CorridorKept s (t.respond fr.tag reply).transmit ∧
      KerbKept s (t.respond fr.tag reply).transmit ∧ (t.respond fr.tag reply).transmit.host.requests = rest ∧
      (t.respond fr.tag reply).transmit.due = s.due := by
  intro t reply
  let o := remoteOffer s.clock.now (decide (ab = 1)) delay
  have steady : Steady (s.taking rest) t := intoQueue_steady (s.taking rest) c o
  have offered : (s.taking rest).offer c o = (s.queuedAs c, t) := by
    refine (offer_taken (s := s.taking rest) service ?_).trans (Prod.ext (by rw [intoQueue_eq]; rfl) rfl)
    exact taken.imp_right fun ⟨one, at_stage⟩ => ⟨decide_eq_true one, at_stage⟩
  have report : t.callReport c = (t.callOf c).map (·.report s.clock.now) := by
    unfold State.callReport; rw [steady.clock]; rfl
  have e := exec_call_offers turn kind body named yes service applied offered
  rw [report] at e
  have within := intoQueue_within (s.taking rest) o (company_covers (s.taking rest) c)
  exact ⟨e, Within.othersKept (s := s) within, turn_answered steady fr.tag reply⟩

end Request

/-- What the record taken in holds where the crossing had none (R47). -/
theorem recordWith_remote_free (free : s.callOf c = none) (x : Bool) (delay : Nat) :
    s.recordWith c (remoteOffer s.clock.now x delay) =
      { crossing := c, registeredAt := s.clock.now, sides := {}, origins := { remote := true }, accessible := x,
        pressCount := 0, notBefore := notBeforeOf s.clock.now delay } := recordWith_free _ free

theorem recordWith_remote_merged (found : s.callOf c = some q) (x : Bool) (delay : Nat) :
    s.recordWith c (remoteOffer s.clock.now x delay) = { q with
      origins := { q.origins with remote := true }
      accessible := q.accessible || x
      pressCount := min q.pressCount 255
      notBefore := mergeNotBefore q.notBefore (notBeforeOf s.clock.now delay) } := by
  rw [recordWith_merged _ found, merge_remoteOffer]

/-- Settles O31: the record registered or merged where no stage can start, and the call decided at once where one can. -/
theorem callRegistersOrMerges : Obligations.CallRegistersOrMerges := by
  unfold Obligations.CallRegistersOrMerges
  refine ⟨fun fr rest s cb ab d1 d0 c delay turn kind body named yes service taken applied => ?_,
    fun fr rest s cb ab c r turn kind body named yes service green clear record => ?_⟩
  · intro nb
    obtain ⟨e, others, answered, corridor, kerb, requests, agenda⟩ :=
      exec_call_taken turn kind body named yes service applied taken
    let o := remoteOffer s.clock.now (decide (ab = 1)) delay
    refine ⟨fun free bar => ?_, fun q found bar => ?_⟩
    · have as : s.queuedAs c = .registered := by simp [State.queuedAs, free]
      obtain ⟨call, counters, state, stage⟩ := intoQueue_enqueued (s := s.taking rest) (c := c) (o := o) (queued_barred (by
        refine bar.imp id fun later => ?_
        rw [recordWith_free o (by exact free)]; exact notBeforeOf_isSome _ later))
      rw [as] at e others answered corridor kerb requests agenda
      refine ⟨_, e, ?_, answered, ?_, state, stage, others, corridor, kerb, requests, agenda⟩
      · exact call.trans (congrArg some (recordWith_remote_free (s := s.taking rest) free _ _))
      · rw [taking_callOf, free] at counters; exact congrArg CrossingCounters.callsRegistered counters
    · have as : s.queuedAs c = .merged := by simp [State.queuedAs, found]
      have merged := recordWith_remote_merged (s := s.taking rest) found (decide (ab = 1)) delay
      obtain ⟨call, counters, state, stage⟩ := intoQueue_enqueued (s := s.taking rest) (c := c) (o := o) (queued_barred (by
        refine bar.imp id fun ⟨later, held⟩ => ?_
        obtain ⟨n, hn⟩ := Option.isSome_iff_exists.1 held
        obtain ⟨m, hm⟩ := Option.isSome_iff_exists.1 (notBeforeOf_isSome s.clock.now later)
        change ((s.taking rest).recordWith c (remoteOffer (s.taking rest).clock.now (decide (ab = 1)) delay)).notBefore.isSome = true
        rw [merged]
        change (mergeNotBefore q.notBefore (notBeforeOf s.clock.now delay)).isSome = true
        rw [hn, hm]; rfl))
      rw [as] at e others answered corridor kerb requests agenda
      refine ⟨_, e, ?_, answered, ?_, state, stage, others, corridor, kerb, requests, agenda⟩
      · exact call.trans (congrArg some merged)
      · rw [taking_callOf, found] at counters; exact counters
  · intro call outcome registered
    let o := remoteOffer s.clock.now (decide (ab = 1)) 0
    have known : call = (s.taking rest).recordWith c o := by
      cases h : s.callOf c with
      | none => simp only [call, h]; exact (recordWith_remote_free (s := s.taking rest) h (decide (ab = 1)) 0).symm
      | some q =>
        simp only [call, h]
        refine Eq.trans ?_ (recordWith_remote_merged (s := s.taking rest) h _ _).symm
        rw [show notBeforeOf _ 0 = none from rfl, mergeNotBefore_none]
    have counted : registered = ((s.taking rest).queued c o).counters.crossings[c].callsRegistered := by
      rw [queued_counters]
      by_cases found : (s.callOf c).isSome = true <;> simp [registered, found]
    have nb : call.notBefore = none := by
      simp only [call]; split <;> rfl
    have served : MayBeServed ((s.taking rest).queued c o) c call r :=
      known ▸ queued_served (s := s.taking rest) record green clear (known ▸ nb)
    have registers : (s.crossing c).state.registering = true := by
      have green' := green
      simp only [Crossing.greenExpired, Bool.and_eq_true, decide_eq_true_eq] at green'
      rw [green'.1]; rfl
    obtain ⟨e, others, answered, corridor, kerb, requests, agenda⟩ :=
      exec_call_taken turn kind body named yes service (delay := 0) (by simp) (.inl registers)
    refine ⟨fun a starts => ?_, fun route x awaits => ?_⟩
    · obtain ⟨state, left, stage, off, gone, stages, calls⟩ := intoQueue_starts served starts
      rw [gone] at e others answered corridor kerb requests agenda
      exact ⟨_, e, state, left, stage, off, gone, answered, stages, calls.trans counted.symm, others, corridor, kerb, requests,
        agenda⟩
    · have waiting := intoQueue_awaits served awaits
      have held : ((s.taking rest).intoQueue c o).2.callOf c = some call := by rw [waiting]; exact served.found
      rw [held] at e others answered corridor kerb requests agenda
      refine ⟨_, e, held, ?_, answered, ?_, ?_, others, corridor, kerb, requests, agenda⟩
      · refine (congrArg (fun w : State => w.crossing c) waiting).trans ?_
        rw [await_crossing, queued_crossing]; rfl
      · exact (congrArg (fun w : State => w.counters.crossings[c].callsRegistered) waiting).trans counted.symm
      · exact (congrArg State.groups waiting).trans (queued_groups _ _ _)

end Sys2Proof.Machine
end

section
/-!
CROSSING CONTROL: SERVICE_OFF, DARK and RESTORE (O41).
-/

namespace Sys2Proof.Machine

variable {s t w : State} {c : CrossingId} {fr : Frame} {rest : List Frame} {tg : Target} {cause : Cause}

/-! ### Entries and pending changes, in service or out of it -/

theorem removeCall_units (s : State) (c : CrossingId) (r : RemovalReason) : (s.removeCall c r).units = s.units := by
  unfold State.removeCall; split <;> rfl

theorem loseService_units (s : State) (c : CrossingId) : (s.loseService c).units = s.units := removeCall_units s c _

/-- A crossing that may lose its service keeps all but its waiting reason and its recall timer, and where it was in service
it has no call and no recall timer after. -/
theorem loseWhere_spec (s : State) (c : CrossingId) (b : Bool) :
    (if b = true then s.loseService c else s).units = s.units ∧
    ∃ w n, (if b = true then s.loseService c else s).crossing c = { s.crossing c with waiting := w, recallTimer := n } ∧
      (b = true → (if b = true then s.loseService c else s).callOf c = none ∧ n = none) := by
  cases b with
  | false => exact ⟨rfl, _, _, rfl, nofun⟩
  | true =>
    obtain ⟨w, e⟩ := loseService_crossing s c
    exact ⟨loseService_units s c, w, none, e, fun _ => ⟨loseService_callOf s c, rfl⟩⟩

/-- A crossing that has entered a state out of service without an interval. -/
structure Untimed (x : Crossing) (s : State) (c : CrossingId) (st : CrossingState) : Prop where
  entered : ∃ w n, s.crossing c = { x.enter st none with pendingChange := none, waiting := w, recallTimer := n }
  lost : x.inService = true → s.callOf c = none ∧ (s.crossing c).recallTimer = none

theorem enterUntimed_untimed (s : State) (c : CrossingId) (st : CrossingState) (cause : Cause) :
    Untimed (s.crossing c) (s.enterUntimed c st cause) c st ∧ (s.enterUntimed c st cause).units = s.units := by
  obtain ⟨units, w, n, crossing, lost⟩ :=
    loseWhere_spec (s.changeCrossing c fun x => { x.enter st none with pendingChange := none }) c (s.crossing c).inService
  have own : (s.enterUntimed c st cause).crossing c =
      { (s.crossing c).enter st none with pendingChange := none, waiting := w, recallTimer := n } :=
    crossing.trans (by rw [changeCrossing_crossing])
  refine ⟨⟨⟨w, n, own⟩, fun service => ⟨(lost service).1, ?_⟩⟩, units⟩
  rw [own]; exact (lost service).2

/-- A crossing whose change has become pending, with its closing amber begun where it stood in VEH_GREEN. -/
structure Pends (x : Crossing) (s : State) (c : CrossingId) (tg : Target) (cause : Cause) : Prop where
  held : ∃ w n, s.crossing c =
    (if x.state = .vehGreen then
      { x with pendingChange := some { target := tg, cause := cause }, waiting := w, recallTimer := n }.beginClosing
    else { x with pendingChange := some { target := tg, cause := cause }, waiting := w, recallTimer := n })
  lost : x.inService = true → s.callOf c = none ∧ (s.crossing c).recallTimer = none

theorem setPending_pends (cause : Cause) (outranked : (s.crossing c).outrankedBy tg = true) :
    Pends (s.crossing c) (s.setPending c tg cause) c tg cause ∧ (s.setPending c tg cause).units = s.units := by
  obtain ⟨units, w, n, crossing, lost⟩ :=
    loseWhere_spec (s.changeCrossing c fun x => { x with pendingChange := some { target := tg, cause := cause } }) c
      (s.crossing c).inService
  rw [changeCrossing_crossing] at crossing
  unfold State.setPending; dsimp only; rw [if_pos outranked]
  generalize (if (s.crossing c).inService = true then State.loseService _ c else _) = u at units crossing lost ⊢
  split
  · rename_i green
    have own : ((u.reportState c cause).changeCrossing c Crossing.beginClosing).crossing c = (u.crossing c).beginClosing :=
      changeCrossing_crossing _ c _
    refine ⟨⟨⟨w, n, ?_⟩, fun service => ⟨(lost service).1, ?_⟩⟩, units⟩
    · rw [if_pos green, ← crossing]; exact own
    · exact (congrArg Crossing.recallTimer own).trans (by rw [crossing]; exact (lost service).2)
  · rename_i other
    refine ⟨⟨⟨w, n, ?_⟩, fun service => ⟨(lost service).1, ?_⟩⟩, units⟩
    · rw [if_neg other]; exact crossing
    · exact (congrArg Crossing.recallTimer crossing).trans (lost service).2

/-! ### The table of R115 -/

theorem outrankedBy_iff {x : Crossing} : x.outrankedBy tg = true ↔ ∀ p, x.pendingChange = some p → p.target.rank < tg.rank := by
  unfold Crossing.outrankedBy
  cases x.pendingChange <;> simp

/-- An action other than RESTORE is taken at once in the start-up, and DARK also where the crossing only flashes. -/
theorem controlVerdict_atOnce {a : ControlAction} {x : Crossing} (sets : a ≠ .restore)
    (h : x.state = .startupFlash ∨ x.state = .startupRed ∨ (a.target = .dark ∧ (x.state = .cmdFlash ∨ x.state = .faultFlash))) :
    controlVerdict a x = .enterAtOnce := by
  unfold controlVerdict
  cases a with
  | restore => exact absurd rfl sets
  | serviceOff => rcases h with e | e | ⟨dark, _⟩ <;> [simp [e]; simp [e]; cases dark]
  | dark => rcases h with e | e | ⟨_, e | e⟩ <;> simp [e]

theorem controlVerdict_green {a : ControlAction} {x : Crossing} (sets : a ≠ .restore) (h : x.state = .vehGreen) :
    controlVerdict a x = .pend := by
  unfold controlVerdict
  cases a with
  | restore => exact absurd rfl sets
  | serviceOff | dark => simp [h]

theorem controlVerdict_stage {a : ControlAction} {x : Crossing} (sets : a ≠ .restore) (h : x.state.ofStage = true) :
    controlVerdict a x = if x.outrankedBy a.target then .pend else .notApplicable := by
  unfold controlVerdict
  cases a with
  | restore => exact absurd rfl sets
  | serviceOff | dark => cases e : x.state <;> simp_all [CrossingState.ofStage]

/-- Elsewhere an action other than RESTORE is not applicable. -/
theorem controlVerdict_elsewhere {a : ControlAction} {x : Crossing} (sets : a ≠ .restore)
    (later : ¬ (x.state = .startupFlash ∨ x.state = .startupRed ∨
      (a.target = .dark ∧ (x.state = .cmdFlash ∨ x.state = .faultFlash))))
    (green : x.state ≠ .vehGreen) (stage : x.state.ofStage = false) : controlVerdict a x = .notApplicable := by
  unfold controlVerdict
  cases a with
  | restore => exact absurd rfl sets
  | serviceOff | dark => cases e : x.state <;> simp_all [CrossingState.ofStage, ControlAction.target]

theorem controlVerdict_restore (x : Crossing) : controlVerdict .restore x =
    if x.state = .cmdFlash ∨ x.state = .faultFlash ∨ x.state = .dark then .restoreNow else .notApplicable := by
  unfold controlVerdict
  cases x.state <;> rfl

/-- An action other than RESTORE enters a state out of service that runs no interval. -/
theorem enterTarget_untimed {a : ControlAction} (s : State) (c : CrossingId) (cause : Cause) :
    s.enterTarget c a.target cause = s.enterUntimed c a.target.state cause := by cases a <;> rfl

/-! ### The request -/

/-- The row of the model that an action is taken at. -/
def ControlAction.row : ControlAction → Instr
  | .serviceOff => .serviceOff
  | .dark => .dark
  | .restore => .restore

theorem exec_row (a : ControlAction) (turn : s.AtTurn fr rest) (own : isControl a fr = true) :
    exec a.row s = .next (executeControl fr (s.taking rest)).transmit := by
  cases a <;> exact congrArg Host.Outcome.next (serve_at_turn turn own executeControl)

/-- A CROSSING CONTROL request with its crossing and action in range is decided by the table. -/
theorem exec_control {a : ControlAction} {cb ab : Byte} (turn : s.AtTurn fr rest) (kind : fr.isKind 10 = true)
    (body : fr.body = [cb, ab]) (named : numbered 8 cb = some c) (reads : readAction ab = some a) :
    exec a.row s = .next ((s.taking rest).control fr.tag c a).transmit := by
  rw [exec_row a turn (by simp [isControl, kind, body, reads])]
  simp only [executeControl, body, named, reads]

/-- What an accepted CROSSING CONTROL answers, and what it leaves of the rest. -/
theorem control_done {i : Instr} {tag : Byte} {taken : Bool} {st : CrossingState} {p : Option Target}
    (e : exec i s = .next (w.controlDone tag c taken).transmit) (steady : Steady (s.taking rest) w)
    (alone : AloneAt c (s.taking rest) w) (state : (w.crossing c).state = st) (pending : (w.crossing c).pendingTarget = p) :
    ∃ t, exec i s = .next t ∧ t.crossing c = w.crossing c ∧ t.callOf c = w.callOf c ∧ t.units = w.units ∧
      Answered s t tag (.done (.crossingControl taken st p)) ∧
      (∀ c', c' ≠ c → t.crossing c' = s.crossing c' ∧ t.callOf c' = s.callOf c') ∧ OthersKept s t c ∧ t.groups = s.groups ∧
      CorridorKept s t ∧ KerbKept s t ∧ t.host.requests = rest := by
  subst state pending
  obtain ⟨answered, corridor, kerb, requests, _⟩ := turn_answered steady tag
    (.done (.crossingControl taken (w.crossing c).state (w.crossing c).pendingTarget))
  refine ⟨_, e, rfl, rfl, rfl, answered, fun d ne => ?_, fun d ne _ => alone.within d ne, alone.groups, corridor, kerb, requests⟩
  obtain ⟨crossing, call, _⟩ := alone.within d ne
  exact ⟨crossing, call⟩

/-! ### RESTORE (R117) -/

/-- An entry sets the mode of every output by the state; a changed mode starts its timer afresh, and an unchanged one leaves
the output (R121, R123). -/
theorem portEnter_line (p : SignalPort) (st : CrossingState) (o : Lamp) :
    let l := lampAt p.lines o
    let l' := lampAt (p.enter st).lines o
    l'.mode = commandedMode st o ∧ l'.proved = l.proved ∧
      (l.mode ≠ commandedMode st o → l'.mismatch = 0 ∧ l'.sense = none) ∧
      (l.mode = commandedMode st o →
        l'.mismatch = l.mismatch ∧ l'.sense = l.sense ∧ l'.settling = l.settling ∧ l'.value = l.value) := by
  intro l l'
  have e : l' = if l.mode = commandedMode st o then l else _ := lampAt_rewriteLamps _ _ _
  rw [e]
  split
  · rename_i same; exact ⟨same, rfl, fun ne => absurd same ne, fun _ => ⟨rfl, rfl, rfl, rfl⟩⟩
  · rename_i other; exact ⟨rfl, rfl, fun _ => ⟨rfl, rfl⟩, fun same => absurd same other⟩

/-- A restored crossing has no fault, no change pending and no recall timer, and has entered the state of its start. -/
structure Restored (x y : Crossing) (st : CrossingState) : Prop where
  state : y.state = st
  faults : y.faults = {}
  timer : y.recallTimer = none
  change : y.pendingChange = none
  left : y.timeLeft = if x.inForce.isSome then some 50 else none
  port : y.port = x.port.enter st

theorem restoreCrossing_spec (out : (s.crossing c).state.serving = false) :
    AloneAt c s (s.restoreCrossing c) ∧ Restored (s.crossing c) ((s.restoreCrossing c).crossing c)
      (if (s.crossing c).inForce.isSome then .startupFlash else .unconfigured) := by
  let u := s.changeCrossing c fun x => { x with faults := {}, recallTimer := none }
  have own : u.crossing c = { s.crossing c with faults := {}, recallTimer := none } := changeCrossing_crossing s c _
  have cleared : AloneAt c s u := changeCrossing_alone s c _
  have e : s.restoreCrossing c =
      if (s.crossing c).inForce.isSome then u.enterStartup c .restore else u.enterUntimed c .unconfigured .restore := by
    unfold State.restoreCrossing; dsimp only; rw [show (u.crossing c).inForce = (s.crossing c).inForce by rw [own]]
  rw [e]
  cases record : (s.crossing c).inForce.isSome with
  | true =>
    simp only [if_true]
    obtain ⟨alone, _, _, started⟩ := enterStartup_spec u c .restore
    rw [own] at started
    exact ⟨cleared.trans alone, by rw [started]; exact ⟨rfl, rfl, rfl, rfl, by rw [record]; rfl, rfl⟩⟩
  | false =>
    simp only [Bool.false_eq_true, if_false]
    have closed : (u.crossing c).inService = false := by rw [own]; simp [Crossing.inService, out]
    have entered : (u.enterUntimed c .unconfigured .restore).crossing c =
        { (u.crossing c).enter .unconfigured none with pendingChange := none } := by
      unfold State.enterUntimed; dsimp only; rw [closed]
      exact changeCrossing_crossing u c _
    rw [own] at entered
    exact ⟨cleared.trans (enterUntimed_alone u c _ _), by rw [entered]; exact ⟨rfl, rfl, rfl, rfl, by rw [record]; rfl, rfl⟩⟩

/-! ### The table followed -/

section Row

variable {i : Instr} {a : ControlAction} {tag : Byte} (e : exec i s = .next ((s.taking rest).control tag c a).transmit)
include e

/-- An action taken at once. -/
theorem control_atOnce (sets : a ≠ .restore)
    (now : (s.crossing c).state = .startupFlash ∨ (s.crossing c).state = .startupRed ∨
      (a.target = .dark ∧ ((s.crossing c).state = .cmdFlash ∨ (s.crossing c).state = .faultFlash))) :
    ∃ t, exec i s = .next t ∧ (∃ w n, t.crossing c =
        { (s.crossing c).enter a.target.state none with pendingChange := none, waiting := w, recallTimer := n }) ∧
      ((s.crossing c).inService = true → t.callOf c = none ∧ (t.crossing c).recallTimer = none) ∧
      Answered s t tag (.done (.crossingControl true a.target.state none)) ∧
      (∀ c', c' ≠ c → t.crossing c' = s.crossing c' ∧ t.callOf c' = s.callOf c') ∧ t.groups = s.groups ∧
      t.units = s.units ∧ CorridorKept s t ∧ KerbKept s t ∧ t.host.requests = rest := by
  have entered : (s.taking rest).control tag c a =
      ((s.taking rest).enterUntimed c a.target.state .command).controlDone tag c true := by
    rw [State.control, show controlVerdict a ((s.taking rest).crossing c) = _ from controlVerdict_atOnce sets now,
      ← enterTarget_untimed]
  obtain ⟨⟨⟨w, n, own⟩, lost⟩, units⟩ := enterUntimed_untimed (s.taking rest) c a.target.state .command
  rw [entered] at e
  obtain ⟨t, e, crossing, call, units', answered, others, _, groups, corridor, kerb, requests⟩ := control_done e
    (enterUntimed_steady (s.taking rest) c a.target.state .command) (enterUntimed_alone _ c _ _)
    (st := a.target.state) (p := none) (by rw [own]; rfl) (by rw [own]; rfl)
  exact ⟨t, e, ⟨w, n, crossing.trans own⟩, by rw [call, crossing]; exact lost, answered, others, groups, units'.trans units,
    corridor, kerb, requests⟩

/-- An action that becomes a pending change. -/
theorem control_pends (outranked : (s.crossing c).outrankedBy a.target = true)
    (verdict : controlVerdict a (s.crossing c) = .pend) :
    ∃ t, exec i s = .next t ∧ (∃ w n, t.crossing c = if (s.crossing c).state = .vehGreen then
        { s.crossing c with
          pendingChange := some { target := a.target, cause := .command }, waiting := w, recallTimer := n }.beginClosing
        else { s.crossing c with
          pendingChange := some { target := a.target, cause := .command }, waiting := w, recallTimer := n }) ∧
      ((s.crossing c).inService = true → t.callOf c = none ∧ (t.crossing c).recallTimer = none) ∧
      Answered s t tag (.done (.crossingControl false
        (if (s.crossing c).state = .vehGreen then .vehAmber else (s.crossing c).state) (some a.target))) ∧
      (∀ c', c' ≠ c → t.crossing c' = s.crossing c' ∧ t.callOf c' = s.callOf c') ∧ t.groups = s.groups ∧
      t.units = s.units ∧ CorridorKept s t ∧ KerbKept s t ∧ t.host.requests = rest := by
  have pending : (s.taking rest).control tag c a =
      ((s.taking rest).setPending c a.target .command).controlDone tag c false := by
    rw [State.control, show controlVerdict a ((s.taking rest).crossing c) = _ from verdict]
  obtain ⟨⟨⟨w, n, own⟩, lost⟩, units⟩ := setPending_pends (s := s.taking rest) .command outranked
  rw [taking_crossing] at own lost
  rw [pending] at e
  obtain ⟨t, e, crossing, call, units', answered, others, _, groups, corridor, kerb, requests⟩ := control_done e
    (setPending_steady (s.taking rest) c a.target .command) (setPending_alone _ c _ _)
    (st := if (s.crossing c).state = .vehGreen then .vehAmber else (s.crossing c).state) (p := some a.target)
    (by rw [own]; split <;> rfl) (by rw [own]; split <;> rfl)
  exact ⟨t, e, ⟨w, n, crossing.trans own⟩, by rw [call, crossing]; exact lost, answered, others, groups, units'.trans units,
    corridor, kerb, requests⟩

end Row

/-- An accepted RESTORE. -/
theorem control_restores {tag : Byte} (e : exec .restore s = .next ((s.taking rest).control tag c .restore).transmit)
    (flashing : (s.crossing c).state = .cmdFlash ∨ (s.crossing c).state = .faultFlash ∨ (s.crossing c).state = .dark) :
    ∃ t, exec .restore s = .next t ∧ Restored (s.crossing c) (t.crossing c)
        (if (s.crossing c).inForce.isSome then .startupFlash else .unconfigured) ∧
      Answered s t tag (.done (.crossingControl true
        (if (s.crossing c).inForce.isSome then .startupFlash else .unconfigured) none)) ∧
      OthersKept s t c ∧ CorridorKept s t ∧ KerbKept s t ∧ t.host.requests = rest := by
  have restores : (s.taking rest).control tag c .restore = ((s.taking rest).restoreCrossing c).controlDone tag c true := by
    rw [State.control, show controlVerdict .restore ((s.taking rest).crossing c) = _ from
      (controlVerdict_restore _).trans (if_pos flashing)]
  obtain ⟨alone, restored⟩ := restoreCrossing_spec (s := s.taking rest) (c := c)
    (by rcases flashing with h | h | h <;> rw [taking_crossing, h] <;> rfl)
  rw [taking_crossing] at restored
  rw [restores] at e
  obtain ⟨t, e, crossing, _, _, answered, _, others, _, corridor, kerb, requests⟩ := control_done e
    (restoreCrossing_steady (s.taking rest) c) alone (p := none) restored.state
    (by unfold Crossing.pendingTarget; rw [restored.change]; rfl)
  exact ⟨t, e, crossing ▸ restored, answered, others, corridor, kerb, requests⟩

/-- Settles O41, row by row of the table. -/
theorem serviceCommandsFollowTheTable : Obligations.ServiceCommandsFollowTheTable := by
  unfold Obligations.ServiceCommandsFollowTheTable
  refine ⟨fun i tgt ab fr rest s cb c row turn kind body named => ?_, fun fr rest s cb c turn kind body named => ?_,
    fun i own fr rest s cb ab row turn kind body range => ?_⟩
  · obtain ⟨a, sets, rfl, rfl, reads⟩ : ∃ a : ControlAction, a ≠ .restore ∧ i = a.row ∧ tgt = a.target ∧ readAction ab = some a := by
      rcases row with ⟨rfl, rfl, rfl⟩ | ⟨rfl, rfl, rfl⟩
      · exact ⟨.serviceOff, nofun, rfl, rfl, rfl⟩
      · exact ⟨.dark, nofun, rfl, rfl, rfl⟩
    have e := exec_control turn kind body named reads
    intro x atOnce pends
    refine ⟨fun now => ?_, fun green outranked => ?_, fun ⟨stage, outranked⟩ => ?_, fun later green idle => ?_⟩
    · obtain ⟨t, e, ⟨w, n, own⟩, kept⟩ := control_atOnce e sets now
      exact ⟨t, e, by rw [own]; rfl, by rw [own], by rw [own]; rfl, by rw [own]; rfl, kept⟩
    · obtain ⟨t, e, ⟨w, n, own⟩, kept⟩ := control_pends e (outrankedBy_iff.2 outranked) (controlVerdict_green sets green)
      rw [if_pos green] at own kept
      exact ⟨t, e, by rw [own]; rfl, by rw [own]; rfl, by rw [own]; rfl, by rw [own]; rfl, by rw [own]; rfl, kept⟩
    · have ranked := outrankedBy_iff.2 outranked
      have other : (s.crossing c).state ≠ .vehGreen := fun green => by rw [green] at stage; cases stage
      obtain ⟨t, e, ⟨w, n, own⟩, kept⟩ :=
        control_pends e ranked ((controlVerdict_stage sets stage).trans (if_pos ranked))
      rw [if_neg other] at own kept
      exact ⟨t, e, by rw [own], by rw [own], by rw [own], by rw [own], by rw [own], kept⟩
    · have verdict : controlVerdict a x = .notApplicable := by
        cases stage : x.state.ofStage with
        | true => rw [controlVerdict_stage sets stage, if_neg fun ranked => idle ⟨stage, outrankedBy_iff.1 ranked⟩]
        | false => exact controlVerdict_elsewhere sets later green stage
      rw [e, State.control, show controlVerdict a ((s.taking rest).crossing c) = _ from verdict]; rfl
  · intro x
    have e : exec .restore s = .next ((s.taking rest).control fr.tag c .restore).transmit :=
      exec_control (a := .restore) turn kind body named rfl
    refine ⟨fun flashing => ?_, fun cmd fault dark => ?_⟩
    · obtain ⟨t, e, restored, answered, kept⟩ := control_restores e flashing
      refine ⟨t, _, rfl, e, restored.state, restored.faults, restored.timer, restored.change, restored.left, fun o => ?_,
        by rw [restored.port]; rfl, answered, kept⟩
      rw [restored.port]
      exact portEnter_line x.port _ o
    · rw [e, State.control, show controlVerdict .restore ((s.taking rest).crossing c) = _ from
        (controlVerdict_restore x).trans (if_neg (by simp [cmd, fault, dark]))]
      rfl
  · obtain ⟨a, rfl, reads⟩ : ∃ a : ControlAction, i = a.row ∧ readAction own = some a := by
      rcases row with ⟨rfl, rfl⟩ | ⟨rfl, rfl⟩ | ⟨rfl, rfl⟩
      · exact ⟨.serviceOff, rfl, rfl⟩
      · exact ⟨.dark, rfl, rfl⟩
      · exact ⟨.restore, rfl, rfl⟩
    rcases range with ⟨rfl, unnamed⟩ | unknown
    · have none : numbered 8 cb = none := numbered_eq_none.2 (unnamed.imp (fun z => by rw [z]; decide) id)
      rw [exec_row a turn (by simp [isControl, kind, body, reads])]
      simp only [executeControl, body, none]; rfl
    · have none : readAction ab = none := by
        rcases unknown with rfl | above
        · rfl
        · unfold readAction; rw [if_neg (by omega), if_neg (by omega), if_neg (by omega)]
      rw [exec_row a turn (by simp [isControl, kind, body, none])]
      simp only [executeControl, body, none]
      cases numbered 8 cb <;> rfl

end Sys2Proof.Machine
end

section
/-!
Immediate faults and FAULT_FLASH (O45).
-/

namespace Sys2Proof.Machine

variable {s t w : State} {c d : CrossingId} {g : GroupId} {cause : Cause} {cls : FaultClass} {lamp : Lamp}

/-! ### What a group evaluation leaves of the other groups -/

theorem admitCall_group (s : State) (c : CrossingId) (call : CallRecord) (r : Record) (a : Admission) (g : GroupId) :
    (s.admitCall c call r a).group g = s.group g := by unfold State.group; rw [admitCall_groups]

theorem considerInGroup_others (g : GroupId) (s : State) (c : CrossingId) (call : CallRecord) (r : Record) {g' : GroupId}
    (ne : g' ≠ g) : (State.considerInGroup g s c call r).group g' = s.group g' := by
  unfold State.considerInGroup; split
  · rfl
  · split
    · rfl
    · split
      · rw [admitCall_group]; exact changeGroup_other s _ ne.symm
      · rfl

theorem groupTurn_others (g : GroupId) (s : State) (c : CrossingId) {g' : GroupId} (ne : g' ≠ g) :
    (s.groupTurn g c).group g' = s.group g' := by
  unfold State.groupTurn; split
  · split
    · exact considerInGroup_others g s c _ _ ne
    · rfl
  · rfl

theorem evaluateGroup_others (g : GroupId) (s : State) {g' : GroupId} (ne : g' ≠ g) :
    (s.evaluateGroup g).group g' = s.group g' :=
  foldl_related (R := fun s t : State => t.group g' = s.group g') _ s (fun _ => rfl) (fun h k => k.trans h)
    fun s c => groupTurn_others g s c ne

theorem evaluateAfterEnd_evaluated (s : State) (g : Option GroupId) : Evaluated s (s.evaluateAfterEnd g) := by
  cases g with
  | none => exact .refl s
  | some g => exact evaluateGroup_evaluated s g

theorem evaluateAfterEnd_others (s : State) {g : Option GroupId} {g' : GroupId} (ne : g ≠ some g') :
    (s.evaluateAfterEnd g).group g' = s.group g' := by
  cases g with
  | none => rfl
  | some g => exact evaluateGroup_others g s fun e => ne (congrArg some e.symm)

theorem uncount_others (s : State) {g : Option GroupId} {g' : GroupId} (ne : g ≠ some g') :
    (s.uncount g).group g' = s.group g' := by
  cases g with
  | none => rfl
  | some g => exact changeGroup_other s _ fun e => ne (congrArg some e)

theorem uncount_keeps (s : State) (g : Option GroupId) : (s.uncount g).crossings = s.crossings ∧
    (s.uncount g).calls = s.calls ∧ (s.uncount g).counters = s.counters ∧ (s.uncount g).clock = s.clock := by
  cases g <;> exact ⟨rfl, rfl, rfl, rfl⟩

/-! ### The entry to FAULT_FLASH (R114) -/

/-- The crossing in FAULT_FLASH: no stage, no change pending, no timer, and its accessible mark cleared. -/
def Crossing.inFaultFlash (x : Crossing) : Crossing :=
  { x.enter .faultFlash none with pendingChange := none, stage := none, accessibleMark := false, recallTimer := none }

theorem discardStage_crossing (s : State) (c : CrossingId) :
    (s.discardStage c).crossing c = { s.crossing c with stage := none, accessibleMark := false } := by
  unfold State.discardStage
  rw [markAccessible_crossing, changeCrossing_crossing]

theorem discardStage_groups (s : State) (c : CrossingId) : (s.discardStage c).groups = s.groups := markAccessible_groups _ _ _

theorem discardStage_counters (s : State) (c : CrossingId) : (s.discardStage c).counters = s.counters :=
  markAccessible_counters _ c false

theorem loseService_groups (s : State) (c : CrossingId) : (s.loseService c).groups = s.groups := removeCall_groups s c _

/-- The state as FAULT_FLASH has been entered, before the group of the stage that ended is evaluated. -/
def State.faulted (s : State) (c : CrossingId) (cause : Cause) : State :=
  ((((s.discardStage c).uncount ((s.crossing c).stage.bind (·.group))).loseService c).changeCrossing c fun x =>
    { x.enter .faultFlash none with pendingChange := none }).reportState c cause

theorem enterFaultFlash_eq (s : State) (c : CrossingId) (cause : Cause) : s.enterFaultFlash c cause =
    (s.faulted c cause).evaluateAfterEnd ((s.crossing c).stage.bind (·.group)) := rfl

theorem faulted_crossing (s : State) (c : CrossingId) (cause : Cause) :
    ∃ w, (s.faulted c cause).crossing c = { (s.crossing c).inFaultFlash with waiting := w } := by
  obtain ⟨crossings, -⟩ := uncount_keeps (s.discardStage c) ((s.crossing c).stage.bind (·.group))
  obtain ⟨w, lost⟩ := loseService_crossing ((s.discardStage c).uncount ((s.crossing c).stage.bind (·.group))) c
  rw [crossing_of_eq crossings, discardStage_crossing] at lost
  exact ⟨w, (changeCrossing_crossing _ c _).trans (by rw [lost]; rfl)⟩

theorem faulted_callOf (s : State) (c : CrossingId) (cause : Cause) : (s.faulted c cause).callOf c = none :=
  loseService_callOf _ c

theorem faulted_counters (s : State) (c : CrossingId) (cause : Cause) :
    (s.faulted c cause).counters.crossings = s.counters.crossings := by
  obtain ⟨_, _, counters, _⟩ := uncount_keeps (s.discardStage c) ((s.crossing c).stage.bind (·.group))
  refine (removeCall_counts ((s.discardStage c).uncount ((s.crossing c).stage.bind (·.group))) c .outOfService).trans ?_
  rw [counters, discardStage_counters]

theorem faulted_others (s : State) (c : CrossingId) (cause : Cause) {g : GroupId}
    (ne : (s.crossing c).stage.bind (·.group) ≠ some g) : (s.faulted c cause).group g = s.group g := by
  have left : (s.faulted c cause).groups = ((s.discardStage c).uncount ((s.crossing c).stage.bind (·.group))).groups :=
    loseService_groups _ c
  rw [group_of_eq left, uncount_others _ ne, group_of_eq (discardStage_groups s c)]

/-- A crossing whose call waits on keeps everything but its route and its waiting reason. -/
theorem Waits.crossing_eq (h : Waits c s t) :
    t.crossing c = { s.crossing c with route := (t.crossing c).route, waiting := (t.crossing c).waiting } :=
  congrArg (fun x : Crossing => { x with route := (t.crossing c).route, waiting := (t.crossing c).waiting }) h.crossing

/-- FAULT_FLASH entered: the crossing's fields, its call gone, its counters as they were. -/
theorem enterFaultFlash_spec (s : State) (c : CrossingId) (cause : Cause) :
    (∃ r w, (s.enterFaultFlash c cause).crossing c = { (s.crossing c).inFaultFlash with route := r, waiting := w }) ∧
      (s.enterFaultFlash c cause).callOf c = none ∧
      (s.enterFaultFlash c cause).counters.crossings[c] = s.counters.crossings[c] ∧
      ∀ g, (s.crossing c).stage.bind (·.group) ≠ some g → (s.enterFaultFlash c cause).group g = s.group g := by
  obtain ⟨w, own⟩ := faulted_crossing s c cause
  have barred : (s.faulted c cause).Barred c := .inl (greenExpired_of_state (by rw [own]; nofun))
  have waits := (evaluateAfterEnd_evaluated (s.faulted c cause) ((s.crossing c).stage.bind (·.group))).waits c barred
  rw [enterFaultFlash_eq]
  refine ⟨⟨_, _, waits.crossing_eq.trans (by rw [own])⟩, waits.call.trans (faulted_callOf s c cause), waits.counters.trans ?_,
    fun g ne => (evaluateAfterEnd_others _ ne).trans (faulted_others s c cause ne)⟩
  rw [faulted_counters]

/-! ### Fault events (R128 to R130) -/

theorem changeCrossing_self {f : Crossing → Crossing} (h : f (s.crossing c) = s.crossing c) : s.changeCrossing c f = s := by
  have e : change s.crossings c f = s.crossings := Vector.ext fun j hj => by
    refine (change_get s.crossings c ⟨j, hj⟩ f).trans ?_
    split
    · rename_i same; subst same; exact h
    · rfl
  exact congrArg (fun v => ({ s with crossings := v } : State)) e

/-- A class already in the set joins it without a change (R129). -/
theorem insert_known {f : FaultSet} (known : f.has cls = true) : f.insert cls = f := by
  cases f; cases cls <;> simp_all [FaultSet.has, FaultSet.insert]

/-- A fault event with the class in the set: the crossing acts, and the fault is reported where it is new or moved the
state. -/
theorem faultEvent_eq (s : State) (c : CrossingId) (lamp : Lamp) (cls : FaultClass) :
    let u := (s.changeCrossing c fun x => { x with faults := x.faults.insert cls }).actOnFault c cls
    s.faultEvent c lamp cls =
      if (!(s.crossing c).faults.has cls || decide ((u.crossing c).state ≠ (s.crossing c).state)) = true then
        (u.countCrossing c fun n => { n with faults := satAdd n.faults 1 }).raise
          (.crossingFault c cls lamp (s.crossing c).state (u.crossing c).state (u.crossing c).pendingTarget (u.crossing c).faults)
      else u := rfl

theorem actOnFault_immediate (immediate : cls = .conflict ∨ cls = .stuckOn ∨ cls = .redLoss)
    (fault : (s.crossing c).state ≠ .faultFlash) (dark : (s.crossing c).state ≠ .dark) :
    s.actOnFault c cls = s.enterFaultFlash c .fault := by
  unfold State.actOnFault
  rcases immediate with rfl | rfl | rfl <;> split <;> simp_all

theorem actOnFault_stays (immediate : cls = .conflict ∨ cls = .stuckOn ∨ cls = .redLoss)
    (flashing : (s.crossing c).state = .faultFlash ∨ (s.crossing c).state = .dark) : s.actOnFault c cls = s := by
  unfold State.actOnFault
  rcases immediate with rfl | rfl | rfl <;> rcases flashing with e | e <;> rw [e]

theorem raisedClass_eq {l : List Due} (mem : .mismatch c lamp cls ∈ l) (alone : ∀ cls', .mismatch c lamp cls' ∈ l → cls' = cls) :
    raisedClass c lamp l = some cls := by
  unfold raisedClass
  induction l with
  | nil => cases mem
  | cons d l ih =>
    rw [List.findSome?_cons]
    split
    · rename_i found
      split at found
      · split at found
        · rename_i cls' same
          obtain ⟨rfl, rfl⟩ := same
          rw [← found, alone _ List.mem_cons_self]
        · cases found
      · cases found
    · rename_i missed
      refine ih ((List.mem_cons.1 mem).resolve_left fun own => ?_) fun cls' h => alone cls' (List.mem_cons_of_mem d h)
      subst own
      simp at missed

theorem exec_mismatch (due : s.IsDue (.mismatch c lamp cls)) (alone : ∀ cls', .mismatch c lamp cls' ∈ s.due → cls' = cls) :
    exec (.mismatchTimerLimit c lamp) s = .next ((s.without (.mismatch c lamp cls)).faultEvent c lamp cls).transmit := by
  have e : exec (.mismatchTimerLimit c lamp) s = .next (s.live fun s => s.take (.mismatch c lamp cls) (State.faultEvent · c lamp cls)) := by
    refine congrArg Host.Outcome.next ?_
    unfold State.live
    dsimp only
    rw [raisedClass_eq due.2 alone]
  rw [e, take_due due]

theorem exec_conflict (due : s.IsDue (.conflict c)) :
    exec (.conflictTimerLimit c) s = .next ((s.without (.conflict c)).faultEvent c .walk .conflict).transmit :=
  congrArg Host.Outcome.next (take_due due (State.faultEvent · c .walk .conflict))

/-- An immediate fault outside FAULT_FLASH and DARK: the entry to FAULT_FLASH, counted. -/
theorem faultEvent_immediate (immediate : cls = .conflict ∨ cls = .stuckOn ∨ cls = .redLoss)
    (fault : (s.crossing c).state ≠ .faultFlash) (dark : (s.crossing c).state ≠ .dark) :
    (∃ r w, (s.faultEvent c lamp cls).crossing c =
        { ({ s.crossing c with faults := (s.crossing c).faults.insert cls } : Crossing).inFaultFlash with
          route := r, waiting := w }) ∧
      (s.faultEvent c lamp cls).callOf c = none ∧
      (s.faultEvent c lamp cls).counters.crossings[c].faults = min (s.counters.crossings[c].faults + 1) 65535 ∧
      ∀ g, (s.crossing c).stage.bind (·.group) ≠ some g → (s.faultEvent c lamp cls).group g = s.group g := by
  let u := s.changeCrossing c fun x => { x with faults := x.faults.insert cls }
  have own : u.crossing c = { s.crossing c with faults := (s.crossing c).faults.insert cls } := changeCrossing_crossing s c _
  have acts : u.actOnFault c cls = u.enterFaultFlash c .fault :=
    actOnFault_immediate immediate (by rw [own]; exact fault) (by rw [own]; exact dark)
  obtain ⟨⟨r, w, crossing⟩, gone, counters, groups⟩ := enterFaultFlash_spec u c .fault
  rw [own] at crossing groups
  have moved : ((u.enterFaultFlash c .fault).crossing c).state ≠ (s.crossing c).state := by
    rw [crossing]; exact fault.symm
  rw [faultEvent_eq, acts, if_pos (by simp only [decide_eq_true moved, Bool.or_true])]
  refine ⟨⟨r, w, crossing⟩, gone, ?_, groups⟩
  refine (congrArg CrossingCounters.faults (change_get_self _ c _)).trans ?_
  exact congrArg (fun n : CrossingCounters => min (n.faults + 1) 65535) counters

/-- An immediate fault in FAULT_FLASH or DARK joins the set, and is reported where it is new to it. -/
theorem faultEvent_stays (immediate : cls = .conflict ∨ cls = .stuckOn ∨ cls = .redLoss)
    (flashing : (s.crossing c).state = .faultFlash ∨ (s.crossing c).state = .dark) :
    let u := s.changeCrossing c fun x => { x with faults := x.faults.insert cls }
    let x := s.crossing c
    s.faultEvent c lamp cls = if x.faults.has cls then s
      else (u.countCrossing c fun n => { n with faults := satAdd n.faults 1 }).raise
        (.crossingFault c cls lamp x.state x.state x.pendingTarget (x.faults.insert cls)) := by
  intro u x
  have own : u.crossing c = { s.crossing c with faults := (s.crossing c).faults.insert cls } := changeCrossing_crossing s c _
  have stays : u.actOnFault c cls = u := actOnFault_stays immediate (by rw [own]; exact flashing)
  rw [faultEvent_eq, stays, own]
  cases known : (s.crossing c).faults.has cls with
  | true =>
    have same : u = s := changeCrossing_self (by rw [insert_known known])
    rw [if_neg (by simp), if_pos rfl]; exact same
  | false => exact (if_pos rfl).trans (if_neg Bool.false_ne_true).symm

/-- Settles O45: the entry at an immediate fault, and CONFLICT where the crossing already flashes or is dark. -/
theorem immediateFaultEntersFaultFlash : Obligations.ImmediateFaultEntersFaultFlash := by
  unfold Obligations.ImmediateFaultEntersFaultFlash
  refine ⟨fun s i d c lamp cls row due alone fault dark => ?_, fun s c due flashing => ?_⟩
  · have immediate : cls = .conflict ∨ cls = .stuckOn ∨ cls = .redLoss := by
      rcases row with ⟨_, _, h⟩ | ⟨_, _, h⟩
      · exact .inl h
      · exact .inr h
    obtain ⟨l, e⟩ : ∃ l, exec i s = .next ((s.without d).faultEvent c l cls).transmit := by
      rcases row with ⟨rfl, rfl, rfl⟩ | ⟨rfl, rfl, _⟩
      · exact ⟨.walk, exec_conflict due⟩
      · exact ⟨lamp, exec_mismatch due fun cls' h => (alone cls' h).resolve_left nofun⟩
    obtain ⟨⟨r, w, crossing⟩, gone, counted, groups⟩ := faultEvent_immediate (s := s.without d) (lamp := l) immediate fault dark
    obtain ⟨corridor, kerb, port, agenda⟩ := Undisturbed.ofDue (faultEvent_steady (s.without d) c l cls)
    rw [without_crossing] at crossing
    refine ⟨_, e, ?_⟩
    rw [transmit_crossing, crossing]
    exact ⟨rfl, rfl, rfl, rfl, rfl, rfl, rfl, rfl, rfl, gone, counted, groups, corridor, kerb, port, agenda⟩
  · rw [exec_conflict due, faultEvent_stays (s := s.without (.conflict c)) (.inl rfl) flashing]
    rfl

end Sys2Proof.Machine
end

section
/-!
The group arbiter at its expiries (O36).
-/

namespace Sys2Proof.Machine

variable {s t w : State} {c c' d : CrossingId} {g g' : GroupId} {call call' : CallRecord} {r r' : Record} {l : List CallRecord}

/-! ### What a group allows (R86, R88) -/

theorem mayStart_release {q : Group} {now : Time} : q.mayStart now = some .release ↔
    q.active = 0 ∧ 0 < q.stageLimit ∧ q.spacing ≤ since now q.quietSince := by
  unfold Group.mayStart
  split_ifs <;> simp <;> omega

theorem mayStart_join {q : Group} {now : Time} : q.mayStart now = some .join ↔
    0 < q.active ∧ q.active < q.stageLimit ∧ since now q.release ≤ q.pairing := by
  unfold Group.mayStart
  split_ifs <;> simp <;> omega

/-- A group with stages active and its pairing window shut admits no call. -/
theorem mayStart_shut {q : Group} {now : Time} (active : 0 < q.active) (shut : q.pairing < since now q.release) :
    q.mayStart now = none := by
  simp [Group.mayStart, active.ne', Nat.not_le.2 shut]

/-! ### A group's turns (R54, R88) -/

theorem evaluateGroup_idle (h : ∀ c, s.groupTurn g c = s) : s.evaluateGroup g = s := by
  unfold State.evaluateGroup
  induction s.calls.map (·.crossing) with
  | nil => rfl
  | cons c l ih => rw [List.foldl_cons, h c, ih]

theorem changeCrossing_congr {f f' : Crossing → Crossing} (h : f (s.crossing c) = f' (s.crossing c)) :
    s.changeCrossing c f = s.changeCrossing c f' := by
  have e : change s.crossings c f = change s.crossings c f' := Vector.ext fun j hj => by
    refine (change_get s.crossings c ⟨j, hj⟩ f).trans (Eq.trans ?_ (change_get s.crossings c ⟨j, hj⟩ f').symm)
    split
    · rename_i same; subst same; exact h
    · rfl
  exact congrArg (fun v => ({ s with crossings := v } : State)) e

/-- A crossing as its turn leaves it where the group admits no call: its call waits with the reason of R82, or the group's. -/
def Crossing.heldBy (x : Crossing) (m : Mode) (g : GroupId) (reason : WaitReason) (call : Option CallRecord) : Crossing :=
  match call, x.record with
  | some call, some r =>
    if routeOf m r = .group g then
      { x with route := some (.group g), waiting := some ((ineligible x call).getD reason) }
    else x
  | _, _ => x

section HeldBy

variable {x : Crossing} {m : Mode} {reason : WaitReason}

theorem heldBy_waits (record : x.record = some r) (route : routeOf m r = .group g) :
    x.heldBy m g reason (some call) =
      { x with route := some (.group g), waiting := some ((ineligible x call).getD reason) } := by
  simp only [Crossing.heldBy, record, route, if_true]

theorem heldBy_stays {call : Option CallRecord} (h : call = none ∨ ∀ r, x.record = some r → routeOf m r ≠ .group g) :
    x.heldBy m g reason call = x := by
  unfold Crossing.heldBy; split
  · rename_i record
    rcases h with free | other
    · cases free
    · exact if_neg (other _ record)
  · rfl

theorem heldBy_heldBy (call : Option CallRecord) : (x.heldBy m g reason call).heldBy m g reason call = x.heldBy m g reason call := by
  cases call with
  | none => rfl
  | some call =>
    by_cases none : ∀ r, x.record = some r → routeOf m r ≠ .group g
    · rw [heldBy_stays (.inr none), heldBy_stays (.inr none)]
    · simp only [not_forall, not_not] at none
      obtain ⟨r, record, route⟩ := none
      rw [heldBy_waits record route]
      exact heldBy_waits (x := { x with route := some (.group g), waiting := some ((ineligible x call).getD reason) }) record route

end HeldBy

/-- A turn where the group admits no call. -/
theorem groupTurn_held (shut : (s.group g).mayStart s.clock.now = none) (c : CrossingId) :
    s.groupTurn g c = s.changeCrossing c fun x => x.heldBy s.clock.mode g (s.group g).reason (s.callOf c) := by
  by_cases none : s.callOf c = none ∨ ∀ r, (s.crossing c).record = some r → routeOf s.clock.mode r ≠ .group g
  · rw [groupTurn_none none, changeCrossing_self (heldBy_stays none)]
  · simp only [not_or, not_forall, not_not, Option.ne_none_iff_exists'] at none
    obtain ⟨⟨call, found⟩, r, record, route⟩ := none
    have awaits : s.groupTurn g c = s.await c (.group g) ((ineligible (s.crossing c) call).getD (s.group g).reason) := by
      rw [groupTurn_eq found record route]
      unfold State.considerInGroup
      cases ineligible (s.crossing c) call with
      | none => simp only [shut, Option.getD_none]
      | some x => rfl
    rw [awaits, found]
    exact changeCrossing_congr (heldBy_waits record route).symm

/-- Every call of a group that admits none waits: nothing but the controllers of its crossings changes. -/
theorem groupTurns_held (shut : (s.group g).mayStart s.clock.now = none) (l : List CrossingId) :
    l.foldl (State.groupTurn g) s = { s with crossings := (l.foldl (State.groupTurn g) s).crossings } ∧
      ∀ d, (l.foldl (State.groupTurn g) s).crossing d =
        if d ∈ l then (s.crossing d).heldBy s.clock.mode g (s.group g).reason (s.callOf d) else s.crossing d := by
  induction l generalizing s with
  | nil => exact ⟨rfl, fun d => (if_neg List.not_mem_nil).symm⟩
  | cons c l ih =>
    rw [List.foldl_cons, groupTurn_held shut c]
    obtain ⟨rest, crossings⟩ :=
      ih (s := s.changeCrossing c fun x => x.heldBy s.clock.mode g (s.group g).reason (s.callOf c)) shut
    refine ⟨rest, fun d => ?_⟩
    rw [crossings, changeCrossing_get]
    simp only [changeCrossing_clock, changeCrossing_group, changeCrossing_callOf, List.mem_cons]
    by_cases own : c = d
    · subst own
      simp [heldBy_heldBy]
    · have other : d ≠ c := Ne.symm own
      simp [own, other]

theorem evaluateGroup_held (shut : (s.group g).mayStart s.clock.now = none) :
    s.evaluateGroup g = { s with crossings := (s.evaluateGroup g).crossings } ∧
      ∀ d, (s.evaluateGroup g).crossing d =
        (s.crossing d).heldBy s.clock.mode g (s.group g).reason (s.callOf d) := by
  obtain ⟨rest, crossings⟩ := groupTurns_held shut (s.calls.map (·.crossing))
  refine ⟨rest, fun d => (crossings d).trans ?_⟩
  split
  · rfl
  · rename_i none
    refine (heldBy_stays (.inl (callOf_eq_none.2 fun q hq e => none ?_))).symm
    exact List.mem_map.2 ⟨q, hq, e⟩

/-! ### Admissions in a group -/

theorem removeCall_calls (s : State) (c : CrossingId) (x : RemovalReason) (found : s.callOf c = some call) :
    (s.removeCall c x).calls = s.calls.filter fun q => decide (q.crossing ≠ c) := by rw [removeCall_eq found]; rfl

theorem admitCall_calls (found : s.callOf c = some call) (r : Record) (a : Admission) :
    (s.admitCall c call r a).calls = s.calls.filter fun q => decide (q.crossing ≠ c) := by
  have marked (w : State) (b : Bool) : (w.markAccessible c b).calls = w.calls := by
    unfold State.markAccessible; split <;> rfl
  have cut (w : State) (k : Stage) (x : Option Cut) : (w.raiseTruncated c k x).calls = w.calls := by cases x <;> rfl
  unfold State.admitCall
  dsimp only
  rw [cut]
  exact (marked _ _).trans (removeCall_calls s c .admitted found)

theorem sinceNow (now : Time) : since now now = 0 := by simp [since]

/-- A crossing served in its turn: the group's count moves on, the call leaves the list, and no other crossing changes. -/
theorem served_turn {st : GroupStart} (h : MayBeServed s c call r) (route : routeOf s.clock.mode r = .group g)
    (may : (s.group g).mayStart s.clock.now = some st) :
    let t := s.groupTurn g c
    t.clock = s.clock ∧ t.calls = s.calls.filter (fun q => decide (q.crossing ≠ c)) ∧ (t.crossing c).state = .vehAmber ∧
      (t.crossing c).timeLeft = some r.amber ∧ (t.crossing c).stage = some (newStage s.clock.now call r
        { route := .group g, start := some st, walk := r.desiredWalk call.accessible, cut := none }) ∧
      t.group g = (s.group g).started s.clock.now st ∧ (∀ g', g' ≠ g → t.group g' = s.group g') ∧
      ∀ d, d ≠ c → t.crossing d = s.crossing d := by
  intro t
  let u := s.changeGroup g fun q => q.started s.clock.now st
  have e : t = u.admitCall c call r (freeAdmission r call.accessible (.group g) (some st)) := groupTurn_starts h route may
  obtain ⟨stage, state, left⟩ := admitCall_crossing u c call r (freeAdmission r call.accessible (.group g) (some st))
  rw [e]
  refine ⟨(admitCall_steady u c call r _).clock, admitCall_calls (s := u) h.found r _, state, left, stage, ?_, fun g' ne => ?_,
    fun d ne => ?_⟩
  · rw [admitCall_group, changeGroup_group]
  · rw [admitCall_group]; exact changeGroup_other s _ ne.symm
  · exact (admitCall_within (p := (· = c)) u call r _ rfl d ne).1

/-! ### The expiries (R87) -/

/-- The state as a group's spacing expiry is taken, before its calls have their turns. -/
def State.spacingRun (s : State) (g : GroupId) : State :=
  (s.without (.spacing g)).changeGroup g fun q => { q with spacingExpiry := none }

/-- The state as a group's pairing close is taken, before its calls have their turns. -/
def State.pairingShut (s : State) (g : GroupId) : State :=
  (s.without (.pairing g)).changeGroup g fun q => { q with pairingClose := none }

theorem exec_spacing {n : Time} (due : s.IsDue (.spacing g)) (armed : (s.group g).spacingExpiry = some n)
    (come : reached s.clock.now n = true) (idle : (s.group g).active = 0) :
    exec (.spacingExpiry g) s = .next ((s.spacingRun g).evaluateGroup g).transmit := by
  refine congrArg Host.Outcome.next ((take_due due (State.expireSpacing g)).trans ?_)
  simp only [State.expireSpacing, without_group, without_clock, armed, come, idle, and_self, if_true]; rfl

theorem exec_pairing {n : Time} (due : s.IsDue (.pairing g)) (armed : (s.group g).pairingClose = some n)
    (come : reached s.clock.now n = true) (active : 0 < (s.group g).active) :
    exec (.pairingClose g) s = .next ((s.pairingShut g).evaluateGroup g).transmit := by
  refine congrArg Host.Outcome.next ((take_due due (State.closePairing g)).trans ?_)
  simp only [State.closePairing, without_group, without_clock, armed, come, active, and_self, if_true]; rfl

/-- An expiry's turns, whatever they do, leave the corridor, the kerb link and the port. -/
theorem spacingRun_undisturbed (h : Steady (s.spacingRun g) t) :
    CorridorKept s t.transmit ∧ KerbKept s t.transmit ∧ PortKept s t.transmit := by
  obtain ⟨corridor, kerb, port, _⟩ := Undisturbed.ofDue (d := .spacing g) (.after h (changeGroup_steady (s.without (.spacing g)) g _))
  exact ⟨corridor, kerb, port⟩

theorem evaluateGroup_pair (calls : s.calls = [call, call']) (own : call.crossing = c) (own' : call'.crossing = c') :
    s.evaluateGroup g = (s.groupTurn g c).groupTurn g c' := by
  simp only [State.evaluateGroup, calls, List.map_cons, List.map_nil, List.foldl_cons, List.foldl_nil, own, own']

theorem evaluateGroup_single (calls : s.calls = [call]) (own : call.crossing = c) :
    s.evaluateGroup g = s.groupTurn g c := by
  simp only [State.evaluateGroup, calls, List.map_cons, List.map_nil, List.foldl_cons, List.foldl_nil, own]

theorem callOf_head (calls : s.calls = call :: l) (own : call.crossing = c) : s.callOf c = some call := by
  simp [State.callOf, calls, own]

/-- A call at a crossing whose green timer has expired may be served, with the hold clear. -/
theorem mayBeServed (found : s.callOf c = some call) (record : (s.crossing c).record = some r) (nb : call.notBefore = none)
    (green : (s.crossing c).greenExpired = true) (clear : s.clock.hold = false) : MayBeServed s c call r :=
  ⟨found, record, ineligible_none nb green, clear⟩

/-- A group with none of its calls: the turns do nothing. -/
theorem evaluateGroup_empty (none : ∀ c r, (s.crossing c).record = some r → routeOf s.clock.mode r = .group g → s.callOf c = none) :
    s.evaluateGroup g = s :=
  evaluateGroup_idle fun c => groupTurn_none <| or_iff_not_imp_right.2 fun some => by
    simp only [not_forall, not_not] at some
    obtain ⟨r, record, route⟩ := some
    exact none c r record route

/-- A group released at this moment (R88). -/
def Group.released (q : Group) (now : Time) : Group :=
  { q with
    active := 1, release := now, spacingExpiry := none, pairingClose := some (now + BitVec.ofNat 32 (q.pairing + 1)) }

/-- The first turn as a group's spacing has run: a release. -/
theorem spacingRun_turn (idle : (s.group g).active = 0) (limit : 0 < (s.group g).stageLimit)
    (run : (s.group g).spacing ≤ since s.clock.now (s.group g).quietSince) (served : MayBeServed s c call r)
    (route : routeOf s.clock.mode r = .group g) :
    let t := (s.spacingRun g).groupTurn g c
    t.clock = s.clock ∧ t.calls = s.calls.filter (fun q => decide (q.crossing ≠ c)) ∧ (t.crossing c).state = .vehAmber ∧
      (t.crossing c).timeLeft = some r.amber ∧ (t.crossing c).stage = some (newStage s.clock.now call r
        { route := .group g, start := some .release, walk := r.desiredWalk call.accessible, cut := none }) ∧
      t.group g = (s.group g).released s.clock.now ∧ (∀ g', g' ≠ g → t.group g' = s.group g') ∧
      ∀ d, d ≠ c → t.crossing d = s.crossing d := by
  have group : (s.spacingRun g).group g = { s.group g with spacingExpiry := none } := changeGroup_group _ g _
  have may : ((s.spacingRun g).group g).mayStart (s.spacingRun g).clock.now = some .release := by
    rw [group]; exact mayStart_release.2 ⟨idle, limit, run⟩
  have served' : MayBeServed (s.spacingRun g) c call r := ⟨served.found, served.record, served.eligible, served.clear⟩
  obtain ⟨clock, calls, state, left, stage, started, others, apart⟩ := served_turn served' route may
  refine ⟨clock, calls, state, left, stage, started.trans ?_, fun g' ne => (others g' ne).trans ?_, apart⟩
  · rw [group]
    simp only [Group.started, idle]; rfl
  · exact changeGroup_other (s.without (.spacing g)) _ ne.symm

/-- The turn that follows a release in the same event: a join below the limit of stages, and otherwise a wait. -/
theorem released_turn {q : Group} (group : s.group g = q.released s.clock.now) (limit : 0 < q.stageLimit)
    (served : MayBeServed s c call r) (route : routeOf s.clock.mode r = .group g) :
    let t := s.groupTurn g c
    t.group g = { q.released s.clock.now with active := min q.stageLimit 2 } ∧
      (if 2 ≤ q.stageLimit then
        t.calls = s.calls.filter (fun q => decide (q.crossing ≠ c)) ∧ (t.crossing c).state = .vehAmber ∧
          (t.crossing c).timeLeft = some r.amber ∧ (t.crossing c).stage = some (newStage s.clock.now call r
            { route := .group g, start := some .join, walk := r.desiredWalk call.accessible, cut := none })
      else t.calls = s.calls ∧
        t.crossing c = { s.crossing c with route := some (.group g), waiting := some .groupFull }) ∧
      (∀ g', g' ≠ g → t.group g' = s.group g') ∧ ∀ d, d ≠ c → t.crossing d = s.crossing d := by
  intro t
  by_cases room : 2 ≤ q.stageLimit
  · have may : (s.group g).mayStart s.clock.now = some .join := by
      rw [group]; exact mayStart_join.2 ⟨Nat.one_pos, room, (sinceNow s.clock.now).trans_le (Nat.zero_le _)⟩
    obtain ⟨_, calls, state, left, stage, started, others, apart⟩ := served_turn served route may
    rw [if_pos room]
    refine ⟨started.trans ?_, ⟨calls, state, left, stage⟩, others, apart⟩
    rw [group, Nat.min_eq_right room]; rfl
  · have full : q.stageLimit = 1 := by omega
    have may : (s.group g).mayStart s.clock.now = none := by
      rw [group]; simp [Group.mayStart, Group.released, full]
    have waits : t = s.await c (.group g) .groupFull := by
      refine (groupTurn_waits served route may).trans ?_
      rw [group]; simp [Group.reason, Group.released, full]
    rw [if_neg room, waits, full]
    exact ⟨group, ⟨rfl, await_crossing s c _ _⟩, fun _ _ => rfl, fun d ne => changeCrossing_other s _ ne.symm⟩

/-- The reason of a call that a group with its window shut leaves waiting (R82, R88). -/
theorem shut_reason {q : Group} (active : 0 < q.active) (x : Crossing) (call : CallRecord) :
    (ineligible x call).getD q.reason = if call.notBefore.isSome then .notBefore
      else if x.greenExpired = false then .green
      else if q.stageLimit ≤ q.active then .groupFull else .pairingClosed := by
  unfold ineligible Group.reason
  rw [if_pos active]
  cases call.notBefore.isSome <;> cases x.greenExpired <;> rfl

/-! ### The green timer's expiry in a group -/

/-- The state as a green timer's expiry is taken, before the call is evaluated. -/
def State.greenOut (s : State) (c : CrossingId) : State :=
  (s.without (.greenExpiry c)).changeCrossing c fun x => { x with green := some { left := 0, expired := true } }

theorem exec_greenExpiry (due : s.IsDue (.greenExpiry c)) (expiring : (s.crossing c).green = some { left := 0, expired := false }) :
    exec (.greenTimerExpiry c) s = .next ((s.greenOut c).evaluate c).transmit :=
  congrArg Host.Outcome.next ((take_due due (State.expireGreen c)).trans (congrArg State.transmit (if_pos expiring)))

theorem greenOut_crossing (s : State) (c : CrossingId) :
    (s.greenOut c).crossing c = { s.crossing c with green := some { left := 0, expired := true } } :=
  changeCrossing_crossing _ c _

theorem evaluate_inGroup (served : MayBeServed s c call r) (route : routeOf s.clock.mode r = .group g)
    (calls : s.calls = [call]) (own : call.crossing = c) : s.evaluate c = s.groupTurn g c := by
  rw [evaluate_served served, route]; exact evaluateGroup_single calls own

/-- Settles O36: the expiries disarm, and the group's calls take their turns. -/
theorem groupExpiriesDisarmReleaseAndJoin : Obligations.GroupExpiriesDisarmReleaseAndJoin := by
  unfold Obligations.GroupExpiriesDisarmReleaseAndJoin
  refine ⟨fun s g n come none => ⟨fun due armed idle => ?_, fun due armed active => ?_⟩,
    fun s g n due armed come active shut => ?_, fun s g n c call r due armed come idle limit run clear calls own nb green record route => ?_,
    fun s g n c c' call call' r r' due armed come idle limit run clear calls own own' apart nb nb' green green' record record'
      route route' => ?_,
    fun s g c call r due expiring green clear calls own nb record route => ?_,
    fun q now => ⟨mayStart_release, mayStart_join, fun _ => rfl⟩⟩
  · rw [exec_spacing due armed come idle, evaluateGroup_empty (s := s.spacingRun g) none]; rfl
  · rw [exec_pairing due armed come active, evaluateGroup_empty (s := s.pairingShut g) none]; rfl
  · have group : (s.pairingShut g).group g = { s.group g with pairingClose := none } := changeGroup_group _ g _
    have held : ((s.pairingShut g).group g).mayStart (s.pairingShut g).clock.now = .none := by
      rw [group]; exact mayStart_shut active shut
    obtain ⟨rest, crossings⟩ := evaluateGroup_held held
    obtain ⟨corridor, kerb, port, agenda⟩ := Undisturbed.ofDue (d := .pairing g)
      (.after (evaluateGroup_steady (s.pairingShut g) g) (changeGroup_steady (s.without (.pairing g)) g _))
    refine ⟨_, exec_pairing due armed come active, (congrArg State.calls rest :), ?_, fun g' ne => ?_,
      fun c call r found record route => ?_, fun c none => ?_, (congrArg (·.counters.crossings) rest :),
      (congrArg State.units rest :), corridor, kerb, port, agenda⟩
    · exact (congrArg (State.group · g) rest :).trans group
    · exact (congrArg (State.group · g') rest :).trans (changeGroup_other (s.without (.pairing g)) _ ne.symm)
    · refine (crossings c).trans ?_
      rw [show (s.pairingShut g).callOf c = some call from found]
      refine (heldBy_waits (x := s.crossing c) record route).trans ?_
      rw [group, shut_reason (q := { s.group g with pairingClose := .none }) active]
    · exact (crossings c).trans (heldBy_stays none)
  · have served := mayBeServed (callOf_head calls own) record nb green clear
    obtain ⟨_, list, state, _, stage, group, others, apart⟩ := spacingRun_turn idle limit run served route
    obtain ⟨corridor, kerb, port⟩ := spacingRun_undisturbed (groupTurn_steady (s.spacingRun g) g c)
    have e := exec_spacing due armed come idle
    rw [evaluateGroup_single (s := s.spacingRun g) calls own] at e
    refine ⟨_, e, list.trans ?_, state, stage, group, others, apart, corridor, kerb, port⟩
    rw [calls]; simp [own]
  · have served := mayBeServed (callOf_head calls own) record nb green clear
    obtain ⟨clock, list, state, left, stage, group, others, alone⟩ := spacingRun_turn idle limit run served route
    have e := exec_spacing due armed come idle
    rw [evaluateGroup_pair (s := s.spacingRun g) calls own own'] at e
    have steady := groupTurn_steady (s.spacingRun g) g c
    generalize (s.spacingRun g).groupTurn g c = t at *
    have list' : t.calls = [call'] := by rw [list, calls]; simp [own, own', apart.symm]
    have at' := alone c' apart.symm
    have served' : MayBeServed t c' call' r' := mayBeServed (callOf_head list' own') (by rw [at']; exact record') nb'
      (by rw [at']; exact green') (by rw [clock]; exact clear)
    obtain ⟨group', second, others', alone'⟩ := released_turn (q := s.group g) (by rw [group, clock]) limit served'
      (by rw [clock]; exact route')
    obtain ⟨corridor, kerb, port⟩ := spacingRun_undisturbed (steady.trans (groupTurn_steady t g c'))
    have first := alone' c apart
    rw [clock] at group' second
    refine ⟨_, e, ?_, ?_, ?_, group', ?_, fun g' ne => (others' g' ne).trans (others g' ne),
      fun d ne ne' => (alone' d ne').trans (alone d ne), corridor, kerb, port⟩
    · exact (congrArg Crossing.state first :).trans state
    · exact (congrArg Crossing.timeLeft first :).trans left
    · exact (congrArg Crossing.stage first :).trans stage
    · rw [list', at'] at second
      rw [show [call'].filter (fun q => decide (q.crossing ≠ c')) = [] by simp [own']] at second
      exact second
  · have served : MayBeServed (s.greenOut c) c call r := mayBeServed (callOf_head (s := s.greenOut c) calls own)
      (by rw [greenOut_crossing]; exact record) nb (by rw [greenOut_crossing]; simp [Crossing.greenExpired, green]) clear
    have e := exec_greenExpiry due expiring
    rw [evaluate_inGroup served route calls own] at e
    obtain ⟨corridor, kerb, port, _⟩ := Undisturbed.ofDue (d := .greenExpiry c) (.after (groupTurn_steady (s.greenOut c) g c)
      (changeCrossing_steady (s.without (.greenExpiry c)) c fun _ => rfl))
    have apart (d : CrossingId) (ne : d ≠ c) : (s.greenOut c).crossing d = s.crossing d :=
      changeCrossing_other (s.without (.greenExpiry c)) _ ne.symm
    cases may : (s.group g).mayStart s.clock.now with
    | none =>
      have waits := groupTurn_waits served route may
      rw [waits] at e corridor kerb port
      refine ⟨_, e, nofun, fun _ => ⟨rfl, rfl, ?_⟩, fun _ _ => rfl, fun d ne => ?_, corridor, kerb, port⟩
      · exact (await_crossing (s.greenOut c) c _ _).trans (by rw [greenOut_crossing]; rfl)
      · exact (changeCrossing_other (s.greenOut c) _ ne.symm).trans (apart d ne)
    | some start =>
      obtain ⟨_, list, state, left, stage, started, others, alone⟩ := served_turn served route may
      refine ⟨_, e, fun start' h => ?_, nofun, others, fun d ne => (alone d ne).trans (apart d ne), corridor, kerb, port⟩
      obtain rfl := Option.some.inj h
      refine ⟨list.trans ?_, state, left, stage, ?_, ?_, ?_⟩
      · rw [show (s.greenOut c).calls = [call] from calls]; simp [own]
      · exact (congrArg Group.active started).trans (by cases start <;> rfl)
      · rintro rfl; exact started
      · rintro rfl; exact congrArg Group.release started

end Sys2Proof.Machine
end

section
/-!
INTERVAL_END before walk begin and after it, and at the end of a closing amber (O37).
-/

namespace Sys2Proof.Machine

variable {s t w : State} {c d : CrossingId} {k : Stage} {r : Record} {st : CrossingState} {n : Nat}

/-! ### The end of an interval, state by state (R100) -/

theorem exec_intervalEnd (due : s.IsDue (.intervalEnd c)) :
    exec (.intervalEnd c) s = .next ((s.without (.intervalEnd c)).endInterval c).transmit :=
  congrArg Host.Outcome.next (take_due due (State.endInterval c))

section EndInterval

variable (run : (s.crossing c).timeLeft = some 0)
include run

theorem endInterval_startupFlash (state : (s.crossing c).state = .startupFlash) :
    s.endInterval c = s.follow c .startupRed 30 := by simp only [State.endInterval, run, state, if_true]

theorem endInterval_startupRed (state : (s.crossing c).state = .startupRed) : s.endInterval c = s.completeStartup c := by
  simp only [State.endInterval, run, state, if_true]

theorem endInterval_closing (state : (s.crossing c).state = .vehAmber) (closing : (s.crossing c).closingAmber = true) :
    s.endInterval c = s.endClosing c := by simp only [State.endInterval, run, state, closing, if_true]

theorem endInterval_vehAmber (state : (s.crossing c).state = .vehAmber) (closing : (s.crossing c).closingAmber = false)
    (stage : (s.crossing c).stage = some k) : s.endInterval c = s.follow c .leadRed k.leadRed := by
  simp only [State.endInterval, run, state, closing, stage, Bool.false_eq_true, if_true, if_false]

theorem endInterval_leadRed (state : (s.crossing c).state = .leadRed) (stage : (s.crossing c).stage = some k) :
    s.endInterval c = s.beginWalk c k := by simp only [State.endInterval, run, state, stage, if_true]

theorem endInterval_walk (state : (s.crossing c).state = .walk) (stage : (s.crossing c).stage = some k) :
    s.endInterval c = s.follow c .clearance k.clearance := by simp only [State.endInterval, run, state, stage, if_true]

theorem endInterval_clearance (state : (s.crossing c).state = .clearance) (stage : (s.crossing c).stage = some k) :
    s.endInterval c = s.follow c .trailRed k.trailRed := by simp only [State.endInterval, run, state, stage, if_true]

end EndInterval

/-! ### Fail recall at an entry (R60) -/

/-- Fail recall has nothing to place. -/
theorem testFailRecall_idle (h : (s.crossing c).failRecall = false ∨ (s.crossing c).inService = false ∨
    (s.callOf c).isSome = true ∨ (s.crossing c).state.registering = false) : s.testFailRecall c = s := by
  unfold State.testFailRecall
  rcases h with h | h | h | h
  · simp [h]
  · simp [h]
  · obtain ⟨q, found⟩ := Option.isSome_iff_exists.1 h
    simp [found]
  · simp [h]

theorem enter_inService_iff (x : Crossing) (left : Option Nat) (before : x.state.serving = true) (after : st.serving = true) :
    (x.enter st left).inService = x.inService := by
  simp [Crossing.inService, Crossing.enter, before, after]

/-- A state followed by another, where fail recall has nothing to place there. -/
theorem follow_idle (n : Nat) (before : (s.crossing c).state.serving = true) (after : st.serving = true)
    (h : (s.crossing c).failRecall = false ∨ (s.crossing c).inService = false ∨ (s.callOf c).isSome = true ∨
      st.registering = false) : s.follow c st n = s.changeCrossing c fun x => x.enter st (some n) := by
  refine testFailRecall_idle ?_
  rw [changeCrossing_crossing, enter_inService_iff _ _ before after]
  exact h

/-- The evaluation of a call that has no not-before, where the green timer has not expired (R82). -/
theorem evaluate_notGreen {call : CallRecord} (found : s.callOf c = some call) (nb : call.notBefore = none)
    (green : (s.crossing c).greenExpired = false) : s.evaluate c = match (s.crossing c).record with
      | some r => s.await c (routeOf s.clock.mode r) .green
      | none => s := by
  have waits : ineligible (s.crossing c) call = some .green := by simp [ineligible, nb, green]
  unfold State.evaluate
  rw [found]
  cases (s.crossing c).record with
  | none => rfl
  | some r => simp only [waits]

/-- Fail recall places its record at a crossing in service in a registering state that has none. -/
theorem testFailRecall_eq (flag : (s.crossing c).failRecall = true) (service : (s.crossing c).inService = true)
    (registers : (s.crossing c).state.registering = true) (free : s.callOf c = none) :
    s.testFailRecall c = (s.registerCall c recallOffer).evaluate c := by
  simp [State.testFailRecall, flag, service, registers, free, State.intoQueue]

/-- The fail-recall record a crossing is given. -/
def recallRecord (c : CrossingId) (now : Time) : CallRecord :=
  { crossing := c, registeredAt := now, sides := {}, origins := { recalled := true }, accessible := false, pressCount := 0,
    notBefore := none }

/-- A state followed by a registering one, where fail recall places its record. -/
theorem follow_places (n : Nat) (before : (s.crossing c).state.serving = true) (registers : st.registering = true)
    (after : st.serving = true) (red : st ≠ .vehGreen) (flag : (s.crossing c).failRecall = true)
    (service : (s.crossing c).inService = true) (free : s.callOf c = none) :
    let u := (s.changeCrossing c fun x => x.enter st (some n)).registerCall c recallOffer
    s.follow c st n = match (s.crossing c).record with
      | some r => u.await c (routeOf s.clock.mode r) .green
      | none => u := by
  intro u
  have own : (s.changeCrossing c fun x => x.enter st (some n)).crossing c = (s.crossing c).enter st (some n) :=
    changeCrossing_crossing s c _
  have placed : s.follow c st n = u.evaluate c := by
    refine testFailRecall_eq (by rw [own]; exact flag) ?_ (by rw [own]; exact registers) free
    rw [own, enter_inService_iff _ _ before after]; exact service
  have at_c : u.crossing c = (s.crossing c).enter st (some n) := own
  have found : u.callOf c = some (recallOffer.newRecord c s.clock.now) := registerCall_callOf recallOffer free
  rw [placed, evaluate_notGreen found rfl (greenExpired_of_state (by rw [at_c]; exact red)), at_c]
  rfl

/-- What a registering state leaves as it is entered where fail recall places its record there. -/
theorem follow_recalls (n : Nat) (before : (s.crossing c).state.serving = true) (registers : st.registering = true)
    (after : st.serving = true) (red : st ≠ .vehGreen) (flag : (s.crossing c).failRecall = true)
    (service : (s.crossing c).inService = true) (free : s.callOf c = none) :
    let t := s.follow c st n
    t.calls = s.calls ++ [recallRecord c s.clock.now] ∧
      t.crossing c = (match (s.crossing c).record with
        | some r => { (s.crossing c).enter st (some n) with route := some (routeOf s.clock.mode r), waiting := some .green }
        | none => (s.crossing c).enter st (some n)) ∧
      t.counters.crossings[c] = { s.counters.crossings[c] with
        callsRegistered := min (s.counters.crossings[c].callsRegistered + 1) 65535 } ∧
      (∀ c', c' ≠ c → t.crossing c' = s.crossing c' ∧ t.counters.crossings[c'] = s.counters.crossings[c']) ∧
      t.groups = s.groups ∧ t.units = s.units := by
  intro t
  let u := (s.changeCrossing c fun x => x.enter st (some n)).registerCall c recallOffer
  have placed : t = _ := follow_places n before registers after red flag service free
  have crossing : u.crossing c = (s.crossing c).enter st (some n) := changeCrossing_crossing s c _
  have others (d : CrossingId) (ne : d ≠ c) : u.crossing d = s.crossing d := changeCrossing_other s _ ne.symm
  have counted : u.counters.crossings[c] = { s.counters.crossings[c] with
      callsRegistered := satAdd s.counters.crossings[c].callsRegistered 1 } := change_get_self s.counters.crossings c _
  have uncounted (d : CrossingId) (ne : d ≠ c) : u.counters.crossings[d] = s.counters.crossings[d] :=
    change_get_ne s.counters.crossings _ ne.symm
  rw [placed]
  cases (s.crossing c).record with
  | none => exact ⟨rfl, crossing, counted, fun d ne => ⟨others d ne, uncounted d ne⟩, rfl, rfl⟩
  | some r =>
    refine ⟨rfl, (await_crossing u c _ _).trans (by rw [crossing]), counted, fun d ne => ⟨?_, uncounted d ne⟩, rfl, rfl⟩
    exact (changeCrossing_other u _ ne.symm).trans (others d ne)

/-! ### The start-up completed (R102) -/

theorem startRecall_spec (x : Crossing) (now : Time) (record : x.record = some r) (service : x.inService = true) :
    x.startRecall now = { x with recallTimer := if 0 < r.recallInterval then some (now + BitVec.ofNat 32 r.recallInterval)
      else x.recallTimer } := by
  unfold Crossing.startRecall
  simp only [record, service, Bool.true_and, decide_eq_true_eq]
  split <;> rfl

/-- The record of a crossing after fail recall was tested where no stage can start (R60). -/
theorem testFailRecall_record (green : (s.crossing c).greenExpired = false) (service : (s.crossing c).inService = true)
    (registers : (s.crossing c).state.registering = true) : (s.testFailRecall c).callOf c = match s.callOf c with
      | some q => some q
      | none => if (s.crossing c).failRecall then some (recallRecord c s.clock.now) else none := by
  cases found : s.callOf c with
  | some q => rw [testFailRecall_idle (.inr (.inr (.inl (by rw [found]; rfl)))), found]
  | none =>
    cases flag : (s.crossing c).failRecall with
    | false => rw [testFailRecall_idle (.inl flag), found]; rfl
    | true =>
      rw [testFailRecall_eq flag service registers found]
      exact (evaluate_waits (s := s.registerCall c recallOffer) (.inl green)).call.trans (registerCall_callOf recallOffer found)

/-- The crossing as the start-up is completed, before its fail-recall test. -/
def Crossing.started (x : Crossing) (now : Time) : Crossing := x.enterGreen.startRecall now

theorem started_spec {x : Crossing} (now : Time) (record : x.record = some r) (idle : x.pendingChange = none) :
    x.started now = { x.enter .vehGreen none with
      green := some { left := r.minGreen, expired := false }
      recallTimer := if 0 < r.recallInterval then some (now + BitVec.ofNat 32 r.recallInterval) else x.recallTimer } := by
  have green : x.enterGreen = { x.enter .vehGreen none with green := some { left := r.minGreen, expired := false } } := by
    unfold Crossing.enterGreen; rw [record]
  have service : x.enterGreen.inService = true := by
    rw [green]; simp [Crossing.inService, Crossing.enter, CrossingState.serving, idle]
  rw [Crossing.started, startRecall_spec (r := r) x.enterGreen now (by rw [green]; exact record) service, green]
  rfl

/-- The end of STARTUP_RED at a crossing with a record and no change pending. -/
theorem completeStartup_spec (record : (s.crossing c).record = some r) (idle : (s.crossing c).pendingChange = none) :
    AloneAt c s (s.completeStartup c) ∧
      (∃ route w, (s.completeStartup c).crossing c = { (s.crossing c).started s.clock.now with route := route, waiting := w }) ∧
      (s.completeStartup c).callOf c = match s.callOf c with
        | some q => some q
        | none => if (s.crossing c).failRecall then some (recallRecord c s.clock.now) else none := by
  let u := (s.changeCrossing c fun x => x.started s.clock.now).reportState c .startUp
  have own : u.crossing c = (s.crossing c).started s.clock.now := changeCrossing_crossing s c _
  have spec := started_spec s.clock.now record idle
  have green : (u.crossing c).greenExpired = false := by rw [own, spec]; rfl
  have service : (u.crossing c).inService = true := by
    rw [own, spec]; simp [Crossing.inService, Crossing.enter, CrossingState.serving, idle]
  obtain ⟨alone, route, w, crossing⟩ := testFailRecall_barred green
  have call := testFailRecall_record green service (by rw [own, spec]; rfl)
  rw [own] at crossing call
  refine ⟨alone.after <| (reportState_alone _ c _).after (changeCrossing_alone s c _), ⟨route, w, crossing⟩, call.trans ?_⟩
  rw [show ((s.crossing c).started s.clock.now).failRecall = (s.crossing c).failRecall by rw [spec]; rfl]
  rfl

/-! ### The end of a closing amber (R111) -/

theorem inService_of_change {x : Crossing} {p : PendingChange} (change : x.pendingChange = some p) : x.inService = false := by
  simp [Crossing.inService, change]

theorem endClosing_eq {p : PendingChange} (change : (s.crossing c).pendingChange = some p) :
    s.endClosing c = s.enterTarget c p.target p.cause := by simp only [State.endClosing, change]

/-- A crossing already out of service enters another state out of it: nothing else changes. -/
theorem enterUntimed_out (cause : Cause) (out : (s.crossing c).inService = false) : s.enterUntimed c st cause =
    (s.changeCrossing c fun x => { x.enter st none with pendingChange := none }).reportState c cause := by
  simp only [State.enterUntimed, out, Bool.false_eq_true, if_false]

theorem enterUntimed_out_crossing (cause : Cause) (out : (s.crossing c).inService = false) :
    (s.enterUntimed c st cause).crossing c = { (s.crossing c).enter st none with pendingChange := none } := by
  rw [enterUntimed_out cause out]; exact changeCrossing_crossing s c _

/-- UNCONFIGURED entered by a crossing out of service, and left again for STARTUP_FLASH where it has a record (R103). -/
theorem enterUnconfigured_spec (cause : Cause) (out : (s.crossing c).inService = false) :
    AloneAt c s (s.enterUnconfigured c cause) ∧ ∃ route w, (s.enterUnconfigured c cause).crossing c =
      if (s.crossing c).inForce.isSome then
        { ({ (s.crossing c).enter .unconfigured none with pendingChange := none } : Crossing).startingUp with
          route := route, waiting := w }
      else { (s.crossing c).enter .unconfigured none with pendingChange := none, route := route, waiting := w } := by
  let u := s.enterUntimed c .unconfigured cause
  have own : u.crossing c = _ := enterUntimed_out_crossing (st := .unconfigured) cause out
  have reached := enterUntimed_alone s c .unconfigured cause
  have e : s.enterUnconfigured c cause = if (s.crossing c).inForce.isSome then u.enterStartup c cause else u := by
    unfold State.enterUnconfigured; dsimp only
    rw [show (u.crossing c).inForce = (s.crossing c).inForce by rw [own]; rfl]
  rw [e]
  split
  · obtain ⟨alone, route, w, crossing⟩ := enterStartup_spec u c cause
    rw [own] at crossing
    exact ⟨reached.trans alone, route, w, crossing⟩
  · exact ⟨reached, _, _, own⟩

/-- FAULT_FLASH entered by a crossing without a stage reaches no other crossing. -/
theorem enterFaultFlash_alone (cause : Cause) (none : (s.crossing c).stage = none) : AloneAt c s (s.enterFaultFlash c cause) := by
  have discarded : AloneAt c s (s.discardStage c) :=
    ⟨.after (markAccessible_within _ false rfl) (changeCrossing_within s _ rfl), discardStage_groups s c⟩
  rw [enterFaultFlash_eq, State.faulted, none]
  exact .after (reportState_alone _ c cause) <| .after (changeCrossing_alone _ c _) <| .after (loseService_alone _ c) discarded

/-- Settles O37, state by state. -/
theorem intervalEndEntersTheNextInterval : Obligations.IntervalEndEntersTheNextInterval := by
  unfold Obligations.IntervalEndEntersTheNextInterval
  refine ⟨fun s c k due run idle => ?_, fun s c due run flag service free => ?_, fun s c due run => ⟨fun r state record change => ?_,
    fun p state closing change target => ?_, fun p state closing stage change target => ?_⟩⟩
  · have e := exec_intervalEnd due
    have nothing (st : CrossingState) : (s.crossing c).failRecall = false ∨ (s.crossing c).inService = false ∨
        (s.callOf c).isSome = true ∨ st.registering = false := idle.imp_right (Or.imp_right .inl)
    have settled (st : CrossingState) (n : Nat) (before : (s.crossing c).state.serving = true) (after : st.serving = true) :
        (s.without (.intervalEnd c)).follow c st n =
          (s.without (.intervalEnd c)).changeCrossing c fun x => x.enter st (some n) :=
      follow_idle (s := s.without (.intervalEnd c)) n before after (nothing st)
    refine ⟨fun state => ?_, fun state closing stage => ?_, fun state stage => ?_, fun state stage => ?_⟩
    · rw [e, endInterval_startupFlash (s := s.without (.intervalEnd c)) run state, settled _ _ (by rw [state]; rfl) rfl]
    · rw [e, endInterval_vehAmber (s := s.without (.intervalEnd c)) run state closing stage,
        settled _ _ (by rw [state]; rfl) rfl]
    · rw [e, endInterval_walk (s := s.without (.intervalEnd c)) run state stage, settled _ _ (by rw [state]; rfl) rfl]
    · rw [e, endInterval_clearance (s := s.without (.intervalEnd c)) run state stage, settled _ _ (by rw [state]; rfl) rfl]
  · have e := exec_intervalEnd due
    have serving : (s.crossing c).state.serving = true := by
      simp only [Crossing.inService, Bool.and_eq_true] at service; exact service.1
    refine ⟨fun k state closing stage => ?_, fun st left row => ?_⟩
    · rw [e, endInterval_vehAmber (s := s.without (.intervalEnd c)) run state closing stage,
        follow_idle (s := s.without (.intervalEnd c)) _ serving rfl (.inr (.inr (.inr rfl)))]
    · obtain ⟨follows, registers, after, red⟩ : (s.without (.intervalEnd c)).endInterval c =
          (s.without (.intervalEnd c)).follow c st left ∧ st.registering = true ∧ st.serving = true ∧ st ≠ .vehGreen := by
        rcases row with ⟨state, rfl, rfl⟩ | ⟨state, rfl, stage⟩ | ⟨state, rfl, stage⟩
        · exact ⟨endInterval_startupFlash (s := s.without (.intervalEnd c)) run state, rfl, rfl, nofun⟩
        · obtain ⟨k, at_stage, rfl⟩ := Option.map_eq_some_iff.1 stage
          exact ⟨endInterval_walk (s := s.without (.intervalEnd c)) run state at_stage, rfl, rfl, nofun⟩
        · obtain ⟨k, at_stage, rfl⟩ := Option.map_eq_some_iff.1 stage
          exact ⟨endInterval_clearance (s := s.without (.intervalEnd c)) run state at_stage, rfl, rfl, nofun⟩
      obtain ⟨corridor, kerb, port, _⟩ := Undisturbed.ofDue (d := .intervalEnd c)
        (follow_steady (s.without (.intervalEnd c)) c st left)
      obtain ⟨calls, crossing, counted, others, groups, units⟩ :=
        follow_recalls (s := s.without (.intervalEnd c)) left serving registers after red flag service free
      rw [follows] at e
      exact ⟨_, e, calls, crossing, counted, others, groups, units, corridor, kerb, port⟩
  · have e := exec_intervalEnd due
    obtain ⟨alone, ⟨route, w, crossing⟩, call⟩ := completeStartup_spec (s := s.without (.intervalEnd c)) record change
    obtain ⟨corridor, kerb, port, _⟩ := Undisturbed.ofDue (d := .intervalEnd c)
      (completeStartup_steady (s.without (.intervalEnd c)) c)
    rw [endInterval_startupRed (s := s.without (.intervalEnd c)) run state] at e
    rw [without_crossing, started_spec _ record change] at crossing
    exact ⟨_, e, (congrArg Crossing.state crossing :), (congrArg Crossing.green crossing :),
      (congrArg Crossing.timeLeft crossing :), (congrArg Crossing.recallTimer crossing :), call, alone.othersKept, corridor, kerb,
      port⟩
  · have e := exec_intervalEnd due
    have out : ((s.without (.intervalEnd c)).crossing c).inService = false := inService_of_change change
    have enters : (s.without (.intervalEnd c)).endClosing c =
        (s.without (.intervalEnd c)).enterUntimed c p.target.state p.cause := by
      rw [endClosing_eq (s := s.without (.intervalEnd c)) change]
      rcases target with h | h <;> rw [h] <;> rfl
    obtain ⟨corridor, kerb, port, _⟩ := Undisturbed.ofDue (d := .intervalEnd c)
      (enterUntimed_steady (s.without (.intervalEnd c)) c p.target.state p.cause)
    have own := enterUntimed_out_crossing (st := p.target.state) p.cause out
    rw [endInterval_closing (s := s.without (.intervalEnd c)) run state closing, enters] at e
    rw [enterUntimed_out p.cause out] at e corridor kerb port own
    refine ⟨_, e, own, rfl, fun d ne => ?_, rfl, rfl, rfl, corridor, kerb, port⟩
    exact changeCrossing_other (s.without (.intervalEnd c)) _ ne.symm
  · have e := exec_intervalEnd due
    have out : ((s.without (.intervalEnd c)).crossing c).inService = false := inService_of_change change
    rw [endInterval_closing (s := s.without (.intervalEnd c)) run state closing,
      endClosing_eq (s := s.without (.intervalEnd c)) change] at e
    obtain ⟨corridor, kerb, port, _⟩ := Undisturbed.ofDue (d := .intervalEnd c)
      (enterTarget_steady (s.without (.intervalEnd c)) c p.target p.cause)
    rcases target with bound | bound <;> rw [bound] at e corridor kerb port
    · obtain ⟨alone, route, w, own⟩ := enterUnconfigured_spec p.cause out
      rw [without_crossing] at own
      have other : p.target ≠ .faultFlash := by rw [bound]; nofun
      refine ⟨_, e, ?_⟩
      rw [transmit_crossing, show ((s.without (.intervalEnd c)).enterTarget c .unconfigured p.cause).crossing c = _ from own]
      cases record : (s.crossing c).inForce with
      | none =>
        exact ⟨rfl, rfl, rfl, stage, rfl, fun _ _ => ⟨rfl, rfl⟩, fun _ some => (Bool.false_ne_true some).elim,
          fun h => absurd h other, alone.othersKept, corridor, kerb, port⟩
      | some f =>
        exact ⟨rfl, rfl, rfl, rfl, rfl, fun _ none => (Option.some_ne_none f none).elim, fun _ _ => ⟨rfl, rfl⟩,
          fun h => absurd h other, alone.othersKept, corridor, kerb, port⟩
    · obtain ⟨⟨route, w, own⟩, gone, _, _⟩ := enterFaultFlash_spec (s.without (.intervalEnd c)) c p.cause
      have alone := enterFaultFlash_alone (s := s.without (.intervalEnd c)) p.cause stage
      rw [without_crossing] at own
      have other : p.target ≠ .unconfigured := by rw [bound]; nofun
      refine ⟨_, e, ?_⟩
      rw [transmit_crossing, show ((s.without (.intervalEnd c)).enterTarget c .faultFlash p.cause).crossing c = _ from own]
      exact ⟨rfl, rfl, rfl, rfl, rfl, fun h => absurd h other, fun h => absurd h other,
        fun _ => ⟨rfl, rfl, rfl, gone⟩, alone.othersKept, corridor, kerb, port⟩

end Sys2Proof.Machine
end

section
/-!
The onset of sounding at the units of a crossing whose walk begins: the samples it ends or closes, the mutes it lifts, the
marks it sets and the command in flight it overtakes (R150, R163).
-/

namespace Sys2Proof.Machine

variable {s t w : State} {c : CrossingId} {H K K' : UnitId → Prop} {u v : UnitId} {l m : List UnitId}

/-! ### What an onset does to one sample (R163) -/

/-- What an onset may change of a unit's sampling. -/
@[ext] structure Sampling where
  sample : Option Sample
  action : Option SampleAction
  report : Option SampleReport
  abandoned : Nat

def State.sampling (s : State) (u : UnitId) : Sampling :=
  { sample := (s.unit u).audible.sample, action := (s.unit u).pendingAction, report := (s.unit u).audible.report
    abandoned := s.counters.units[u].samplesAbandoned }

/-- A sample abandoned: reported, counted, and CANCEL asked for. -/
def Sampling.abandon (x : Sampling) : Sampling :=
  { sample := none, action := some .cancel, report := some .abandoned, abandoned := min (x.abandoned + 1) 65535 }

/-- A sample closed before its window has run, with END asked for. -/
def Sampling.closeEarly (x : Sampling) (start : Time) : Sampling :=
  { x with
    sample := x.sample.map fun q => { q with phase := .closed start false, earlyEnd := true }
    action := some .stop }

/-- The sample is still open: an onset ends it or closes it, and its mutes are lifted. -/
def Sampling.isOpen (x : Sampling) : Prop := ∃ q, x.sample = some q ∧ ∀ start passed, q.phase ≠ .closed start passed

/-- What an onset at one of its muted units makes of a unit's sampling. -/
def Sampling.disturbed (now : Time) (x : Sampling) : Sampling :=
  match x.sample with
  | none => x
  | some q =>
    match q.phase with
    | .requested => x.abandon
    | .measuring start => if since now start < 12 then x.abandon else x.closeEarly start
    | .closed _ _ => x

theorem Sampling.disturbed_of_not_open {x : Sampling} (h : ¬ x.isOpen) (now : Time) : x.disturbed now = x := by
  unfold Sampling.disturbed
  split
  · rfl
  · rename_i q hq
    cases phase : q.phase with
    | closed start passed => rfl
    | requested => exact absurd ⟨q, hq, by simp [phase]⟩ h
    | measuring start => exact absurd ⟨q, hq, by simp [phase]⟩ h

/-- What an onset leaves is not open: a second one does nothing more. -/
theorem Sampling.disturbed_not_open (now : Time) (x : Sampling) : ¬ (x.disturbed now).isOpen := by
  unfold Sampling.disturbed
  split
  · rename_i none; rintro ⟨q, hq, -⟩; rw [none] at hq; cases hq
  · rename_i q hq
    have abandoned : ¬ x.abandon.isOpen := by rintro ⟨p, hp, -⟩; cases hp
    cases phase : q.phase with
    | requested => exact abandoned
    | measuring start =>
      simp only
      split
      · exact abandoned
      · rintro ⟨p, hp, not_closed⟩
        simp only [Sampling.closeEarly, hq, Option.map_some, Option.some.injEq] at hp
        exact not_closed start false (by rw [← hp])
    | closed start passed =>
      rintro ⟨p, hp, not_closed⟩
      obtain rfl := Option.some.inj (hq.symm.trans hp)
      exact not_closed start passed phase

/-! ### What onsets do to every sample -/

/-- From `s` to `t` the samples of `H` met an onset, and no other: the mutes of those that were open are lifted. -/
structure Disturbed (H : UnitId → Prop) (s t : State) : Prop where
  hit : ∀ u, H u → t.sampling u = (s.sampling u).disturbed s.clock.now
  missed : ∀ u, ¬ H u → t.sampling u = s.sampling u
  mutes : ∀ v u, u ∈ (t.unit v).audible.muteSet ↔ u ∈ (s.unit v).audible.muteSet ∧ ¬ (H u ∧ (s.sampling u).isOpen)
  clock : t.clock = s.clock

namespace Disturbed

theorem congr (h : Disturbed H s t) (e : ∀ u, H u ↔ K u) : Disturbed K s t := funext (fun u => propext (e u)) ▸ h

/-- Onsets one after another: a sample that has met one is past meeting the next. -/
theorem trans (h : Disturbed H s t) (k : Disturbed K t w) : Disturbed (fun u => H u ∨ K u) s w where
  hit u both := by
    by_cases hu : H u
    · have closed := Sampling.disturbed_not_open s.clock.now (s.sampling u)
      rw [← h.hit u hu] at closed
      by_cases ku : K u
      · rw [k.hit u ku, Sampling.disturbed_of_not_open closed, h.hit u hu]
      · rw [k.missed u ku, h.hit u hu]
    · rw [k.hit u (both.resolve_left hu), h.missed u hu, h.clock]
  missed u none := (k.missed u fun ku => none (.inr ku)).trans (h.missed u fun hu => none (.inl hu))
  mutes v u := by
    rw [k.mutes, h.mutes, and_assoc]
    refine and_congr_right fun _ => ?_
    by_cases hu : H u
    · have closed := Sampling.disturbed_not_open s.clock.now (s.sampling u)
      rw [← h.hit u hu] at closed
      simp [hu, closed]
    · rw [h.missed u hu]; simp [hu]
  clock := k.clock.trans h.clock

/-- The sampling of every unit stands. -/
theorem untouched (sampling : ∀ u, t.sampling u = s.sampling u)
    (mutes : ∀ v, (t.unit v).audible.muteSet = (s.unit v).audible.muteSet) (clock : t.clock = s.clock) :
    Disturbed (fun _ => False) s t :=
  ⟨fun _ => False.elim, fun u _ => sampling u, fun v u => by simp [mutes], clock⟩

/-- One sample acted on as an onset acts on an open one. -/
theorem one (self : t.sampling u = (s.sampling u).disturbed s.clock.now) (isOpen : (s.sampling u).isOpen)
    (others : ∀ v, v ≠ u → t.sampling v = s.sampling v)
    (mutes : ∀ v w, w ∈ (t.unit v).audible.muteSet ↔ w ∈ (s.unit v).audible.muteSet ∧ w ≠ u) (clock : t.clock = s.clock) :
    Disturbed (· = u) s t where
  hit v h := h ▸ self
  missed v := others v
  mutes v x := by
    rw [mutes]
    refine and_congr_right fun _ => not_congr ⟨fun e => ⟨e, e ▸ isOpen⟩, And.left⟩
  clock := clock

end Disturbed

/-! ### Entries of the audible level block's updates -/

theorem liftMutes_unit (s : State) (u v : UnitId) : (s.liftMutes u).unit v = { s.unit v with
    audible := { (s.unit v).audible with muteSet := (s.unit v).audible.muteSet.filter fun x => decide (x ≠ u) } } := by
  simp [State.liftMutes, State.unit]

@[simp] theorem changeAudible_unit (s : State) (u : UnitId) (f : Audible → Audible) :
    (s.changeAudible u f).unit u = { s.unit u with audible := f (s.unit u).audible } := changeUnit_unit s u _

theorem changeAudible_other (s : State) (f : Audible → Audible) (ne : v ≠ u) :
    (s.changeAudible u f).unit v = s.unit v := changeUnit_other s _ ne.symm

@[simp] theorem request_unit (s : State) (u : UnitId) (a : SampleAction) :
    (s.request u a).unit u = { s.unit u with pendingAction := some a } := changeUnit_unit s u _

theorem request_other (s : State) (a : SampleAction) (ne : v ≠ u) : (s.request u a).unit v = s.unit v :=
  changeUnit_other s _ ne.symm

theorem endSample_unit (s : State) (u : UnitId) (r : SampleReport) : (s.endSample u r).unit u = { s.unit u with
    audible := { (s.unit u).audible with
      muteSet := (s.unit u).audible.muteSet.filter fun x => decide (x ≠ u), sample := none, report := some r } } := by
  rw [State.endSample, changeAudible_unit, liftMutes_unit]

theorem endSample_other (s : State) (r : SampleReport) (ne : v ≠ u) :
    (s.endSample u r).unit v = (s.liftMutes u).unit v := changeAudible_other _ _ ne

theorem countUnit_count (s : State) (u : UnitId) (f : UnitCounters → UnitCounters) :
    (s.countUnit u f).counters.units[u] = f s.counters.units[u] := change_get_self s.counters.units u f

theorem countUnit_count_other (s : State) (f : UnitCounters → UnitCounters) (ne : v ≠ u) :
    (s.countUnit u f).counters.units[v] = s.counters.units[v] := change_get_ne s.counters.units f ne.symm

theorem mem_liftMutes (s : State) (u v x : UnitId) :
    x ∈ ((s.liftMutes u).unit v).audible.muteSet ↔ x ∈ (s.unit v).audible.muteSet ∧ x ≠ u := by
  simp [liftMutes_unit]

/-- What ending a sample, or closing it early, leaves of the other units, and of every mute set. -/
structure ActsOn (u : UnitId) (s t : State) : Prop where
  unit : ∀ v, v ≠ u → t.unit v = (s.liftMutes u).unit v
  count : ∀ v, v ≠ u → t.counters.units[v] = s.counters.units[v]
  mutes : (t.unit u).audible.muteSet = ((s.liftMutes u).unit u).audible.muteSet
  clock : t.clock = s.clock

theorem ActsOn.disturbed (h : ActsOn u s t) (isOpen : (s.sampling u).isOpen)
    (self : t.sampling u = (s.sampling u).disturbed s.clock.now) : Disturbed (· = u) s t := by
  refine .one self isOpen (fun v ne => ?_) (fun v x => ?_) h.clock
  · unfold State.sampling
    rw [h.unit v ne, h.count v ne, liftMutes_unit]
  · rw [← mem_liftMutes]
    by_cases e : v = u
    · rw [e, h.mutes]
    · rw [h.unit v e]

theorem abandonSample_acts (s : State) (u : UnitId) : ActsOn u s (s.abandonSample u) where
  unit v ne := (request_other _ _ ne).trans (endSample_other s _ ne)
  count v ne := countUnit_count_other _ _ ne
  mutes := by
    rw [State.abandonSample, countUnit_unit, request_unit, endSample_unit, liftMutes_unit]
  clock := rfl

theorem abandonSample_sampling (s : State) (u : UnitId) : (s.abandonSample u).sampling u = (s.sampling u).abandon := by
  unfold State.sampling State.abandonSample
  rw [countUnit_unit, countUnit_count, request_unit, endSample_unit]; rfl

theorem closeSampleEarly_acts (s : State) (u : UnitId) (start : Time) : ActsOn u s (s.closeSampleEarly u start) where
  unit v ne := (request_other _ _ ne).trans (changeAudible_other _ _ ne)
  count _ _ := rfl
  mutes := by rw [State.closeSampleEarly, request_unit, changeAudible_unit]
  clock := rfl

theorem closeSampleEarly_sampling (s : State) (u : UnitId) (start : Time) :
    (s.closeSampleEarly u start).sampling u = (s.sampling u).closeEarly start := by
  unfold State.sampling State.closeSampleEarly
  rw [request_unit, changeAudible_unit, liftMutes_unit]; rfl

/-! ### The samples an onset reaches -/

/-- The unit's sample has muted unit `v`. -/
def State.mutedBy (s : State) (v u : UnitId) : Prop := ∃ q, s.sampleOf u = some q ∧ v ∈ q.muted

theorem mutedBy_of_sampling (h : t.sampling u = s.sampling u) (v : UnitId) : t.mutedBy v u ↔ s.mutedBy v u := by
  have sample : t.sampleOf u = s.sampleOf u := congrArg Sampling.sample h
  rw [State.mutedBy, State.mutedBy, sample]

theorem onsetAt_disturbed (s : State) (v u : UnitId) : Disturbed (fun x => x = u ∧ s.mutedBy v x) s (s.onsetAt v u) := by
  have still (missed : ¬ s.mutedBy v u ∨ ¬ (s.sampling u).isOpen) : Disturbed (fun x => x = u ∧ s.mutedBy v x) s s := by
    refine ⟨fun x ⟨e, muted⟩ => ?_, fun _ _ => rfl, fun _ x => ?_, rfl⟩
    · subst e
      exact (Sampling.disturbed_of_not_open (missed.resolve_left (not_not_intro muted)) _).symm
    · refine (and_iff_left ?_).symm
      rintro ⟨⟨rfl, muted⟩, isOpen⟩
      exact missed.elim (· muted) (· isOpen)
  unfold State.onsetAt
  split
  · rename_i free
    exact still (.inl fun ⟨q, hq, _⟩ => by rw [free] at hq; cases hq)
  · rename_i q found
    have sample : (s.sampling u).sample = some q := found
    split
    · rename_i muted
      have hit (x : UnitId) : x = u ↔ x = u ∧ s.mutedBy v x :=
        (and_iff_left_of_imp fun e => e ▸ ⟨q, found, muted⟩).symm
      have isOpen (h : ∀ start passed, q.phase ≠ .closed start passed) : (s.sampling u).isOpen := ⟨q, sample, h⟩
      cases phase : q.phase with
      | requested =>
        refine Disturbed.congr ((abandonSample_acts s u).disturbed (isOpen (by simp [phase])) ?_) hit
        rw [abandonSample_sampling, Sampling.disturbed, sample]; simp only [phase]
      | measuring start =>
        simp only
        split <;> rename_i short
        · refine Disturbed.congr ((abandonSample_acts s u).disturbed (isOpen (by simp [phase])) ?_) hit
          rw [abandonSample_sampling, Sampling.disturbed, sample]; simp only [phase, short, if_true]
        · refine Disturbed.congr ((closeSampleEarly_acts s u start).disturbed (isOpen (by simp [phase])) ?_) hit
          rw [closeSampleEarly_sampling, Sampling.disturbed, sample]; simp only [phase, short, if_false]
      | closed start passed =>
        exact still (.inr fun ⟨p, hp, not_closed⟩ => by
          obtain rfl := Option.some.inj (sample.symm.trans hp)
          exact not_closed start passed phase)
    · rename_i spared
      exact still (.inl fun ⟨p, hp, muted⟩ => spared (Option.some.inj (hp.symm.trans found) ▸ muted))

theorem onsets_disturbed (v : UnitId) : ∀ (l : List UnitId) (s : State),
    Disturbed (fun x => x ∈ l ∧ s.mutedBy v x) s (l.foldl (State.onsetAt v) s)
  | [], s => by simpa using Disturbed.untouched (s := s) (fun _ => rfl) (fun _ => rfl) rfl
  | u :: l, s => by
    have first := onsetAt_disturbed s v u
    refine (first.trans (onsets_disturbed v l (s.onsetAt v u))).congr fun x => ?_
    by_cases hx : x = u ∧ s.mutedBy v x
    · obtain ⟨rfl, muted⟩ := hx
      simp [muted]
    · rw [mutedBy_of_sampling (first.missed x hx), List.mem_cons, or_and_right]

/-- The onset at a unit acts on every sample whose muted units include it (R163). -/
theorem onset_disturbed (s : State) (v : UnitId) : Disturbed (s.mutedBy v) s (s.onset v) :=
  (onsets_disturbed v allUnits s).congr fun x => by simp

/-! ### The sounding marks and the command in flight (R150) -/

/-- The command in flight, and whether its crossing's walk has begun since it was built. -/
def State.line (s : State) : Option (KerbCommand × Bool) := s.kerb.transaction.map fun x => (x.command, x.beforeWalk)

/-- The sounding marks and the command in flight are as they were. -/
structure MarksKept (s t : State) : Prop where
  sounding : ∀ u, (t.unit u).sounding = (s.unit u).sounding
  line : t.line = s.line

namespace MarksKept

theorem refl (s : State) : MarksKept s s := ⟨fun _ => rfl, rfl⟩

theorem trans (h : MarksKept s t) (k : MarksKept t w) : MarksKept s w :=
  ⟨fun u => (k.sounding u).trans (h.sounding u), k.line.trans h.line⟩

end MarksKept

theorem changeUnit_marks (s : State) (u : UnitId) {f : KerbUnit → KerbUnit} (h : ∀ k, (f k).sounding = k.sounding) :
    MarksKept s (s.changeUnit u f) where
  sounding v := by rw [changeUnit_get]; split <;> [exact h _; rfl]
  line := rfl

theorem changeAudible_marks (s : State) (u : UnitId) (f : Audible → Audible) : MarksKept s (s.changeAudible u f) :=
  changeUnit_marks s u fun _ => rfl

theorem liftMutes_marks (s : State) (u : UnitId) : MarksKept s (s.liftMutes u) :=
  ⟨fun v => by rw [liftMutes_unit], rfl⟩

theorem request_marks (s : State) (u : UnitId) (a : SampleAction) : MarksKept s (s.request u a) where
  sounding := (changeUnit_marks s u (f := fun k => { k with pendingAction := some a }) fun _ => rfl).sounding
  line := by
    simp only [State.line, State.request, KerbLink.supersede, Option.map_map]
    congr 1; funext x; simp only [Function.comp]; split <;> rfl

theorem endSample_marks (s : State) (u : UnitId) (r : SampleReport) : MarksKept s (s.endSample u r) :=
  (liftMutes_marks s u).trans (changeAudible_marks _ u _)

theorem abandonSample_marks (s : State) (u : UnitId) : MarksKept s (s.abandonSample u) :=
  ((endSample_marks s u _).trans (request_marks _ u _)).trans ⟨fun _ => rfl, rfl⟩

theorem closeSampleEarly_marks (s : State) (u : UnitId) (start : Time) : MarksKept s (s.closeSampleEarly u start) :=
  (liftMutes_marks s u).trans <| (changeAudible_marks _ u _).trans (request_marks _ u _)

theorem onsetAt_marks (s : State) (v u : UnitId) : MarksKept s (s.onsetAt v u) := by
  unfold State.onsetAt
  split
  · exact .refl s
  · split
    · split
      · exact abandonSample_marks s u
      · split
        · exact abandonSample_marks s u
        · exact closeSampleEarly_marks s u _
      · exact .refl s
    · exact .refl s

theorem onset_marks (s : State) (v : UnitId) : MarksKept s (s.onset v) :=
  foldl_related _ s .refl .trans fun s u => onsetAt_marks s v u

/-! ### A unit marked sounding -/

/-- The walk begin of the crossing marks the unit: it is the crossing's, and not FAILED. -/
def State.sounds (s : State) (c : CrossingId) (u : UnitId) : Bool :=
  decide ((s.unit u).crossing = some c) && decide ((s.unit u).state ≠ .failed)

/-- The walk begin of the crossing is an onset at the unit. -/
def State.onsetUnit (s : State) (c : CrossingId) (u : UnitId) : Prop := s.sounds c u = true ∧ (s.unit u).sounding = false

theorem sounds_of_steady (h : Steady s t) (c : CrossingId) (u : UnitId) : t.sounds c u = s.sounds c u := by
  unfold State.sounds KerbUnit.crossing
  rw [h.mapping, h.unitState]

/-- From `s` to `t` the walk begin of a crossing marked the units of a list. -/
structure Sounded (c : CrossingId) (l : List UnitId) (s t : State) : Prop where
  steady : Steady s t
  samples : Disturbed (fun x => ∃ u ∈ l, s.onsetUnit c u ∧ s.mutedBy u x) s t
  sounding : ∀ u, (t.unit u).sounding = ((s.unit u).sounding || (decide (u ∈ l) && s.sounds c u))
  line : t.line = s.line.map fun x => (x.1, x.2 || (decide (x.1.address ∈ l) && s.sounds c x.1.address))

/-- The command in flight overtaken, where the unit is the one named and is marked. -/
theorem overtake_line (s : State) (c : CrossingId) (u : UnitId) (h : s.sounds c u = true) :
    ({ s with kerb := s.kerb.overtake u } : State).line =
      s.line.map fun x => (x.1, x.2 || (decide (x.1.address ∈ [u]) && s.sounds c x.1.address)) := by
  simp only [State.line, KerbLink.overtake, Option.map_map]
  congr 1; funext x
  simp only [Function.comp, List.mem_singleton]
  by_cases e : x.command.address = u
  · simp [e, h]
  · simp [e]

theorem soundUnit_sounded (s : State) (c : CrossingId) (u : UnitId) : Sounded c [u] s (s.soundUnit c u) := by
  have steady := soundUnit_steady s c u
  by_cases sounds : s.sounds c u = true
  · let w : State := { s with kerb := s.kerb.overtake u }
    have taken : (s.unit u).crossing = some c ∧ (s.unit u).state ≠ .failed := by simpa [State.sounds] using sounds
    have e : s.soundUnit c u = if (s.unit u).sounding then w
        else (w.changeUnit u fun k => { k with sounding := true }).onset u := if_pos taken
    rw [e] at steady ⊢
    split at steady <;> rename_i sounding
    · rw [if_pos sounding]
      refine ⟨steady, (Disturbed.untouched (s := s) (t := w) (fun _ => rfl) (fun _ => rfl) rfl).congr fun x => ?_, fun v => ?_,
        overtake_line s c u sounds⟩
      · simp [State.onsetUnit, sounding]
      · change (s.unit v).sounding = _
        by_cases same : v = u
        · rw [same, sounding, Bool.true_or]
        · simp [same]
    · rw [if_neg sounding]
      have mark (v : UnitId) : (w.changeUnit u fun k => { k with sounding := true }).unit v =
          if u = v then { s.unit v with sounding := true } else s.unit v := changeUnit_get w u v _
      have marked : Disturbed (fun _ => False) s (w.changeUnit u fun k => { k with sounding := true }) := by
        refine .untouched (fun v => ?_) (fun v => ?_) rfl
        · unfold State.sampling; rw [mark]; split <;> rfl
        · rw [mark]; split <;> rfl
      have kept := onset_marks (w.changeUnit u fun k => { k with sounding := true }) u
      refine ⟨steady, (marked.trans (onset_disturbed _ u)).congr fun x => ?_, fun v => ?_,
        kept.line.trans (overtake_line s c u sounds)⟩
      · have fresh : s.onsetUnit c u := ⟨sounds, by simpa using sounding⟩
        rw [mutedBy_of_sampling (marked.missed x id)]
        simp [fresh]
      · rw [kept.sounding, mark]
        by_cases same : v = u
        · subst same; simp [sounds]
        · simp [same, Ne.symm same]
  · have e : s.soundUnit c u = s := if_neg (by simpa [State.sounds] using sounds)
    have quiet : s.sounds c u = false := by simpa using sounds
    have none (v : UnitId) : (decide (v ∈ [u]) && s.sounds c v) = false := by
      by_cases same : v = u <;> simp [same, quiet]
    rw [e]
    refine ⟨.refl s, (Disturbed.untouched (fun _ => rfl) (fun _ => rfl) rfl).congr fun x => ?_, fun v => ?_, ?_⟩
    · simp [State.onsetUnit, quiet]
    · rw [none, Bool.or_false]
    · simp only [none, Bool.or_false, Prod.mk.eta, Option.map_id_fun', id_eq]

/-- The walk begin at units no two of which are the same marks each of them. -/
theorem soundUnits_sounded (c : CrossingId) : ∀ (l : List UnitId) (s : State), l.Nodup →
    Sounded c l s (l.foldl (State.soundUnit c) s)
  | [], s, _ => ⟨.refl s, (Disturbed.untouched (fun _ => rfl) (fun _ => rfl) rfl).congr fun x => by simp,
      fun _ => by simp, by simp⟩
  | u :: l, s, nodup => by
    obtain ⟨out, nodup⟩ := List.nodup_cons.1 nodup
    have first := soundUnit_sounded s c u
    have rest := soundUnits_sounded c l (s.soundUnit c u) nodup
    have same (v : UnitId) : (s.soundUnit c u).sounds c v = s.sounds c v := sounds_of_steady first.steady c v
    have onset (v : UnitId) (hv : v ∈ l) : (s.soundUnit c u).onsetUnit c v ↔ s.onsetUnit c v := by
      have ne : v ≠ u := fun e => out (e ▸ hv)
      unfold State.onsetUnit
      rw [same, first.sounding, decide_eq_false (by simpa using ne), Bool.false_and, Bool.or_false]
    refine ⟨first.steady.trans rest.steady, (first.samples.trans rest.samples).congr fun x => ?_, fun v => ?_, ?_⟩
    · by_cases hx : ∃ v ∈ [u], s.onsetUnit c v ∧ s.mutedBy v x
      · obtain ⟨v, hv, hit⟩ := hx
        exact iff_of_true (.inl ⟨v, hv, hit⟩) ⟨v, List.mem_cons.2 (.inl (List.mem_singleton.1 hv)), hit⟩
      · have later : (∃ v ∈ l, (s.soundUnit c u).onsetUnit c v ∧ (s.soundUnit c u).mutedBy v x) ↔
            ∃ v ∈ l, s.onsetUnit c v ∧ s.mutedBy v x :=
          exists_congr fun v => and_congr_right fun hv => and_congr (onset v hv) (mutedBy_of_sampling (first.samples.missed x hx) v)
        rw [later]
        simp
    · rw [List.foldl_cons, rest.sounding, first.sounding, same]
      by_cases e : v = u
      · simp [e, out]
      · simp [e]
    · rw [List.foldl_cons, rest.line, first.line, Option.map_map]
      congr 1; funext x
      simp only [Function.comp, same]
      by_cases e : x.1.address = u
      · simp [e, out]
      · simp [e]

theorem allUnits_nodup : allUnits.Nodup := by decide

/-- The walk begin of a crossing marks each of its units that is not FAILED (R150). -/
theorem soundCrossing_sounded (s : State) (c : CrossingId) : Sounded c allUnits s (s.soundCrossing c) :=
  soundUnits_sounded c allUnits s allUnits_nodup

end Sys2Proof.Machine
end

section
/-!
Walk begin: the linked call, the wait filed, and the units marked (O39).
-/

namespace Sys2Proof.Machine

variable {s t w : State} {c d p : CrossingId} {k : Stage} {r : Record} {o : Offer} {q : CallRecord} {u : UnitId}

/-! ### What admission and demand leave of the kerb link, and of a unit's levels (R155, R157) -/

/-- The unit's levels are those its crossing's record and mark, the quiet flag and its own estimate give. -/
def State.LevelledAt (s : State) (u : UnitId) : Prop := ∀ m, (s.unit u).mapping = some m →
  (s.unit u).audible.locatorLevel =
    locatorLevelOf (s.crossing m.crossing).record s.clock.quiet (s.unit u).audible.base ∧
  (s.unit u).audible.walkLevel = walkLevelOf (s.crossing m.crossing).record (s.crossing m.crossing).accessibleMark
    s.clock.quiet (s.unit u).audible.base

/-- Admission and demand leave the kerb link master alone, and a unit's levels follow its crossing. -/
structure DemandWork (s t : State) : Prop where
  kerb : t.kerb = s.kerb
  levels : ∀ u, s.LevelledAt u → t.LevelledAt u

namespace DemandWork

theorem refl (s : State) : DemandWork s s := ⟨rfl, fun _ => id⟩

theorem trans (h : DemandWork s t) (k : DemandWork t w) : DemandWork s w :=
  ⟨k.kerb.trans h.kerb, fun u => k.levels u ∘ h.levels u⟩

theorem after (k : DemandWork t w) (h : DemandWork s t) : DemandWork s w := h.trans k

end DemandWork

theorem raise_demand (s : State) (n : NoticeBody) : DemandWork s (s.raise n) := ⟨rfl, fun _ => id⟩

theorem withCalls_demand (s : State) (l : List CallRecord) : DemandWork s { s with calls := l } := ⟨rfl, fun _ => id⟩

theorem changeGroup_demand (s : State) (g : GroupId) (f : Group → Group) : DemandWork s (s.changeGroup g f) :=
  ⟨rfl, fun _ => id⟩

theorem countCrossing_demand (s : State) (c : CrossingId) (f : CrossingCounters → CrossingCounters) :
    DemandWork s (s.countCrossing c f) := ⟨rfl, fun _ => id⟩

/-- A crossing's levels rest on its record and its mark. -/
theorem changeCrossing_demand (s : State) (c : CrossingId) {f : Crossing → Crossing}
    (h : ∀ x, (f x).record = x.record ∧ (f x).accessibleMark = x.accessibleMark) : DemandWork s (s.changeCrossing c f) := by
  refine ⟨rfl, fun u levelled m mapped => ?_⟩
  have same : ((s.changeCrossing c f).crossing m.crossing).record = (s.crossing m.crossing).record ∧
      ((s.changeCrossing c f).crossing m.crossing).accessibleMark = (s.crossing m.crossing).accessibleMark := by
    rw [changeCrossing_get]; split <;> [exact h _; exact ⟨rfl, rfl⟩]
  rw [same.1, same.2]
  exact levelled m mapped

theorem await_demand (s : State) (c : CrossingId) (x : Route) (y : WaitReason) : DemandWork s (s.await c x y) :=
  changeCrossing_demand s c fun _ => ⟨rfl, rfl⟩

theorem removeCall_demand (s : State) (c : CrossingId) (x : RemovalReason) : DemandWork s (s.removeCall c x) := by
  unfold State.removeCall; split
  · exact .refl s
  · exact .after (raise_demand _ _) (.after (changeCrossing_demand _ c fun _ => ⟨rfl, rfl⟩) (withCalls_demand s _))

theorem relevelUnit_mapping (crossings : Vector Crossing 8) (quiet : Bool) (e : KerbUnit) :
    (relevelUnit crossings quiet e).mapping = e.mapping := by unfold relevelUnit; split <;> rfl

theorem markAccessible_demand (s : State) (c : CrossingId) (b : Bool) : DemandWork s (s.markAccessible c b) := by
  unfold State.markAccessible; split
  · exact .refl s
  · refine ⟨rfl, fun u levelled m mapped => ?_⟩
    let w := s.changeCrossing c fun x => { x with accessibleMark := b }
    have unit : (w.relevelCrossing c).unit u = if (s.unit u).crossing = some c then relevelUnit w.crossings s.clock.quiet (s.unit u)
        else s.unit u := rewrite_get _ _ _
    rw [unit] at mapped ⊢
    have mapping : (s.unit u).mapping = some m := by
      split at mapped
      · rwa [relevelUnit_mapping] at mapped
      · exact mapped
    split <;> rename_i here
    · simp only [relevelUnit, mapping]
      exact ⟨rfl, rfl⟩
    · have ne : c ≠ m.crossing := fun e => here (by simp [KerbUnit.crossing, mapping, e])
      rw [show (w.relevelCrossing c).crossing m.crossing = s.crossing m.crossing from changeCrossing_other s _ ne]
      exact levelled m mapping

theorem admitCall_demand (s : State) (c : CrossingId) (call : CallRecord) (r : Record) (a : Admission) :
    DemandWork s (s.admitCall c call r a) := by
  have truncated (w : State) (k : Stage) : DemandWork w (w.raiseTruncated c k a.cut) := by
    cases a.cut <;> [exact .refl w; exact raise_demand w _]
  unfold State.admitCall
  exact .after (truncated _ _) <| .after (raise_demand _ _) <| .after (countCrossing_demand _ c _) <|
    .after (markAccessible_demand _ c _) <| .after (changeCrossing_demand _ c fun _ => ⟨rfl, rfl⟩) (removeCall_demand s c _)

theorem groupTurn_demand (s : State) (g : GroupId) (c : CrossingId) : DemandWork s (s.groupTurn g c) := by
  unfold State.groupTurn; split
  · split
    · unfold State.considerInGroup; split
      · exact await_demand s c _ _
      · split
        · exact await_demand s c _ _
        · split
          · exact .after (admitCall_demand _ c _ _ _) (changeGroup_demand s g _)
          · exact await_demand s c _ _
    · exact .refl s
  · exact .refl s

theorem evaluateOn_demand (s : State) (c : CrossingId) (call : CallRecord) (r : Record) (route : Route) :
    DemandWork s (s.evaluateOn c call r route) := by
  cases route with
  | band =>
    change DemandWork s (s.evaluateBand c call r)
    unfold State.evaluateBand; split <;> [exact admitCall_demand s c call r _; exact await_demand s c _ _]
  | group g => exact foldl_related _ s .refl .trans fun s c => groupTurn_demand s g c
  | direct =>
    change DemandWork s (s.evaluateDirect c call r)
    unfold State.evaluateDirect; split <;> [exact admitCall_demand s c call r _; exact await_demand s c _ _]

theorem evaluate_demand (s : State) (c : CrossingId) : DemandWork s (s.evaluate c) := by
  unfold State.evaluate; split
  · split
    · exact await_demand s c _ _
    · exact evaluateOn_demand s c _ _ _
  · exact .refl s

theorem intoQueue_demand (s : State) (c : CrossingId) (o : Offer) : DemandWork s (s.intoQueue c o).2 := by
  rw [intoQueue_eq]
  refine .after (evaluate_demand _ c) ?_
  unfold State.queued; split
  · exact withCalls_demand s _
  · exact .after (raise_demand _ _) (.after (countCrossing_demand _ c _) (withCalls_demand s _))

theorem offer_demand (s : State) (c : CrossingId) (o : Offer) : DemandWork s (s.offer c o).2 := by
  unfold State.offer; dsimp only; split
  · exact intoQueue_demand s c o
  · split
    · split
      · unfold State.tryUpgrade; dsimp only; split
        · exact .refl s
        · split
          · exact .refl s
          · exact .after (markAccessible_demand _ c _) <| .after (raise_demand _ _) <| .after (countCrossing_demand _ c _) <|
              changeCrossing_demand s c fun _ => ⟨rfl, rfl⟩
          · split
            · exact intoQueue_demand s c o
            · exact .refl s
      · exact .refl s
    · exact .refl s

/-! ### An offer that is not accessible (R50) -/

/-- An offer that is not accessible enters the queue, or leaves the state as it was. -/
theorem offer_plain (plain : o.accessible = false) : (s.offer c o).2 = (s.intoQueue c o).2 ∨ (s.offer c o).2 = s := by
  by_cases h : (s.crossing c).inService = true ∧ (s.crossing c).state.registering = true
  · exact .inl (by rw [offer_registers o h.1 h.2])
  · exact .inr (offer_passed plain (by
      rcases not_and_or.1 h with out | moving
      · exact .inl (by simpa using out)
      · exact .inr (by simpa using moving)))

/-- Another crossing, where no stage can start, waits on through it. -/
theorem offer_plain_waits (plain : o.accessible = false) (ne : p ≠ c) (green : (s.crossing c).greenExpired = false) :
    Waits c s (s.offer p o).2 := by
  rcases offer_plain (s := s) (c := p) plain with e | e
  · rw [e, intoQueue_eq]
    have queued : Waits c s (s.queued p o) := waits_of_within (queued_alone s p o).within ne.symm
    exact queued.trans ((evaluate_evaluated (s.queued p o) p).waits c (queued.barred (.inl green)))
  · rw [e]; exact .refl c s

/-! ### The linked call (R55) -/

/-- The counters of the crossing after its linked call has been placed or dropped. -/
def State.linked (s : State) (c : CrossingId) (k : Stage) (n : CrossingCounters) : CrossingCounters :=
  match (s.crossing c).record.bind (·.partner) with
  | none => n
  | some p =>
    if k.origins.linkAlone then n
    else if (s.crossing p).inService then { n with linkedPlaced := min (n.linkedPlaced + 1) 65535 }
    else { n with linkedDropped := min (n.linkedDropped + 1) 65535 }

theorem linked_keeps (s : State) (c : CrossingId) (k : Stage) (n : CrossingCounters) :
    ∃ placed dropped, s.linked c k n = { n with linkedPlaced := placed, linkedDropped := dropped } := by
  unfold State.linked
  repeat' split
  all_goals exact ⟨_, _, rfl⟩

theorem linked_none (h : (s.crossing c).record.bind (·.partner) = none ∨ k.origins.linkAlone = true)
    (n : CrossingCounters) : s.linked c k n = n := by
  unfold State.linked
  rcases h with none | alone
  · rw [none]
  · rw [alone]; split <;> rfl

/-- No linked call is called for. -/
theorem placeLink_none (h : (s.crossing c).record.bind (·.partner) = none ∨ k.origins.linkAlone = true) :
    s.placeLink c k = s := by
  unfold State.placeLink
  split
  · rfl
  · rename_i r record
    split
    · rfl
    · rename_i p partner
      rw [record, Option.bind_some, partner] at h
      exact if_pos (h.resolve_left nofun)

section Partner

variable (record : (s.crossing c).record = some r) (partner : r.partner = some p) (origins : k.origins.linkAlone = false)
include record partner origins

theorem linked_partner (n : CrossingCounters) : s.linked c k n =
    if (s.crossing p).inService then { n with linkedPlaced := min (n.linkedPlaced + 1) 65535 }
    else { n with linkedDropped := min (n.linkedDropped + 1) 65535 } := by
  simp only [State.linked, record, Option.bind_some, partner, origins, Bool.false_eq_true, if_false]

theorem placeLink_dropped (out : (s.crossing p).inService = false) : s.placeLink c k =
    s.countCrossing c fun n => { n with linkedDropped := min (n.linkedDropped + 1) 65535 } := by
  simp only [State.placeLink, record, partner, origins, out, Bool.false_eq_true, if_false]; rfl

theorem placeLink_placed (service : (s.crossing p).inService = true) : s.placeLink c k =
    ((s.offer p (linkOffer s.clock.now r.linkDelay)).2).countCrossing c fun n =>
      { n with linkedPlaced := min (n.linkedPlaced + 1) 65535 } := by
  simp only [State.placeLink, record, partner, origins, service, Bool.false_eq_true, if_false, if_true]; rfl

end Partner

/-- What the linked call leaves of the crossing whose walk begins, of the units and of the kerb link master. -/
structure LinkPlaced (c : CrossingId) (k : Stage) (s t : State) : Prop where
  crossing : ({ t.crossing c with route := none, waiting := none } : Crossing) =
    { s.crossing c with route := none, waiting := none }
  counters : t.counters.crossings[c] = s.linked c k s.counters.crossings[c]
  units : UnitsKept s t
  kerb : t.kerb = s.kerb

theorem placeLink_placedLink (apart : ∀ r, (s.crossing c).record = some r → r.partner ≠ some c)
    (green : (s.crossing c).greenExpired = false) : LinkPlaced c k s (s.placeLink c k) := by
  by_cases none : (s.crossing c).record.bind (·.partner) = none ∨ k.origins.linkAlone = true
  · rw [placeLink_none none]
    exact ⟨rfl, (linked_none none _).symm, .refl s, rfl⟩
  · obtain ⟨named, origins⟩ := not_or.1 none
    obtain ⟨p, hp⟩ := Option.ne_none_iff_exists'.1 named
    obtain ⟨r, record, partner⟩ := Option.bind_eq_some_iff.1 hp
    have origins : k.origins.linkAlone = false := by simpa using origins
    have ne : p ≠ c := fun e => apart r record (by rw [partner, e])
    by_cases service : (s.crossing p).inService = true
    · have plain : (linkOffer s.clock.now r.linkDelay).accessible = false := rfl
      have waits := offer_plain_waits plain ne green
      rw [placeLink_placed record partner origins service]
      refine ⟨waits.crossing, ?_, .after (countCrossing_unitsKept _ c fun _ => ⟨rfl, rfl⟩) (offer_unitsKept s p _),
        (offer_demand s p _).kerb⟩
      refine (change_get_self _ c _).trans ?_
      rw [show (s.offer p (linkOffer s.clock.now r.linkDelay)).2.counters.crossings[c.val] = s.counters.crossings[c] from
        waits.counters]
      simp only [State.linked, hp, origins, service, Bool.false_eq_true, if_false, if_true]
    · have out : (s.crossing p).inService = false := by simpa using service
      rw [placeLink_dropped record partner origins out]
      refine ⟨rfl, (change_get_self _ c _).trans ?_, countCrossing_unitsKept s c fun _ => ⟨rfl, rfl⟩, rfl⟩
      simp only [State.linked, hp, origins, out, Bool.false_eq_true, if_false]; rfl

/-- What the linked call leaves at the partner. -/
theorem placeLink_callOf (record : (s.crossing c).record = some r) (partner : r.partner = some p)
    (origins : k.origins.linkAlone = false) : (s.placeLink c k).callOf p =
      if (s.crossing p).inService then (s.offer p (linkOffer s.clock.now r.linkDelay)).2.callOf p else s.callOf p := by
  split <;> rename_i service
  · rw [placeLink_placed record partner origins service, countCrossing_callOf]
  · rw [placeLink_dropped record partner origins (by simpa using service), countCrossing_callOf]

theorem recordWith_link_free (free : s.callOf c = none) (delay : Nat) :
    s.recordWith c (linkOffer s.clock.now delay) =
      { crossing := c, registeredAt := s.clock.now, sides := {}, origins := { link := true }, accessible := false,
        pressCount := 0, notBefore := notBeforeOf s.clock.now delay } := recordWith_free _ free

theorem recordWith_link_merged (found : s.callOf c = some q) (delay : Nat) :
    s.recordWith c (linkOffer s.clock.now delay) = { q with
      origins := { q.origins with link := true }
      pressCount := min q.pressCount 255
      notBefore := mergeNotBefore q.notBefore (notBeforeOf s.clock.now delay) } := by
  rw [recordWith_merged _ found]
  simp [CallRecord.merge, linkOffer, Sides.union, Origins.union]

/-- The linked call at a registering partner where no stage can start: the record with it taken in. -/
theorem offer_link_callOf (service : (s.crossing p).inService = true) (registers : (s.crossing p).state.registering = true)
    {delay : Nat} (bar : (s.crossing p).greenExpired = false ∨ (0 < delay ∧ ∀ q, s.callOf p = some q → q.notBefore.isSome = true)) :
    (s.offer p (linkOffer s.clock.now delay)).2.callOf p = some (s.recordWith p (linkOffer s.clock.now delay)) := by
  rw [offer_registers _ service registers]
  refine (intoQueue_enqueued (queued_barred (bar.imp_right fun ⟨later, held⟩ => ?_))).call
  obtain ⟨n, hn⟩ := Option.isSome_iff_exists.1 (notBeforeOf_isSome s.clock.now later)
  cases found : s.callOf p with
  | none => rw [recordWith_link_free found, hn]; rfl
  | some q =>
    obtain ⟨m, hm⟩ := Option.isSome_iff_exists.1 (held q found)
    rw [recordWith_link_merged found, hn, hm]; rfl

/-! ### The wait filed (R171) -/

theorem fileWait_links (n : CrossingCounters) (wait : Nat) :
    (n.fileWait wait).linkedPlaced = n.linkedPlaced ∧ (n.fileWait wait).linkedDropped = n.linkedDropped := by
  unfold CrossingCounters.fileWait
  dsimp only
  repeat' split
  all_goals exact ⟨rfl, rfl⟩

/-- The bin a wait is filed in. -/
theorem fileWait_bins (n : CrossingCounters) (wait : Nat) :
    let m := n.fileWait wait
    m.maxWait = max n.maxWait wait ∧
    m.wait0 = (if wait < 150 then min (n.wait0 + 1) 65535 else n.wait0) ∧
    m.wait150 = (if 150 ≤ wait ∧ wait < 300 then min (n.wait150 + 1) 65535 else n.wait150) ∧
    m.wait300 = (if 300 ≤ wait ∧ wait < 450 then min (n.wait300 + 1) 65535 else n.wait300) ∧
    m.wait450 = (if 450 ≤ wait ∧ wait < 600 then min (n.wait450 + 1) 65535 else n.wait450) ∧
    m.wait600 = (if 600 ≤ wait ∧ wait < 900 then min (n.wait600 + 1) 65535 else n.wait600) ∧
    m.wait900 = (if 900 ≤ wait then min (n.wait900 + 1) 65535 else n.wait900) := by
  unfold CrossingCounters.fileWait satAdd
  grind

/-! ### The marks touch units alone -/

/-- Crossings, call records and the crossings' counters are as they were. -/
structure QueueKept (s t : State) : Prop where
  crossings : t.crossings = s.crossings
  calls : t.calls = s.calls
  counters : t.counters.crossings = s.counters.crossings

namespace QueueKept

theorem refl (s : State) : QueueKept s s := ⟨rfl, rfl, rfl⟩

theorem trans (h : QueueKept s t) (k : QueueKept t w) : QueueKept s w :=
  ⟨k.crossings.trans h.crossings, k.calls.trans h.calls, k.counters.trans h.counters⟩

end QueueKept

theorem onset_queue (s : State) (u : UnitId) : QueueKept s (s.onset u) := by
  refine foldl_related _ s .refl .trans fun s v => ?_
  unfold State.onsetAt
  split
  · exact .refl s
  · split
    · split
      · exact ⟨rfl, rfl, rfl⟩
      · split <;> exact ⟨rfl, rfl, rfl⟩
      · exact .refl s
    · exact .refl s

theorem soundCrossing_queue (s : State) (c : CrossingId) : QueueKept s (s.soundCrossing c) := by
  refine foldl_related _ s .refl .trans fun s u => ?_
  unfold State.soundUnit
  dsimp only
  split
  · split
    · exact ⟨rfl, rfl, rfl⟩
    · refine .trans ?_ (onset_queue _ u)
      exact ⟨rfl, rfl, rfl⟩
  · exact .refl s

/-! ### Walk begin (R105) -/

/-- The crossing entered into WALK. -/
def State.walking (s : State) (c : CrossingId) (k : Stage) : State := s.changeCrossing c fun x => x.enter .walk (some k.walk)

/-- WALK_BEGIN sent and the wait filed. -/
def State.filed (s : State) (c : CrossingId) (k : Stage) : State :=
  let wait := reportedSince s.clock.now k.registeredAt
  (s.raise (.walkBegin c k.walk k.clearance k.accessible wait)).countCrossing c fun n => n.fileWait wait

/-- Walk begin before the units are marked. -/
def State.walkFiled (s : State) (c : CrossingId) (k : Stage) : State := ((s.walking c k).placeLink c k).filed c k

theorem beginWalk_eq (s : State) (c : CrossingId) (k : Stage) : s.beginWalk c k = (s.walkFiled c k).soundCrossing c := rfl

theorem countCrossing_count (s : State) (c : CrossingId) (f : CrossingCounters → CrossingCounters) :
    (s.countCrossing c f).counters.crossings[c] = f s.counters.crossings[c] := change_get_self s.counters.crossings c f

theorem filed_counters (s : State) (c : CrossingId) (k : Stage) : (s.filed c k).counters.crossings[c] =
    (s.counters.crossings[c]).fileWait (min (since s.clock.now k.registeredAt) 65535) := countCrossing_count _ c _

theorem filed_steady (s : State) (c : CrossingId) (k : Stage) : Steady s (s.filed c k) :=
  .after (countCrossing_steady _ c _) (raise_steady s _)

theorem filed_unitsKept (s : State) (c : CrossingId) (k : Stage) : UnitsKept s (s.filed c k) := by
  refine .after (countCrossing_unitsKept _ c fun n => ?_) (raise_unitsKept s _)
  unfold CrossingCounters.fileWait
  dsimp only
  repeat' split
  all_goals exact ⟨rfl, rfl⟩

theorem walking_other (ne : d ≠ c) : (s.walking c k).crossing d = s.crossing d := changeCrossing_other s _ ne.symm

theorem walking_crossing : (s.walking c k).crossing c = (s.crossing c).enter .walk (some k.walk) := changeCrossing_crossing s c _

theorem walking_record : ((s.walking c k).crossing c).record = (s.crossing c).record := by rw [walking_crossing]; rfl

section WalkBegin

variable (apart : ∀ r, (s.crossing c).record = some r → r.partner ≠ some c)
include apart

theorem walking_linked (n : CrossingCounters) : (s.walking c k).linked c k n = s.linked c k n := by
  unfold State.linked
  rw [walking_record]
  split
  · rfl
  · rename_i p hp
    obtain ⟨r, own, partner⟩ := Option.bind_eq_some_iff.1 hp
    rw [walking_other fun e => apart r own (by rw [partner, e])]

/-- What walk begin leaves of its crossing, of the units before they are marked, and of the kerb link master. -/
structure WalkFiled (c : CrossingId) (k : Stage) (s t : State) : Prop where
  state : (t.crossing c).state = .walk
  timeLeft : (t.crossing c).timeLeft = some k.walk
  stage : (t.crossing c).stage = (s.crossing c).stage
  timeInState : (t.crossing c).timeInState = 0
  counters : t.counters.crossings[c] =
    (s.linked c k s.counters.crossings[c]).fileWait (min (since s.clock.now k.registeredAt) 65535)
  units : UnitsKept s t
  kerb : t.kerb = s.kerb
  steady : Steady s t

theorem walkFiled_spec : WalkFiled c k s (s.walkFiled c k) := by
  have green : ((s.walking c k).crossing c).greenExpired = false := greenExpired_of_state (by rw [walking_crossing]; nofun)
  obtain ⟨crossing, counters, units, kerb⟩ := placeLink_placedLink (k := k) (s := s.walking c k) (by rw [walking_record]; exact apart) green
  have walked : Steady s ((s.walking c k).placeLink c k) :=
    .after (placeLink_steady _ c k) (changeCrossing_steady s c fun _ => rfl)
  rw [walking_crossing] at crossing
  rw [walking_linked apart] at counters
  unfold State.walkFiled
  generalize (s.walking c k).placeLink c k = w at crossing counters units kerb walked
  refine ⟨(congrArg Crossing.state crossing :), (congrArg Crossing.timeLeft crossing :), (congrArg Crossing.stage crossing :),
    (congrArg Crossing.timeInState crossing :), ?_, ?_, kerb, .after (filed_steady w c k) walked⟩
  · rw [filed_counters, counters, walked.clock]; rfl
  · exact .after (filed_unitsKept w c k) (.after units (changeCrossing_unitsKept s c _))

end WalkBegin

/-! ### The units of the crossing whose walk begins -/

namespace UnitsKept

theorem entry (h : UnitsKept s t) (u : UnitId) : t.sampling u = s.sampling u ∧
    (t.unit u).audible.muteSet = (s.unit u).audible.muteSet ∧ (t.unit u).sounding = (s.unit u).sounding := by
  have unit := h.unit u
  refine ⟨Sampling.ext ?_ ?_ ?_ ?_, ?_, ?_⟩
  · exact (congrArg (fun k : KerbUnit => k.audible.sample) unit :)
  · exact (congrArg KerbUnit.pendingAction unit :)
  · exact (congrArg (fun k : KerbUnit => k.audible.report) unit :)
  · exact congrArg (fun v : Vector UnitCounters 32 => v[u].samplesAbandoned) h.counters
  · exact (congrArg (fun k : KerbUnit => k.audible.muteSet) unit :)
  · exact (congrArg KerbUnit.sounding unit :)

theorem disturbed (h : UnitsKept s t) (clock : t.clock = s.clock) : Disturbed (fun _ => False) s t :=
  .untouched (fun u => (h.entry u).1) (fun u => (h.entry u).2.1) clock

end UnitsKept

/-- The unit's sample meets the onset of the crossing's walk begin. -/
def State.meetsOnset (s : State) (c : CrossingId) (u : UnitId) : Prop := ∃ q, s.sampleOf u = some q ∧ s.onsetReaches c q

section Marked

variable (filed : WalkFiled c k s t) (marked : Sounded c allUnits t w)
include filed marked

theorem walkBegun_samples : Disturbed (s.meetsOnset c) s w := by
  have kept := filed.units.disturbed filed.steady.clock
  refine (kept.trans marked.samples).congr fun u => ?_
  have onset (v : UnitId) : t.onsetUnit c v ↔ (s.unit v).crossing = some c ∧ (s.unit v).state ≠ .failed ∧
      (s.unit v).sounding = false := by
    rw [State.onsetUnit, sounds_of_steady filed.steady, (filed.units.entry v).2.2]
    simp [State.sounds, and_assoc]
  simp only [mem_allUnits, true_and, false_or, onset, mutedBy_of_sampling (kept.missed u id)]
  exact ⟨fun ⟨v, fresh, q, found, muted⟩ => ⟨q, found, v, muted, fresh⟩,
    fun ⟨q, found, v, muted, fresh⟩ => ⟨v, fresh, q, found, muted⟩⟩

theorem walkBegun_sounding (u : UnitId) : (w.unit u).sounding = ((s.unit u).sounding || s.sounds c u) := by
  rw [marked.sounding, (filed.units.entry u).2.2, sounds_of_steady filed.steady]
  simp

theorem walkBegun_line : w.line = s.line.map fun x => (x.1, x.2 || s.sounds c x.1.address) := by
  have line : t.line = s.line := by unfold State.line; rw [filed.kerb]
  rw [marked.line, line]
  simp [sounds_of_steady filed.steady]

end Marked

theorem meetsOnset_open : s.meetsOnset c u ∧ (s.sampling u).isOpen ↔
    ∃ x, (s.unit u).audible.sample = some x ∧ s.onsetReaches c x ∧ ∀ start passed, x.phase ≠ .closed start passed := by
  constructor
  · rintro ⟨⟨x, found, reaches⟩, y, own, isOpen⟩
    obtain rfl := Option.some.inj (found.symm.trans own)
    exact ⟨x, found, reaches, isOpen⟩
  · rintro ⟨x, found, reaches, isOpen⟩
    exact ⟨⟨x, found, reaches⟩, x, found, isOpen⟩

/-! ### The samples an onset has met, as the statement lists them -/

namespace Disturbed

theorem free (h : Disturbed (s.meetsOnset c) s t) (free : (s.unit u).audible.sample = none) :
    (t.unit u).audible.sample = none ∧ (t.unit u).pendingAction = (s.unit u).pendingAction := by
  have missed := h.missed u fun ⟨q, found, _⟩ => by rw [State.sampleOf, free] at found; cases found
  exact ⟨(congrArg Sampling.sample missed).trans free, congrArg Sampling.action missed⟩

variable {x : Sample} (found : (s.unit u).audible.sample = some x)
include found

theorem meets_iff : s.meetsOnset c u ↔ s.onsetReaches c x :=
  ⟨fun ⟨_, own, reaches⟩ => Option.some.inj (own.symm.trans found) ▸ reaches, fun reaches => ⟨x, found, reaches⟩⟩

theorem spared (h : Disturbed (s.meetsOnset c) s t) (reaches : ¬ s.onsetReaches c x) :
    (t.unit u).audible.sample = some x ∧ (t.unit u).pendingAction = (s.unit u).pendingAction ∧
      t.counters.units[u].samplesAbandoned = s.counters.units[u].samplesAbandoned := by
  have missed := h.missed u (mt (meets_iff found).1 reaches)
  exact ⟨(congrArg Sampling.sample missed).trans found, congrArg Sampling.action missed, congrArg Sampling.abandoned missed⟩

theorem met (h : Disturbed (s.meetsOnset c) s t) (reaches : s.onsetReaches c x) :
    match x.phase with
    | .requested => SampleAbandoned s t u
    | .measuring start =>
      if since s.clock.now start < 12 then SampleAbandoned s t u
      else (t.unit u).audible.sample = some { x with phase := .closed start false, earlyEnd := true } ∧
        (t.unit u).pendingAction = some .stop ∧
        t.counters.units[u].samplesAbandoned = s.counters.units[u].samplesAbandoned
    | .closed _ _ => (t.unit u).audible.sample = some x ∧ (t.unit u).pendingAction = (s.unit u).pendingAction := by
  have hit := h.hit u ((meets_iff found).2 reaches)
  have sample : (s.sampling u).sample = some x := found
  have abandoned (e : t.sampling u = (s.sampling u).abandon) : SampleAbandoned s t u :=
    ⟨⟨congrArg Sampling.sample e, congrArg Sampling.report e⟩, congrArg Sampling.action e, congrArg Sampling.abandoned e⟩
  simp only [Sampling.disturbed, sample] at hit
  cases phase : x.phase with
  | requested =>
    rw [phase] at hit
    exact abandoned hit
  | measuring start =>
    rw [phase] at hit
    simp only at hit ⊢
    split at hit <;> rename_i short
    · rw [if_pos short]; exact abandoned hit
    · rw [if_neg short]
      refine ⟨?_, congrArg Sampling.action hit, congrArg Sampling.abandoned hit⟩
      refine (congrArg Sampling.sample hit).trans ?_
      simp only [Sampling.closeEarly, sample, Option.map_some]
  | closed start passed =>
    rw [phase] at hit
    exact ⟨(congrArg Sampling.sample hit).trans found, congrArg Sampling.action hit⟩

end Disturbed

/-! ### The partner's record -/

section Link

variable (record : (s.crossing c).record = some r) (partner : r.partner = some p) (origins : k.origins.linkAlone = false)
  (ne : p ≠ c)
include record partner origins ne

theorem walking_placeLink_callOf : ((s.walking c k).placeLink c k).callOf p =
    if (s.crossing p).inService then ((s.walking c k).offer p (linkOffer s.clock.now r.linkDelay)).2.callOf p
    else s.callOf p := by
  have e := placeLink_callOf (s := s.walking c k) (walking_record.trans record) partner origins
  rw [walking_other ne] at e
  exact e

/-- A partner out of service, or in service in no registering state, keeps its record. -/
theorem linked_passed (h : (s.crossing p).inService = false ∨ (s.crossing p).state.registering = false) :
    ((s.walking c k).placeLink c k).callOf p = s.callOf p := by
  rw [walking_placeLink_callOf record partner origins ne]
  split
  · rw [offer_passed rfl (by rw [walking_other ne]; exact h)]; rfl
  · rfl

/-- At a registering partner where no stage can start the linked call is taken into its queue. -/
theorem linked_registers (service : (s.crossing p).inService = true) (registers : (s.crossing p).state.registering = true)
    (bar : (s.crossing p).greenExpired = false ∨
      (0 < r.linkDelay ∧ ∀ q, s.callOf p = some q → q.notBefore.isSome = true)) :
    ((s.walking c k).placeLink c k).callOf p = some (s.recordWith p (linkOffer s.clock.now r.linkDelay)) := by
  rw [walking_placeLink_callOf record partner origins ne, if_pos service]
  exact offer_link_callOf (s := s.walking c k) (by rwa [walking_other ne]) (by rwa [walking_other ne])
    (by rw [walking_other ne]; exact bar)

end Link

/-- Settles O39: the crossing, its counters, its partner and its units, each by what walk begin leaves of it. -/
theorem leadRedEndBeginsTheWalk : Obligations.LeadRedEndBeginsTheWalk := by
  unfold Obligations.LeadRedEndBeginsTheWalk
  intro s c k wait due run state stage apart waited
  let b := s.without (.intervalEnd c)
  have filed : WalkFiled c k b (b.walkFiled c k) := walkFiled_spec (s := b) apart
  have calls : (b.walkFiled c k).calls = ((b.walking c k).placeLink c k).calls := rfl
  have marked := soundCrossing_sounded (b.walkFiled c k) c
  have queue := soundCrossing_queue (b.walkFiled c k) c
  have steady : Steady b (b.beginWalk c k) := beginWalk_steady b c k
  have e := exec_intervalEnd due
  rw [endInterval_leadRed (s := b) run state stage] at e
  rw [beginWalk_eq] at e steady
  generalize b.walkFiled c k = filing at e filed calls marked queue steady
  generalize filing.soundCrossing c = t at e marked queue steady
  have crossing : t.crossing c = filing.crossing c := crossing_of_eq queue.crossings c
  have counters : t.transmit.counters.crossings[c] = (b.linked c k s.counters.crossings[c]).fileWait wait := by
    change t.counters.crossings[c] = _
    rw [queue.counters, waited]; exact filed.counters
  have callOf (p : CrossingId) : t.callOf p = ((b.walking c k).placeLink c k).callOf p := by
    unfold State.callOf; rw [queue.calls, calls]
  have samples : Disturbed (s.meetsOnset c) s t.transmit := by
    obtain ⟨hit, missed, mutes, clock⟩ := walkBegun_samples filed marked
    exact ⟨hit, missed, mutes, clock⟩
  have line := walkBegun_line filed marked
  obtain ⟨most, bin0, bin150, bin300, bin450, bin600, bin900⟩ := fileWait_bins (b.linked c k s.counters.crossings[c]) wait
  obtain ⟨placed, dropped⟩ := fileWait_links (b.linked c k s.counters.crossings[c]) wait
  obtain ⟨x, y, linked⟩ := linked_keeps b c k s.counters.crossings[c]
  obtain ⟨corridor, kerb, port, agenda⟩ := Undisturbed.ofDue steady
  refine ⟨_, e, ?_⟩
  rw [counters, most, bin0, bin150, bin300, bin450, bin600, bin900, placed, dropped]
  refine ⟨(congrArg Crossing.state crossing).trans filed.state, (congrArg Crossing.timeLeft crossing).trans filed.timeLeft,
    (congrArg Crossing.stage crossing).trans (filed.stage.trans stage),
    (congrArg Crossing.timeInState crossing).trans filed.timeInState, by rw [linked], by rw [linked], by rw [linked],
    by rw [linked], by rw [linked], by rw [linked], by rw [linked], fun r p record partner origins => ?_,
    fun u => ?_, fun none => ?_, fun x inFlight => ?_, fun u free => samples.free free,
    fun u q found => ⟨samples.spared found, samples.met found⟩, fun v u => ?_, corridor, kerb, port, agenda⟩
  · have ne : p ≠ c := fun same => apart r record (by rw [partner, same])
    have passed (h : (s.crossing p).inService = false ∨ (s.crossing p).state.registering = false) : t.callOf p = s.callOf p :=
      (callOf p).trans (linked_passed (s := b) record partner origins ne h)
    rw [linked_partner (s := b) record partner origins]
    refine ⟨?_, fun _ moving => passed (.inr moving), fun service registers => ⟨fun free bar => ?_, fun q found bar => ?_⟩⟩
    · by_cases service : (s.crossing p).inService = true
      · rw [if_pos (show (b.crossing p).inService = true from service), if_pos service]
        exact ⟨rfl, rfl⟩
      · rw [if_neg (show ¬ (b.crossing p).inService = true from service), if_neg service]
        exact ⟨rfl, rfl, passed (.inl (by simpa using service))⟩
    · have taken := linked_registers (s := b) record partner origins ne service registers
        (bar.imp_right fun later => ⟨later, fun q found => by rw [show b.callOf p = none from free] at found; cases found⟩)
      refine (callOf p).trans (taken.trans ?_)
      rw [recordWith_link_free (s := b) free]
      rfl
    · have taken := linked_registers (s := b) record partner origins ne service registers
        (bar.imp_right fun ⟨later, held⟩ => ⟨later, fun q' found' => by
          rw [show q' = q from Option.some.inj ((show b.callOf p = some q' from found').symm.trans found)]; exact held⟩)
      refine (callOf p).trans (taken.trans ?_)
      rw [recordWith_link_merged (s := b) found]
      rfl
  · exact walkBegun_sounding filed marked u
  · have still : t.calls = s.calls := by
      rw [queue.calls, calls, placeLink_none]
      · rfl
      · rw [walking_record]; exact none
    rw [linked_none (s := b) none]
    exact ⟨rfl, rfl, still⟩
  · have shown : t.line = some (x.command, x.beforeWalk) := by
      change t.kerb.transaction = some x at inFlight
      simp only [State.line, inFlight, Option.map_some]
    rw [line] at shown
    obtain ⟨y, own, same⟩ := Option.map_eq_some_iff.1 shown
    obtain ⟨command, before⟩ := Prod.mk.inj same
    obtain ⟨z, inFlight', rfl⟩ := Option.map_eq_some_iff.1 own
    exact ⟨z, inFlight', command.symm, before.symm⟩
  · exact (samples.mutes v u).trans (and_congr_right fun _ => not_congr meetsOnset_open)

end Sys2Proof.Machine
end

section
/-!
A good reply: the presses it hands over, the unit it moves, and the sample it carries on (O50).
-/

namespace Sys2Proof.Machine

variable {s t w : State} {c : CrossingId} {side : Side} {p x : Nat} {q : Sample} {u v : UnitId} {m : Mapping}
  {r : KerbReply} {y : Transaction}

/-! ### Presses handed over (R51) -/

/-- The record of a crossing that takes the presses of one of its units. -/
theorem recordWith_press (s : State) (c : CrossingId) (side : Side) (p x : Nat) :
    s.recordWith c (pressOffer side p x) = match s.callOf c with
      | none =>
        { crossing := c, registeredAt := s.clock.now
          sides := { a := decide (side = .a), b := decide (side = .b) }, origins := { press := true }
          accessible := decide (0 < x), pressCount := min (p + x) 255, notBefore := none }
      | some q =>
        { q with
          sides := { a := q.sides.a || decide (side = .a), b := q.sides.b || decide (side = .b) }
          origins := { q.origins with press := true }
          accessible := q.accessible || decide (0 < x)
          pressCount := min (q.pressCount + min (p + x) 255) 255
          notBefore := none } := by
  cases found : s.callOf c with
  | none => rw [recordWith_free _ found]; cases side <;> rfl
  | some q =>
    rw [recordWith_merged _ found]
    cases side <;> simp [CallRecord.merge, pressOffer, Sides.only, Sides.union, Origins.union, mergeNotBefore_none]

theorem handOver_presses (s : State) (c : CrossingId) (side : Side) (p x : Nat) :
    (s.handOver c side p x).counters.crossings[c].presses = min (s.counters.crossings[c].presses + p) 65535 ∧
      (s.handOver c side p x).counters.crossings[c].extendedPresses =
        min (s.counters.crossings[c].extendedPresses + x) 65535 := by
  obtain ⟨presses, extended⟩ := (offer_unitsKept (s.countCrossing c fun n =>
    { n with presses := satAdd n.presses p, extendedPresses := satAdd n.extendedPresses x }) c (pressOffer side p x)).presses c
  rw [countCrossing_count] at presses extended
  exact ⟨presses, extended⟩

/-- At a crossing in service in a registering state, where no stage can start, the presses leave their record. -/
theorem handOver_registers (service : (s.crossing c).inService = true) (registers : (s.crossing c).state.registering = true)
    (green : (s.crossing c).greenExpired = false) (side : Side) (p x : Nat) :
    (s.handOver c side p x).callOf c = some (s.recordWith c (pressOffer side p x)) ∧
      ((s.handOver c side p x).crossing c).state = (s.crossing c).state := by
  let w := s.countCrossing c fun n => { n with presses := satAdd n.presses p, extendedPresses := satAdd n.extendedPresses x }
  have offered : s.handOver c side p x = (w.intoQueue c (pressOffer side p x)).2 :=
    congrArg Prod.snd (offer_registers (s := w) _ service registers)
  have queued := intoQueue_enqueued (s := w) (c := c) (o := pressOffer side p x) (queued_barred (.inl green))
  rw [offered]
  exact ⟨queued.call, queued.state⟩

/-! ### What the handling of a reply leaves of the rest -/

/-- The corridor, the host port but for its notices, and the announced events stand. -/
structure CorridorAndPort (s t : State) : Prop where
  corridor : CorridorKept s t
  port : PortKept s t
  due : t.due = s.due

namespace CorridorAndPort

theorem ofSteady (h : Steady s t) : CorridorAndPort s t :=
  have undisturbed := Undisturbed.ofSteady h
  ⟨undisturbed.corridor, undisturbed.port, undisturbed.due⟩

theorem refl (s : State) : CorridorAndPort s s := ofSteady (.refl s)

theorem trans (h : CorridorAndPort s t) (k : CorridorAndPort t w) : CorridorAndPort s w where
  corridor := ⟨k.corridor.running.trans h.corridor.running, k.corridor.clock.trans h.corridor.clock,
    k.corridor.store.trans h.corridor.store, fun c => (k.corridor.records c).trans (h.corridor.records c),
    k.corridor.corridorCounters.trans h.corridor.corridorCounters, k.corridor.freeCount.trans h.corridor.freeCount,
    k.corridor.pending.trans h.corridor.pending⟩
  port := ⟨k.port.receiver.trans h.port.receiver, k.port.requests.trans h.port.requests,
    k.port.executing.trans h.port.executing, k.port.filter.trans h.port.filter,
    k.port.restartHold.trans h.port.restartHold⟩
  due := k.due.trans h.due

end CorridorAndPort

/-- Work on the entry of unit `u`, its counts and the notices alone; the samples taken stand. -/
structure EntryWork (u : UnitId) (s t : State) : Prop where
  others : ∀ v, v ≠ u → t.unit v = s.unit v
  queue : QueueKept s t
  taken : ∀ v : UnitId, (t.counters.units[v]).samplesTaken = (s.counters.units[v]).samplesTaken
  kerb : t.kerb = s.kerb
  rest : CorridorAndPort s t

namespace EntryWork

theorem refl (u : UnitId) (s : State) : EntryWork u s s := ⟨fun _ _ => rfl, .refl s, fun _ => rfl, rfl, .refl s⟩

theorem trans (h : EntryWork u s t) (k : EntryWork u t w) : EntryWork u s w :=
  ⟨fun v ne => (k.others v ne).trans (h.others v ne), h.queue.trans k.queue, fun v => (k.taken v).trans (h.taken v),
    k.kerb.trans h.kerb, h.rest.trans k.rest⟩

end EntryWork

theorem changeUnit_entry (s : State) (u : UnitId) (f : KerbUnit → KerbUnit) : EntryWork u s (s.changeUnit u f) :=
  ⟨fun _ ne => changeUnit_other s f ne.symm, ⟨rfl, rfl, rfl⟩, fun _ => rfl, rfl,
    ⟨rfl, rfl, rfl, fun _ => rfl, rfl, rfl, rfl⟩, ⟨rfl, rfl, rfl, rfl, rfl⟩, rfl⟩

theorem raise_entry (s : State) (u : UnitId) (n : NoticeBody) : EntryWork u s (s.raise n) :=
  ⟨fun _ _ => rfl, ⟨rfl, rfl, rfl⟩, fun _ => rfl, rfl, .ofSteady (raise_steady s n)⟩

theorem countUnit_entry (s : State) (u : UnitId) {f : UnitCounters → UnitCounters}
    (h : ∀ n, (f n).samplesTaken = n.samplesTaken) : EntryWork u s (s.countUnit u f) := by
  refine ⟨fun _ _ => rfl, ⟨rfl, rfl, rfl⟩, fun v => ?_, rfl, .ofSteady (countUnit_steady s u f)⟩
  by_cases e : v = u
  · subst e; rw [countUnit_count, h]
  · rw [countUnit_count_other s f e]

/-! ### The unit's entry after a good reply (R138, R143 to R147) -/

/-- The entry of a unit that has answered, but for its sample, its pending action and its sounding mark. -/
def KerbUnit.answered (k : KerbUnit) (x : Option Record) (r : KerbReply) : KerbUnit :=
  { k.good with
    heldNow := r.heldNow, heldTime := r.heldTime, stuck := stuckAfter x k.stuck r, audioFault := r.speakerFail
    pressBaseline := some r.presses, extendedBaseline := some r.extended }

/-- A good reply never takes a unit out of ONLINE: its change of state loses no sample. -/
theorem good_online {k : KerbUnit} (h : k.state = .online) : k.good.state = .online := by
  simp [KerbUnit.good, h]

theorem reportUnit_entry (cause : UnitCause) {before : UnitState} (stays : before = .online → (s.unit u).state = .online) :
    EntryWork u s (s.reportUnit u m before cause) ∧ (s.reportUnit u m before cause).unit u = s.unit u := by
  unfold State.reportUnit; dsimp only; split
  · exact ⟨.refl u s, rfl⟩
  · rename_i moved
    rw [if_neg fun online => moved ((stays online).trans online.symm)]
    exact ⟨raise_entry s u _, rfl⟩

theorem judgeStuck_entry (s : State) (u : UnitId) (m : Mapping) (r : KerbReply) :
    EntryWork u s (s.judgeStuck u m r) ∧ (s.judgeStuck u m r).unit u = { s.unit u with
      heldNow := r.heldNow, heldTime := r.heldTime
      stuck := stuckAfter (s.crossing m.crossing).record (s.unit u).stuck r } := by
  unfold State.judgeStuck; dsimp only; split
  · exact ⟨changeUnit_entry s u _, changeUnit_unit s u _⟩
  · refine ⟨((changeUnit_entry s u _).trans (countUnit_entry _ u ?_)).trans (raise_entry _ u _), ?_⟩
    · exact fun _ => rfl
    · rw [raise_unit, countUnit_unit, changeUnit_unit]

theorem judgeAudio_entry (s : State) (u : UnitId) (m : Mapping) (r : KerbReply) :
    EntryWork u s (s.judgeAudio u m r) ∧ (s.judgeAudio u m r).unit u = { s.unit u with audioFault := r.speakerFail } := by
  unfold State.judgeAudio; split <;> rename_i same
  · exact ⟨.refl u s, by rw [← same]⟩
  · exact ⟨(changeUnit_entry s u _).trans (raise_entry _ u _), by rw [raise_unit, changeUnit_unit]⟩

/-- The handling of a good reply up to the hand-over of its presses. -/
def State.noted (s : State) (u : UnitId) (m : Mapping) (r : KerbReply) : State :=
  ((((s.changeUnit u KerbUnit.good).reportUnit u m (s.unit u).state (goodCause (s.unit u).state)).judgeStuck u m r).judgeAudio
    u m r).changeUnit u fun k => { k with pressBaseline := some r.presses, extendedBaseline := some r.extended }

theorem noted_entry (s : State) (u : UnitId) (m : Mapping) (r : KerbReply) :
    EntryWork u s (s.noted u m r) ∧
      (s.noted u m r).unit u = (s.unit u).answered (s.crossing m.crossing).record r := by
  let a := s.changeUnit u KerbUnit.good
  obtain ⟨reported, own⟩ := reportUnit_entry (s := a) (u := u) (m := m) (goodCause (s.unit u).state)
    (before := (s.unit u).state) fun online => by rw [changeUnit_unit]; exact good_online online
  obtain ⟨judged, stuck⟩ := judgeStuck_entry (a.reportUnit u m (s.unit u).state (goodCause (s.unit u).state)) u m r
  obtain ⟨heard, fault⟩ := judgeAudio_entry
    ((a.reportUnit u m (s.unit u).state (goodCause (s.unit u).state)).judgeStuck u m r) u m r
  refine ⟨(((changeUnit_entry s u _).trans reported).trans judged).trans (heard.trans (changeUnit_entry _ u _)), ?_⟩
  unfold State.noted
  rw [changeUnit_unit, fault, stuck, own, changeUnit_unit, (good_kept (s.unit u)).2.1]
  rw [crossing_of_eq reported.queue.crossings]
  rfl

/-- New presses are handed over from a unit found ONLINE or SUSPECT that the reply neither finds nor leaves stuck (R145). -/
def State.HandsOver (s : State) (u : UnitId) (m : Mapping) (r : KerbReply) : Prop :=
  ((s.unit u).state = .online ∨ (s.unit u).state = .suspect) ∧ (s.unit u).stuck = false ∧
    stuckAfter (s.crossing m.crossing).record (s.unit u).stuck r = false ∧
    (0 < newPresses (s.unit u).pressBaseline r.fresh r.presses ∨ 0 < newPresses (s.unit u).extendedBaseline r.fresh r.extended)


/-- The handling of a good reply up to the sample it carries. -/
def State.pressed (s : State) (u : UnitId) (m : Mapping) (r : KerbReply) : State :=
  ((((s.changeUnit u KerbUnit.good).reportUnit u m (s.unit u).state (goodCause (s.unit u).state)).judgeStuck u m r).judgeAudio
    u m r).accountPresses u m (s.unit u) r

theorem pressed_cases (s : State) (u : UnitId) (m : Mapping) (r : KerbReply) :
    (s.HandsOver u m r → s.pressed u m r = (s.noted u m r).handOver m.crossing m.side
      (newPresses (s.unit u).pressBaseline r.fresh r.presses) (newPresses (s.unit u).extendedBaseline r.fresh r.extended)) ∧
    (¬ s.HandsOver u m r → s.pressed u m r = s.noted u m r) := by
  have stuck : ((s.noted u m r).unit u).stuck = stuckAfter (s.crossing m.crossing).record (s.unit u).stuck r := by
    rw [(noted_entry s u m r).2]; rfl
  unfold State.noted at stuck
  rw [changeUnit_unit] at stuck
  unfold State.pressed State.accountPresses State.HandsOver
  dsimp only at stuck ⊢
  rw [stuck]
  exact ⟨fun h => if_pos h, fun h => if_neg h⟩

/-! ### Samples, pending actions and sounding marks that stand -/

/-- Of every unit the audible items but for the levels stand, and the samples taken. -/
structure AudiblesStand (s t : State) : Prop where
  audible : ∀ v, ({ (t.unit v).audible with locatorLevel := 0, walkLevel := 0 } : Audible) =
    { (s.unit v).audible with locatorLevel := 0, walkLevel := 0 }
  taken : ∀ v : UnitId, (t.counters.units[v]).samplesTaken = (s.counters.units[v]).samplesTaken

namespace AudiblesStand

theorem refl (s : State) : AudiblesStand s s := ⟨fun _ => rfl, fun _ => rfl⟩

theorem trans (h : AudiblesStand s t) (k : AudiblesStand t w) : AudiblesStand s w :=
  ⟨fun v => (k.audible v).trans (h.audible v), fun v => (k.taken v).trans (h.taken v)⟩

variable (h : AudiblesStand s t)
include h

theorem sample (v : UnitId) : (t.unit v).audible.sample = (s.unit v).audible.sample := (congrArg Audible.sample (h.audible v) :)

theorem report (v : UnitId) : (t.unit v).audible.report = (s.unit v).audible.report := (congrArg Audible.report (h.audible v) :)

theorem muteSet (v : UnitId) : (t.unit v).audible.muteSet = (s.unit v).audible.muteSet :=
  (congrArg Audible.muteSet (h.audible v) :)

theorem timing (v : UnitId) : (t.unit v).audible.estimate = (s.unit v).audible.estimate ∧
    (t.unit v).audible.stale = (s.unit v).audible.stale ∧ (t.unit v).audible.dueTime = (s.unit v).audible.dueTime ∧
    (t.unit v).audible.lastStart = (s.unit v).audible.lastStart :=
  ⟨(congrArg Audible.estimate (h.audible v) :), (congrArg Audible.stale (h.audible v) :),
    (congrArg Audible.dueTime (h.audible v) :), (congrArg Audible.lastStart (h.audible v) :)⟩

end AudiblesStand

/-- The pending actions and the sounding marks stand too. -/
structure SamplesStand (s t : State) : Prop extends AudiblesStand s t where
  action : ∀ v, (t.unit v).pendingAction = (s.unit v).pendingAction
  sounding : ∀ v, (t.unit v).sounding = (s.unit v).sounding

namespace SamplesStand

theorem refl (s : State) : SamplesStand s s := ⟨.refl s, fun _ => rfl, fun _ => rfl⟩

theorem trans (h : SamplesStand s t) (k : SamplesStand t w) : SamplesStand s w :=
  ⟨h.toAudiblesStand.trans k.toAudiblesStand, fun v => (k.action v).trans (h.action v),
    fun v => (k.sounding v).trans (h.sounding v)⟩

theorem ofUnits (h : UnitsKept s t) : SamplesStand s t :=
  ⟨⟨fun v => (congrArg KerbUnit.audible (h.unit v) :),
    fun v => congrArg (fun n : Vector UnitCounters 32 => n[v].samplesTaken) h.counters⟩,
    fun v => (congrArg KerbUnit.pendingAction (h.unit v) :), fun v => (congrArg KerbUnit.sounding (h.unit v) :)⟩

end SamplesStand

theorem good_audible (k : KerbUnit) : k.good.audible = k.audible ∧ k.good.pendingAction = k.pendingAction ∧
    k.good.sounding = k.sounding := by
  unfold KerbUnit.good; split <;> exact ⟨rfl, rfl, rfl⟩

theorem EntryWork.samplesStand (h : EntryWork u s t) (audible : (t.unit u).audible = (s.unit u).audible)
    (action : (t.unit u).pendingAction = (s.unit u).pendingAction) (sounding : (t.unit u).sounding = (s.unit u).sounding) :
    SamplesStand s t := by
  have each {α : Type} (f : KerbUnit → α) (own : f (t.unit u) = f (s.unit u)) (v : UnitId) : f (t.unit v) = f (s.unit v) := by
    by_cases e : v = u
    · rw [e, own]
    · rw [h.others v e]
  exact ⟨⟨fun v => by rw [each _ audible], h.taken⟩, each _ action, each _ sounding⟩

theorem handOver_samples (s : State) (c : CrossingId) (side : Side) (p x : Nat) : SamplesStand s (s.handOver c side p x) :=
  .trans (t := s.countCrossing c fun n =>
    { n with presses := satAdd n.presses p, extendedPresses := satAdd n.extendedPresses x })
    ⟨⟨fun _ => rfl, fun _ => rfl⟩, fun _ => rfl, fun _ => rfl⟩ (.ofUnits (offer_unitsKept _ c _))

theorem handOver_demand (s : State) (c : CrossingId) (side : Side) (p x : Nat) : DemandWork s (s.handOver c side p x) :=
  .after (offer_demand _ c _) (countCrossing_demand s c _)

/-- What the handling of a good reply leaves up to the sample it carries. -/
structure Pressed (u : UnitId) (m : Mapping) (r : KerbReply) (s t : State) : Prop where
  own : (t.unit u).link = ((s.unit u).answered (s.crossing m.crossing).record r).link
  links : ∀ v, v ≠ u → (t.unit v).link = (s.unit v).link
  samples : SamplesStand s t
  kerb : t.kerb = s.kerb
  rest : CorridorAndPort s t

theorem pressed_spec (s : State) (u : UnitId) (m : Mapping) (r : KerbReply) : Pressed u m r s (s.pressed u m r) := by
  obtain ⟨entry, own⟩ := noted_entry s u m r
  obtain ⟨audible, action, sounding⟩ := good_audible (s.unit u)
  have stand : SamplesStand s (s.noted u m r) := entry.samplesStand (by rw [own]; exact audible) (by rw [own]; exact action)
    (by rw [own]; exact sounding)
  have noted : Pressed u m r s (s.noted u m r) :=
    ⟨by rw [own], fun v ne => by rw [entry.others v ne], stand, entry.kerb, entry.rest⟩
  by_cases hands : s.HandsOver u m r
  · rw [(pressed_cases s u m r).1 hands]
    generalize newPresses (s.unit u).pressBaseline r.fresh r.presses = p
    generalize newPresses (s.unit u).extendedBaseline r.fresh r.extended = x
    have steady := handOver_steady (s.noted u m r) m.crossing m.side p x
    exact ⟨(steady.links u).trans noted.own, fun v ne => (steady.links v).trans (noted.links v ne),
      stand.trans (handOver_samples _ _ _ _ _), (handOver_demand _ _ _ _ _).kerb.trans noted.kerb,
      noted.rest.trans (.ofSteady steady)⟩
  · rw [(pressed_cases s u m r).2 hands]
    exact noted

/-! ### A sample lost or taken (R165, R166) -/

/-- Work on the sample of unit `u`: the other units' samples and pending actions stand, and every sounding mark. -/
structure SampleWork (u : UnitId) (s t : State) : Prop where
  others : ∀ v, v ≠ u → (t.unit v).audible.sample = (s.unit v).audible.sample ∧
    (t.unit v).pendingAction = (s.unit v).pendingAction
  sounding : ∀ v, (t.unit v).sounding = (s.unit v).sounding
  queue : QueueKept s t
  steady : Steady s t

namespace SampleWork

theorem refl (u : UnitId) (s : State) : SampleWork u s s := ⟨fun _ _ => ⟨rfl, rfl⟩, fun _ => rfl, .refl s, .refl s⟩

theorem trans (h : SampleWork u s t) (k : SampleWork u t w) : SampleWork u s w :=
  ⟨fun v ne => ⟨(k.others v ne).1.trans (h.others v ne).1, (k.others v ne).2.trans (h.others v ne).2⟩,
    fun v => (k.sounding v).trans (h.sounding v), h.queue.trans k.queue, h.steady.trans k.steady⟩

end SampleWork

theorem loseSample_eq (found : (s.unit u).audible.sample = some q) (cancel : Bool) : s.loseSample u cancel =
    if cancel then (s.endSample u .lost).request u .cancel else s.endSample u .lost := by
  simp only [State.loseSample, State.sampleOf, found]

theorem loseSample_work (s : State) (u : UnitId) (cancel : Bool) : SampleWork u s (s.loseSample u cancel) := by
  have steady := loseSample_steady s u cancel
  unfold State.loseSample at steady ⊢
  split
  · exact .refl u s
  · rename_i q found
    rw [found] at steady
    cases cancel with
    | false =>
      refine ⟨fun v ne => ?_, (endSample_marks s u .lost).sounding, ⟨rfl, rfl, rfl⟩, steady⟩
      simp only [Bool.false_eq_true, if_false]
      rw [endSample_other s _ ne, liftMutes_unit]; exact ⟨rfl, rfl⟩
    | true =>
      refine ⟨fun v ne => ?_, ((endSample_marks s u .lost).trans (request_marks _ u .cancel)).sounding, ⟨rfl, rfl, rfl⟩, steady⟩
      simp only [if_true]
      rw [request_other _ _ ne, endSample_other s _ ne, liftMutes_unit]; exact ⟨rfl, rfl⟩

/-- A sample in progress lost. -/
theorem loseSample_lost (found : (s.unit u).audible.sample = some q) (cancel : Bool) :
    SampleLost s (s.loseSample u cancel) u ∧
      ((s.loseSample u cancel).unit u).pendingAction = if cancel then some .cancel else (s.unit u).pendingAction := by
  have ended : SampleLost s (s.endSample u .lost) u := by
    refine ⟨by rw [endSample_unit]; exact ⟨rfl, rfl, rfl, rfl, rfl, rfl⟩, fun v => ?_, rfl⟩
    by_cases e : v = u
    · rw [e, endSample_unit]
    · rw [endSample_other s _ e, liftMutes_unit]
  have muted (v : UnitId) : (((s.endSample u .lost).request u .cancel).unit v).audible = ((s.endSample u .lost).unit v).audible := by
    by_cases e : v = u
    · rw [e, request_unit]
    · rw [request_other _ _ e]
  rw [loseSample_eq found]
  cases cancel with
  | false => exact ⟨ended, by rw [if_neg (by decide), if_neg (by decide), endSample_unit]⟩
  | true =>
    refine ⟨⟨?_, fun v => ?_, ended.taken⟩, by rw [if_pos rfl, if_pos rfl, request_unit]⟩
    · rw [if_pos rfl, muted]; exact ended.audible
    · rw [if_pos rfl, muted]; exact ended.mutes v

theorem SampleLost.between (lost : SampleLost t w u) {z : State} (h : AudiblesStand s t) (k : AudiblesStand w z) :
    SampleLost s z u := by
  obtain ⟨⟨sample, report, estimate, stale, due, start⟩, mutes, taken⟩ := lost
  obtain ⟨estimate', stale', due', start'⟩ := h.timing u
  obtain ⟨estimate'', stale'', due'', start''⟩ := k.timing u
  exact ⟨⟨(k.sample u).trans sample, (k.report u).trans report, estimate''.trans (estimate.trans estimate'),
    stale''.trans (stale.trans stale'), due''.trans (due.trans due'), start''.trans (start.trans start')⟩,
    fun v => by rw [k.muteSet, mutes, h.muteSet], (k.taken u).trans (taken.trans (h.taken u))⟩

theorem nextEstimate_congr (h : AudiblesStand s t) (u : UnitId) (level : Nat) :
    nextEstimate (t.unit u).audible level = nextEstimate (s.unit u).audible level := by
  obtain ⟨estimate, stale, _⟩ := h.timing u
  unfold nextEstimate
  rw [estimate, stale]

/-- A sample taken: what it leaves but for the levels, and the levels that follow. -/
structure TakenAt (s t : State) (u : UnitId) (start : Time) (level : Nat) (short early : Bool) : Prop where
  audible : ({ (t.unit u).audible with locatorLevel := 0, walkLevel := 0 } : Audible) =
    { (s.unit u).audible.take start s.sampleInterval level short early with locatorLevel := 0, walkLevel := 0 }
  mutes : ∀ v, (t.unit v).audible.muteSet = (s.unit v).audible.muteSet
  taken : t.counters.units[u].samplesTaken = min (s.counters.units[u].samplesTaken + 1) 65535
  levelled : t.LevelledAt u

/-- A sample taken, before the recovery of a stale estimate is reported. -/
def State.sampleTaken (s : State) (u : UnitId) (start : Time) (level : Nat) (short early : Bool) : State :=
  ((s.changeAudible u fun a => a.take start s.sampleInterval level short early).relevel u).countUnit u fun n =>
    { n with samplesTaken := satAdd n.samplesTaken 1 }

theorem takeSample_cases (s : State) (u : UnitId) (start : Time) (level : Nat) (short early : Bool) :
    s.takeSample u start level short early = s.sampleTaken u start level short early ∨
      ∃ n, s.takeSample u start level short early = (s.sampleTaken u start level short early).raise n := by
  change (if (s.unit u).audible.stale then (s.sampleTaken u start level short early).raiseStale u false
    else s.sampleTaken u start level short early) = _ ∨ ∃ n, (if (s.unit u).audible.stale then
      (s.sampleTaken u start level short early).raiseStale u false else s.sampleTaken u start level short early) = _
  generalize s.sampleTaken u start level short early = w
  split
  · unfold State.raiseStale; dsimp only; split
    · exact .inr ⟨_, rfl⟩
    · exact .inl rfl
  · exact .inl rfl

theorem sampleTaken_unit (s : State) (u v : UnitId) (start : Time) (level : Nat) (short early : Bool) :
    (s.sampleTaken u start level short early).unit v = if v = u then
      relevelUnit s.crossings s.clock.quiet
        { s.unit u with audible := (s.unit u).audible.take start s.sampleInterval level short early }
      else s.unit v := by
  split <;> rename_i e
  · rw [e]; exact (changeUnit_unit _ u _).trans (congrArg _ (changeAudible_unit s u _))
  · exact (changeUnit_other _ _ (Ne.symm e)).trans (changeAudible_other s _ e)

theorem relevelUnit_kept (crossings : Vector Crossing 8) (quiet : Bool) (e : KerbUnit) :
    (relevelUnit crossings quiet e).audible.muteSet = e.audible.muteSet ∧
    (relevelUnit crossings quiet e).pendingAction = e.pendingAction ∧
    (relevelUnit crossings quiet e).sounding = e.sounding := by unfold relevelUnit; split <;> exact ⟨rfl, rfl, rfl⟩

theorem sampleTaken_taken (s : State) (u : UnitId) (start : Time) (level : Nat) (short early : Bool) :
    TakenAt s (s.sampleTaken u start level short early) u start level short early := by
  refine ⟨?_, fun v => ?_, by rw [State.sampleTaken, countUnit_count]; rfl, fun m mapped => ?_⟩
  · rw [sampleTaken_unit, if_pos rfl]
    exact congrArg KerbUnit.audible (relevelUnit_levels _ _ _)
  · rw [sampleTaken_unit]
    split <;> rename_i e
    · rw [(relevelUnit_kept _ _ _).1, e]; rfl
    · rfl
  · rw [sampleTaken_unit, if_pos rfl] at mapped ⊢
    have own : (s.unit u).mapping = some m := by rwa [relevelUnit_mapping] at mapped
    simp only [relevelUnit, own]
    exact ⟨rfl, rfl⟩

theorem sampleTaken_work (s : State) (u : UnitId) (start : Time) (level : Nat) (short early : Bool) :
    SampleWork u s (s.sampleTaken u start level short early) := by
  refine ⟨fun v ne => ?_, fun v => ?_, ⟨rfl, rfl, rfl⟩,
    .after (countUnit_steady _ u _) (.after (relevel_steady _ u) (changeAudible_steady s u _))⟩
  · rw [sampleTaken_unit, if_neg ne]; exact ⟨rfl, rfl⟩
  · rw [sampleTaken_unit]
    split <;> rename_i e
    · rw [(relevelUnit_kept _ _ _).2.2, e]
    · rfl

/-- A sample taken: its record is gone, and the unit's pending action stands. -/
theorem takeSample_taken (s : State) (u : UnitId) (start : Time) (level : Nat) (short early : Bool) :
    let t := s.takeSample u start level short early
    TakenAt s t u start level short early ∧ SampleWork u s t ∧ t.kerb = s.kerb ∧
      (t.unit u).pendingAction = (s.unit u).pendingAction := by
  have taken := sampleTaken_taken s u start level short early
  have work := sampleTaken_work s u start level short early
  have action : ((s.sampleTaken u start level short early).unit u).pendingAction = (s.unit u).pendingAction := by
    rw [sampleTaken_unit, if_pos rfl, (relevelUnit_kept _ _ _).2.1]
  have kerb : (s.sampleTaken u start level short early).kerb = s.kerb := rfl
  rcases takeSample_cases s u start level short early with e | ⟨n, e⟩ <;> rw [e] <;>
    generalize s.sampleTaken u start level short early = w at taken work action kerb
  · exact ⟨taken, work, kerb, action⟩
  · exact ⟨⟨taken.audible, taken.mutes, taken.taken, taken.levelled⟩,
      work.trans ⟨fun _ _ => ⟨rfl, rfl⟩, fun _ => rfl, ⟨rfl, rfl, rfl⟩, raise_steady w n⟩, kerb, action⟩

/-! ### What the reply says of the unit's sample (R164, R166) -/

/-- The reply loses the unit's sample: it is FRESH, and the sample MEASURING or CLOSED. -/
def State.losesTo (s : State) (u : UnitId) (r : KerbReply) : Prop :=
  r.fresh = true ∧ ∃ q, (s.unit u).audible.sample = some q ∧ q.phase ≠ .requested

theorem sampleReply_lost (h : s.losesTo u r) (y : Transaction) : s.sampleReply u y r = s.loseSample u true := by
  obtain ⟨fresh, q, found, phase⟩ := h
  have found : s.sampleOf u = some q := found
  cases e : q.phase with
  | requested => exact absurd e phase
  | measuring start => simp only [State.sampleReply, found, e, fresh, if_true]
  | closed start passed => simp only [State.sampleReply, found, e, fresh, if_true]

theorem sampleReply_none (free : (s.unit u).audible.sample = none) : s.sampleReply u y r = s := by
  have free : s.sampleOf u = none := free
  simp only [State.sampleReply, free]

theorem sampleReply_requested (found : (s.unit u).audible.sample = some q) (phase : q.phase = .requested) :
    s.sampleReply u y r = s := by
  have found : s.sampleOf u = some q := found
  simp only [State.sampleReply, found, phase]

theorem sampleReply_measuring {start : Time} (found : (s.unit u).audible.sample = some q) (phase : q.phase = .measuring start)
    (old : r.fresh = false) : s.sampleReply u y r = s := by
  have found : s.sampleOf u = some q := found
  simp only [State.sampleReply, found, phase, old, Bool.false_eq_true, if_false]

theorem sampleReply_closed {start : Time} {passed : Bool} (found : (s.unit u).audible.sample = some q)
    (phase : q.phase = .closed start passed) (old : r.fresh = false) : s.sampleReply u y r =
      if y.completes q r then
        match r.sample with
        | some (level, short) => s.takeSample u start level short q.earlyEnd
        | none => s.loseSample u false
      else s := by
  have found : s.sampleOf u = some q := found
  simp only [State.sampleReply, found, phase, old, Bool.false_eq_true, if_false] <;> rfl

/-- A reply that loses no sample by its FRESH mark leaves the pending action and the command in flight. -/
theorem sampleReply_spared (h : ¬ s.losesTo u r) (y : Transaction) : SampleWork u s (s.sampleReply u y r) ∧
    (s.sampleReply u y r).kerb = s.kerb ∧ ((s.sampleReply u y r).unit u).pendingAction = (s.unit u).pendingAction := by
  have still {t : State} (e : t = s) : SampleWork u s t ∧ t.kerb = s.kerb ∧ (t.unit u).pendingAction = (s.unit u).pendingAction := by
    subst e; exact ⟨.refl u t, rfl, rfl⟩
  cases found : (s.unit u).audible.sample with
  | none => exact still (sampleReply_none found)
  | some q =>
    cases phase : q.phase with
    | requested => exact still (sampleReply_requested found phase)
    | measuring start =>
      have old : r.fresh = false := by simpa using fun fresh => h ⟨fresh, q, found, by simp [phase]⟩
      exact still (sampleReply_measuring found phase old)
    | closed start passed =>
      have old : r.fresh = false := by simpa using fun fresh => h ⟨fresh, q, found, by simp [phase]⟩
      rw [sampleReply_closed found phase old]
      split
      · split
        · obtain ⟨-, work, kerb, action⟩ := takeSample_taken s u start _ _ q.earlyEnd
          exact ⟨work, kerb, action⟩
        · refine ⟨loseSample_work s u false, ?_, ?_⟩
          · rw [loseSample_eq found]; rfl
          · rw [(loseSample_lost found false).2]; rfl
      · exact still rfl

/-! ### The pending action delivered (R142, R162) -/

/-- The command carries an action that is still the unit's pending action. -/
def Transaction.live (y : Transaction) : Prop := y.command.action.isSome = true ∧ y.actionLive = true

/-- The sample once START has been delivered. -/
def Sample.started (now : Time) (q : Sample) : Sample :=
  match q.phase with
  | .requested => { q with phase := .measuring now }
  | _ => q

theorem started_of_ne {q : Sample} (h : q.phase ≠ .requested) (now : Time) : q.started now = q := by
  unfold Sample.started; split
  · rename_i e; exact absurd e h
  · rfl

theorem delivered_start (s : State) (u : UnitId) : (s.delivered u .start).unit u = { s.unit u with
    audible := { (s.unit u).audible with sample := (s.unit u).audible.sample.map (Sample.started s.clock.now) } } := by
  unfold State.delivered
  split
  · rename_i early muted _ found
    have found : (s.unit u).audible.sample = some ⟨.requested, early, muted⟩ := found
    rw [changeAudible_unit, found]; rfl
  · rename_i other
    cases found : (s.unit u).audible.sample with
    | none => rw [Option.map_none, ← found]
    | some q =>
      have settled : q.phase ≠ .requested := fun e => other q.earlyEnd q.muted rfl (by
        rw [State.sampleOf, found, ← e])
      rw [Option.map_some, started_of_ne settled, ← found]

theorem delivered_other {a : SampleAction} (h : a ≠ .start) : s.delivered u a = s := by
  unfold State.delivered
  split
  · exact absurd rfl h
  · rfl

theorem delivered_work (s : State) (u : UnitId) (a : SampleAction) : SampleWork u s (s.delivered u a) ∧
    ∀ v, ((s.delivered u a).unit v).pendingAction = (s.unit v).pendingAction := by
  have steady := delivered_steady s u a
  unfold State.delivered at steady ⊢
  split
  · refine ⟨⟨fun v ne => by rw [changeAudible_other s _ ne]; exact ⟨rfl, rfl⟩, (changeAudible_marks s u _).sounding,
      ⟨rfl, rfl, rfl⟩, changeAudible_steady s u _⟩, fun v => ?_⟩
    by_cases e : v = u
    · rw [e, changeAudible_unit]
    · rw [changeAudible_other s _ e]
  · exact ⟨.refl u s, fun _ => rfl⟩

theorem deliver_dead (h : ∀ y, s.kerb.transaction = some y → ¬ y.live) (u : UnitId) : s.deliver u = s := by
  unfold State.deliver
  split
  · rename_i y line
    split
    · rename_i a action
      exact if_neg fun live => h y line ⟨by rw [action]; rfl, live⟩
    · rfl
  · rfl

theorem deliver_live (line : s.kerb.transaction = some y) {a : SampleAction} (action : y.command.action = some a)
    (live : y.actionLive = true) :
    s.deliver u = (s.changeUnit u fun k => { k with pendingAction := none }).delivered u a := by
  simp only [State.deliver, line, action, live, if_true]

theorem changeUnit_work (s : State) (u : UnitId) {f : KerbUnit → KerbUnit} (link : ∀ k, (f k).link = k.link)
    (sounding : ∀ k, (f k).sounding = k.sounding) : SampleWork u s (s.changeUnit u f) :=
  ⟨fun v ne => by rw [changeUnit_other s _ ne.symm]; exact ⟨rfl, rfl⟩, (changeUnit_marks s u sounding).sounding,
    ⟨rfl, rfl, rfl⟩, changeUnit_steady s u link⟩

theorem deliver_work (s : State) (u : UnitId) : SampleWork u s (s.deliver u) := by
  unfold State.deliver
  split
  · split
    · split
      · exact .trans (t := s.changeUnit u fun k => { k with pendingAction := none })
          (changeUnit_work s u (fun _ => rfl) fun _ => rfl) (delivered_work _ u _).1
      · exact .refl u s
    · exact .refl u s
  · exact .refl u s

/-- What the delivery leaves of the unit whose command is in flight. -/
theorem deliver_unit (line : s.kerb.transaction = some y) :
    (y.live → ((s.deliver u).unit u).pendingAction = none) ∧
    (¬ y.live → ((s.deliver u).unit u).pendingAction = (s.unit u).pendingAction) ∧
    ((s.deliver u).unit u).audible = { (s.unit u).audible with
      sample := if y.command.action = some .start ∧ y.actionLive = true then
        (s.unit u).audible.sample.map (Sample.started s.clock.now) else (s.unit u).audible.sample } := by
  by_cases live : y.live
  · obtain ⟨a, action⟩ := Option.isSome_iff_exists.1 live.1
    have cleared := (delivered_work (s.changeUnit u fun k => { k with pendingAction := none }) u a).2 u
    rw [changeUnit_unit] at cleared
    rw [deliver_live line action live.2]
    refine ⟨fun _ => cleared, fun dead => absurd live dead, ?_⟩
    by_cases start : a = .start
    · rw [start, delivered_start, changeUnit_unit, if_pos ⟨by rw [action, start], live.2⟩]; rfl
    · rw [delivered_other start, changeUnit_unit, if_neg fun h => start (Option.some.inj (action.symm.trans h.1))]
  · have dead : s.deliver u = s := deliver_dead (fun z line' => by
      rw [line] at line'; exact Option.some.inj line' ▸ live) u
    rw [dead]
    refine ⟨fun h => absurd h live, fun _ => rfl, ?_⟩
    rw [if_neg fun h => live ⟨by rw [h.1]; rfl, h.2⟩]

theorem delivered_others (s : State) (u : UnitId) (a : SampleAction) :
    (∀ v, v ≠ u → (s.delivered u a).unit v = s.unit v) ∧ (s.delivered u a).counters = s.counters := by
  unfold State.delivered
  split
  · exact ⟨fun v ne => changeAudible_other s _ ne, rfl⟩
  · exact ⟨fun _ _ => rfl, rfl⟩

theorem deliver_others (s : State) (u : UnitId) :
    (∀ v, v ≠ u → (s.deliver u).unit v = s.unit v) ∧ (s.deliver u).counters = s.counters := by
  unfold State.deliver
  split
  · split
    · split
      · obtain ⟨others, counters⟩ := delivered_others (s.changeUnit u fun k => { k with pendingAction := none }) u _
        exact ⟨fun v ne => (others v ne).trans (changeUnit_other s _ ne.symm), counters⟩
      · exact ⟨fun _ _ => rfl, rfl⟩
    · exact ⟨fun _ _ => rfl, rfl⟩
  · exact ⟨fun _ _ => rfl, rfl⟩

/-- A delivery that starts no sample leaves every unit's audible items. -/
theorem deliver_stands (h : ∀ q, (s.unit u).audible.sample = some q → q.phase ≠ .requested)
    (line : s.kerb.transaction = some y) : AudiblesStand s (s.deliver u) := by
  obtain ⟨others, counters⟩ := deliver_others s u
  have settled : (s.unit u).audible.sample.map (Sample.started s.clock.now) = (s.unit u).audible.sample := by
    cases found : (s.unit u).audible.sample with
    | none => rfl
    | some q => rw [Option.map_some, started_of_ne (h q found)]
  have own : ((s.deliver u).unit u).audible = (s.unit u).audible := by
    rw [(deliver_unit line).2.2, settled, ite_self]
  refine ⟨fun v => ?_, fun v => by rw [counters]⟩
  by_cases e : v = u
  · rw [e, own]
  · rw [others v e]

/-- The levels stand with the estimate. -/
theorem deliver_levelled (line : s.kerb.transaction = some y) (h : s.LevelledAt u) : (s.deliver u).LevelledAt u := by
  have work := deliver_work s u
  have audible := (deliver_unit (u := u) line).2.2
  intro m mapped
  rw [work.steady.mapping] at mapped
  rw [audible, crossing_of_eq work.queue.crossings, work.steady.clock]
  exact h m mapped

/-- The sample carried on by the reply, and the pending action delivered. -/
def State.carried (s : State) (u : UnitId) (y : Transaction) (r : KerbReply) : State := (s.sampleReply u y r).deliver u

section Carried

variable (line : s.kerb.transaction = some y)
include line

/-- A FRESH reply: the sample is lost, CANCEL is asked for, and the action in flight is delivered no more. -/
theorem carried_lost (named : y.command.address = u) (lost : s.losesTo u r) :
    SampleWork u s (s.carried u y r) ∧ SampleLost s (s.carried u y r) u ∧
      ((s.carried u y r).unit u).pendingAction = some .cancel := by
  obtain ⟨q, found, _⟩ := lost.2
  obtain ⟨gone, action⟩ := loseSample_lost found true
  have dead : (s.loseSample u true).deliver u = s.loseSample u true := by
    refine deliver_dead (fun z hz live => ?_) u
    rw [loseSample_eq found, if_pos rfl] at hz
    obtain ⟨z', own, rfl⟩ := Option.map_eq_some_iff.1 hz
    obtain rfl : y = z' := Option.some.inj (line.symm.trans own)
    rw [if_pos named] at live
    exact Bool.false_ne_true live.2
  unfold State.carried
  rw [sampleReply_lost lost, dead]
  exact ⟨loseSample_work s u true, gone, action⟩

theorem carried_spared (spared : ¬ s.losesTo u r) : SampleWork u s (s.carried u y r) ∧
    (y.live → ((s.carried u y r).unit u).pendingAction = none) ∧
    (¬ y.live → ((s.carried u y r).unit u).pendingAction = (s.unit u).pendingAction) := by
  obtain ⟨work, kerb, action⟩ := sampleReply_spared spared y
  obtain ⟨live, dead, _⟩ := deliver_unit (u := u) (kerb ▸ line : (s.sampleReply u y r).kerb.transaction = some y)
  exact ⟨work.trans (deliver_work _ u), live, fun h => (dead h).trans action⟩

theorem carried_none (free : (s.unit u).audible.sample = none) : AudiblesStand s (s.carried u y r) := by
  unfold State.carried
  rw [sampleReply_none free]
  exact deliver_stands (fun q found => by rw [free] at found; cases found) line

theorem carried_requested (found : (s.unit u).audible.sample = some q) (phase : q.phase = .requested) :
    ((s.carried u y r).unit u).audible.sample = some (if y.command.action = some .start ∧ y.actionLive = true then
      { q with phase := .measuring s.clock.now } else q) := by
  unfold State.carried
  rw [sampleReply_requested found phase, (deliver_unit line).2.2, found]
  dsimp only
  split
  · simp only [Option.map_some, Sample.started, phase]
  · rfl

theorem carried_measuring {start : Time} (found : (s.unit u).audible.sample = some q) (phase : q.phase = .measuring start)
    (old : r.fresh = false) : AudiblesStand s (s.carried u y r) := by
  unfold State.carried
  rw [sampleReply_measuring found phase old]
  exact deliver_stands (fun p own => by rw [← Option.some.inj (found.symm.trans own), phase]; nofun) line

/-- A CLOSED sample under a reply that is not FRESH: taken or lost by the completion reply, and otherwise left. -/
theorem carried_closed {start : Time} {passed : Bool} (found : (s.unit u).audible.sample = some q)
    (phase : q.phase = .closed start passed) (old : r.fresh = false) :
    if y.completes q r then
      match r.sample with
      | some (level, short) => ∃ t, TakenAt s t u start level short q.earlyEnd ∧
          AudiblesStand t (s.carried u y r) ∧ (s.carried u y r).LevelledAt u
      | none => SampleLost s (s.carried u y r) u
    else AudiblesStand s (s.carried u y r) := by
  unfold State.carried
  rw [sampleReply_closed found phase old]
  split
  · cases sample : r.sample with
    | none =>
      obtain ⟨lost, _⟩ := loseSample_lost found false
      refine lost.between (.refl s) (deliver_stands (fun p own => ?_) (y := y) ?_)
      · rw [lost.audible.1] at own; cases own
      · rw [loseSample_eq found]; exact line
    | some taken =>
      obtain ⟨level, short⟩ := taken
      obtain ⟨taken, work, kerb, _⟩ := takeSample_taken s u start level short q.earlyEnd
      have line' : (s.takeSample u start level short q.earlyEnd).kerb.transaction = some y := by rw [kerb]; exact line
      refine ⟨_, taken, deliver_stands (fun p own => ?_) line', deliver_levelled line' taken.levelled⟩
      have gone : ((s.takeSample u start level short q.earlyEnd).unit u).audible.sample = none :=
        (congrArg Audible.sample taken.audible :)
      rw [gone] at own; cases own
  · exact deliver_stands (fun p own => by rw [← Option.some.inj (found.symm.trans own), phase]; nofun) line

end Carried

/-! ### The sounding mark, and the review of the working buttons (R148, R150) -/

theorem heard_eq (s : State) (u : UnitId) (m : Mapping) (y : Transaction) (r : KerbReply) : s.heard u m y r =
    if y.endsSounding then ((s.pressed u m r).carried u y r).changeUnit u fun k => { k with sounding := false }
    else (s.pressed u m r).carried u y r := rfl

/-- What the end of the sounding mark and the review of the working buttons leave. -/
structure Closing (u : UnitId) (c : CrossingId) (y : Transaction) (s t : State) : Prop where
  steady : Steady s t
  audibles : AudiblesStand s t
  action : ∀ v, (t.unit v).pendingAction = (s.unit v).pendingAction
  sounding : (t.unit u).sounding = ((s.unit u).sounding && (decide (y.command.indication = .walk) || y.beforeWalk))
  levels : s.LevelledAt u → t.LevelledAt u
  presses : t.counters.crossings[c].presses = s.counters.crossings[c].presses ∧
    t.counters.crossings[c].extendedPresses = s.counters.crossings[c].extendedPresses
  call : (s.callOf c).isSome = true → t.callOf c = s.callOf c

theorem testFailRecall_demand (s : State) (c : CrossingId) : DemandWork s (s.testFailRecall c) := by
  unfold State.testFailRecall; dsimp only; split
  · exact intoQueue_demand s c _
  · exact .refl s

theorem reviewWorking_demand (s : State) (c : CrossingId) : DemandWork s (s.reviewWorking c) := by
  unfold State.reviewWorking State.tellWorking; split
  · exact .refl s
  · exact .after (testFailRecall_demand _ c) (changeCrossing_demand s c fun _ => ⟨rfl, rfl⟩)

/-- A crossing with a record keeps it as its working buttons are reviewed (R60). -/
theorem reviewWorking_callOf (h : (s.callOf c).isSome = true) : (s.reviewWorking c).callOf c = s.callOf c := by
  unfold State.reviewWorking State.tellWorking; split
  · rfl
  · refine Eq.trans (congrArg (fun w : State => w.callOf c) (testFailRecall_idle (.inr (.inr (.inl ?_))))) ?_
    · exact h
    · rfl

theorem soundingEnded (s : State) (u : UnitId) (c : CrossingId) (y : Transaction) : Closing u c y s
    (if y.endsSounding then s.changeUnit u fun k => { k with sounding := false } else s) := by
  have walks : (decide (y.command.indication = .walk) || y.beforeWalk) = !y.endsSounding := by
    simp [Transaction.endsSounding]
  split <;> rename_i ends
  · have each {α : Type} (f : KerbUnit → α) (h : ∀ k, f { k with sounding := false } = f k) (v : UnitId) :
        f ((s.changeUnit u fun k => { k with sounding := false }).unit v) = f (s.unit v) := by
      rw [changeUnit_get]; split <;> [exact h _; rfl]
    refine ⟨changeUnit_steady s u fun _ => rfl, ⟨fun v => by rw [each KerbUnit.audible fun _ => rfl], fun _ => rfl⟩,
      each _ fun _ => rfl, ?_, fun levelled m mapped => ?_, ⟨rfl, rfl⟩, fun _ => rfl⟩
    · rw [changeUnit_unit, walks, ends]; simp
    · rw [each KerbUnit.mapping fun _ => rfl] at mapped
      rw [each KerbUnit.audible fun _ => rfl]
      exact levelled m mapped
  · refine ⟨.refl s, .refl s, fun _ => rfl, ?_, id, ⟨rfl, rfl⟩, fun _ => rfl⟩
    rw [walks, Bool.eq_false_iff.2 ends]; simp

theorem goodReply_closing (s : State) (u : UnitId) (m : Mapping) (y : Transaction) (r : KerbReply) :
    Closing u m.crossing y ((s.pressed u m r).carried u y r) (s.goodReply u m y r) := by
  have ended := soundingEnded ((s.pressed u m r).carried u y r) u m.crossing y
  rw [← heard_eq] at ended
  rw [goodReply_eq]
  split
  · exact ended
  · have units : UnitsKept (s.heard u m y r) ((s.heard u m y r).reviewWorking m.crossing) :=
      tellWorking_unitsKept _ m.crossing _
    have stand := SamplesStand.ofUnits units
    have presses := units.presses m.crossing
    exact ⟨ended.steady.trans (reviewWorking_steady _ _), ended.audibles.trans stand.toAudiblesStand,
      fun v => (stand.action v).trans (ended.action v), (stand.sounding u).trans ended.sounding,
      (reviewWorking_demand _ _).levels u ∘ ended.levels,
      ⟨presses.1.trans ended.presses.1, presses.2.trans ended.presses.2⟩,
      fun h => (reviewWorking_callOf (by rw [ended.call h]; exact h)).trans (ended.call h)⟩

end Sys2Proof.Machine
end

section
/-!
GOOD_REPLY: the unit's entry, its presses and its sample put together (O50).
-/

namespace Sys2Proof.Machine

variable {s t w : State} {c : CrossingId} {q : Sample} {u v : UnitId} {m : Mapping} {r : KerbReply} {y : Transaction}

/-! ### What the whole reply leaves -/

theorem Pressed.record (h : Pressed u m r s t) (c : CrossingId) : (t.crossing c).record = (s.crossing c).record := by
  unfold Crossing.record; rw [h.rest.corridor.records]

section Reply

variable (line : s.kerb.transaction = some y) (named : y.command.address = u)
include line named

/-- The sample's part of the handling, from the presses on. -/
theorem carried_work : SampleWork u (s.pressed u m r) ((s.pressed u m r).carried u y r) := by
  have line' : (s.pressed u m r).kerb.transaction = some y := by rw [(pressed_spec s u m r).kerb]; exact line
  by_cases lost : (s.pressed u m r).losesTo u r
  · exact (carried_lost line' named lost).1
  · exact (carried_spared line' lost).1

theorem goodReply_steady : Steady (s.pressed u m r) (s.goodReply u m y r) :=
  (carried_work line named).steady.trans (goodReply_closing s u m y r).steady

/-- The corridor, the port and the agenda stand, the other units' links too, and the unit's own is that of one that has
answered. -/
theorem goodReply_frame : CorridorAndPort s (s.goodReply u m y r) ∧
    (∀ v, v ≠ u → ((s.goodReply u m y r).unit v).link = (s.unit v).link) ∧
    ((s.goodReply u m y r).unit u).link = ((s.unit u).answered (s.crossing m.crossing).record r).link := by
  have pressed := pressed_spec s u m r
  have steady := goodReply_steady (m := m) (r := r) line named
  exact ⟨pressed.rest.trans (.ofSteady steady), fun v ne => (steady.links v).trans (pressed.links v ne),
    (steady.links u).trans pressed.own⟩

theorem goodReply_others (ne : v ≠ u) :
    ((s.goodReply u m y r).unit v).audible.sample = (s.unit v).audible.sample ∧
      ((s.goodReply u m y r).unit v).pendingAction = (s.unit v).pendingAction := by
  have samples := (pressed_spec s u m r).samples
  obtain ⟨sample, action⟩ := (carried_work (m := m) (r := r) line named).others v ne
  have closing := goodReply_closing s u m y r
  exact ⟨(closing.audibles.sample v).trans (sample.trans (samples.sample v)),
    (closing.action v).trans (action.trans (samples.action v))⟩

theorem goodReply_sounding : ((s.goodReply u m y r).unit u).sounding =
    ((s.unit u).sounding && (decide (y.command.indication = .walk) || y.beforeWalk)) := by
  rw [(goodReply_closing s u m y r).sounding, (carried_work (m := m) (r := r) line named).sounding,
    (pressed_spec s u m r).samples.sounding]

/-! ### The presses and their record -/

theorem goodReply_presses :
    (s.HandsOver u m r → (s.goodReply u m y r).counters.crossings[m.crossing].presses =
        min (s.counters.crossings[m.crossing].presses + newPresses (s.unit u).pressBaseline r.fresh r.presses) 65535 ∧
      (s.goodReply u m y r).counters.crossings[m.crossing].extendedPresses =
        min (s.counters.crossings[m.crossing].extendedPresses +
          newPresses (s.unit u).extendedBaseline r.fresh r.extended) 65535) ∧
    (¬ s.HandsOver u m r → (s.goodReply u m y r).counters.crossings[m.crossing].presses =
        s.counters.crossings[m.crossing].presses ∧
      (s.goodReply u m y r).counters.crossings[m.crossing].extendedPresses =
        s.counters.crossings[m.crossing].extendedPresses) := by
  have noted := (noted_entry s u m r).1.queue.counters
  obtain ⟨hands, keeps⟩ := pressed_cases s u m r
  obtain ⟨presses, extended⟩ := (goodReply_closing s u m y r).presses
  rw [presses, extended, (carried_work (m := m) (r := r) line named).queue.counters]
  refine ⟨fun h => ?_, fun h => ?_⟩
  · rw [hands h]
    have counted := handOver_presses (s.noted u m r) m.crossing m.side
      (newPresses (s.unit u).pressBaseline r.fresh r.presses) (newPresses (s.unit u).extendedBaseline r.fresh r.extended)
    rw [noted] at counted
    exact counted
  · rw [keeps h, noted]; exact ⟨rfl, rfl⟩

theorem goodReply_callOf (hands : s.HandsOver u m r) (service : (s.crossing m.crossing).inService = true)
    (registers : (s.crossing m.crossing).state.registering = true) (green : (s.crossing m.crossing).greenExpired = false) :
    (s.goodReply u m y r).callOf m.crossing = some (s.recordWith m.crossing (pressOffer m.side
      (newPresses (s.unit u).pressBaseline r.fresh r.presses) (newPresses (s.unit u).extendedBaseline r.fresh r.extended))) := by
  have noted := (noted_entry s u m r).1
  have crossing := crossing_of_eq noted.queue.crossings m.crossing
  have queued := (handOver_registers (s := s.noted u m r) (by rw [crossing]; exact service) (by rw [crossing]; exact registers)
    (by rw [crossing]; exact green) m.side (newPresses (s.unit u).pressBaseline r.fresh r.presses)
    (newPresses (s.unit u).extendedBaseline r.fresh r.extended)).1
  have same (o : Offer) : (s.noted u m r).recordWith m.crossing o = s.recordWith m.crossing o := by
    unfold State.recordWith State.callOf
    rw [noted.queue.calls, noted.rest.corridor.clock]
  rw [← (pressed_cases s u m r).1 hands, same] at queued
  have carried : ((s.pressed u m r).carried u y r).callOf m.crossing = (s.pressed u m r).callOf m.crossing := by
    unfold State.callOf; rw [(carried_work (m := m) (r := r) line named).queue.calls]
  rw [(goodReply_closing s u m y r).call (by rw [carried, queued]; rfl), carried, queued]

/-! ### The pending action and the sample -/

theorem goodReply_action :
    (s.losesTo u r → ((s.goodReply u m y r).unit u).pendingAction = some .cancel) ∧
    (¬ s.losesTo u r → y.live → ((s.goodReply u m y r).unit u).pendingAction = none) ∧
    (¬ s.losesTo u r → ¬ y.live → ((s.goodReply u m y r).unit u).pendingAction = (s.unit u).pendingAction) := by
  have pressed := pressed_spec s u m r
  have line' : (s.pressed u m r).kerb.transaction = some y := by rw [pressed.kerb]; exact line
  have loses : (s.pressed u m r).losesTo u r ↔ s.losesTo u r := by
    unfold State.losesTo; rw [pressed.samples.sample]
  rw [(goodReply_closing s u m y r).action, ← pressed.samples.action u, ← loses]
  exact ⟨fun lost => (carried_lost line' named lost).2.2, fun spared => (carried_spared line' spared).2.1,
    fun spared => (carried_spared line' spared).2.2⟩

end Reply

/-- A sample taken, with what came before it and after it. -/
theorem TakenAt.sampleTaken {b d z : State} {start : Time} {level : Nat} {short : Bool}
    (h : TakenAt b d u start level short q.earlyEnd) (before : AudiblesStand s b) (after : AudiblesStand d z)
    (levelled : z.LevelledAt u) (mapped : (z.unit u).mapping = some m) (corridor : CorridorKept s z)
    (interval : b.sampleInterval = s.sampleInterval) : SampleTaken s z u m.crossing q start level short := by
  obtain ⟨audible, mutes, taken, -⟩ := h
  obtain ⟨estimate, stale, due, last⟩ := after.timing u
  have estimate : (z.unit u).audible.estimate = some (nextEstimate (s.unit u).audible level) := by
    rw [estimate, ← nextEstimate_congr before]
    exact (congrArg Audible.estimate audible :)
  have stale : (z.unit u).audible.stale = false := stale.trans (congrArg Audible.stale audible :)
  have base : (z.unit u).audible.base = nextEstimate (s.unit u).audible level / 10 := by
    simp only [Audible.base, estimate, stale, Bool.false_eq_true, if_false]
  have record : (z.crossing m.crossing).record = (s.crossing m.crossing).record := by
    unfold Crossing.record; rw [corridor.records]
  obtain ⟨locator, walk⟩ := levelled m mapped
  rw [record, base, corridor.clock] at locator walk
  refine ⟨⟨(after.sample u).trans (congrArg Audible.sample audible :), (after.report u).trans (congrArg Audible.report audible :),
    estimate, stale, last.trans (congrArg Audible.lastStart audible :), ?_⟩, ⟨locator, walk⟩,
    fun v => by rw [after.muteSet, mutes, before.muteSet], by rw [after.taken, taken, before.taken]⟩
  rw [due, ← interval]
  exact (congrArg Audible.dueTime audible :)

/-! ### The sample, phase by phase (R164, R166) -/

section Sample

variable (line : s.kerb.transaction = some y)
include line

theorem pressed_line : (s.pressed u m r).kerb.transaction = some y := by rw [(pressed_spec s u m r).kerb]; exact line

theorem goodReply_lost (named : y.command.address = u) (lost : s.losesTo u r) : SampleLost s (s.goodReply u m y r) u := by
  have samples := (pressed_spec s u m r).samples
  have loses : (s.pressed u m r).losesTo u r := by unfold State.losesTo; rw [samples.sample]; exact lost
  exact (carried_lost (pressed_line line) named loses).2.1.between samples.toAudiblesStand (goodReply_closing s u m y r).audibles

theorem goodReply_none (free : (s.unit u).audible.sample = none) : ((s.goodReply u m y r).unit u).audible.sample = none ∧
    ((s.goodReply u m y r).unit u).audible.report = (s.unit u).audible.report := by
  have samples := (pressed_spec s u m r).samples.toAudiblesStand
  have carried := carried_none (r := r) (pressed_line (m := m) (r := r) line) ((samples.sample u).trans free)
  have stand := (samples.trans carried).trans (goodReply_closing s u m y r).audibles
  exact ⟨(stand.sample u).trans free, stand.report u⟩

theorem goodReply_requested (found : (s.unit u).audible.sample = some q) (phase : q.phase = .requested) :
    ((s.goodReply u m y r).unit u).audible.sample = some (if y.command.action = some .start ∧ y.actionLive = true then
      { q with phase := .measuring s.clock.now } else q) := by
  have pressed := pressed_spec s u m r
  rw [(goodReply_closing s u m y r).audibles.sample, ← pressed.rest.corridor.clock]
  exact carried_requested (pressed_line line) ((pressed.samples.sample u).trans found) phase

theorem goodReply_measuring {start : Time} (found : (s.unit u).audible.sample = some q) (phase : q.phase = .measuring start)
    (old : r.fresh = false) : ((s.goodReply u m y r).unit u).audible.sample = some q := by
  have samples := (pressed_spec s u m r).samples
  have found' := (samples.sample u).trans found
  rw [(goodReply_closing s u m y r).audibles.sample, (carried_measuring (pressed_line line) found' phase old).sample, found']

theorem goodReply_closed (named : y.command.address = u) (mapped : (s.unit u).mapping = some m) {start : Time} {passed : Bool}
    (found : (s.unit u).audible.sample = some q) (phase : q.phase = .closed start passed) (old : r.fresh = false) :
    if y.builtClosed = true ∧ (q.earlyEnd = true ∨ r.sample.isSome = true ∨ y.builtAfterTick = true) then
      match r.sample with
      | some (level, short) => SampleTaken s (s.goodReply u m y r) u m.crossing q start level short
      | none => SampleLost s (s.goodReply u m y r) u
    else ((s.goodReply u m y r).unit u).audible.sample = some q := by
  have pressed := pressed_spec s u m r
  have closing := goodReply_closing s u m y r
  have found' := (pressed.samples.sample u).trans found
  have completes : y.completes q r = true ↔
      y.builtClosed = true ∧ (q.earlyEnd = true ∨ r.sample.isSome = true ∨ y.builtAfterTick = true) := by
    simp [Transaction.completes, or_assoc]
  have carried := carried_closed (pressed_line line) found' phase old
  split <;> rename_i h
  · rw [if_pos (completes.2 h)] at carried
    cases sample : r.sample with
    | none =>
      rw [sample] at carried
      exact SampleLost.between carried pressed.samples.toAudiblesStand closing.audibles
    | some given =>
      obtain ⟨level, short⟩ := given
      rw [sample] at carried
      obtain ⟨d, taken, after, levelled⟩ := carried
      obtain ⟨frame, -, own⟩ := goodReply_frame (m := m) (r := r) line named
      have moved : ((s.goodReply u m y r).unit u).mapping = (s.unit u).good.mapping := (congrArg KerbUnit.mapping own :)
      have mapping : ((s.goodReply u m y r).unit u).mapping = some m := by rw [moved, (good_kept _).1, mapped]
      have interval : (s.pressed u m r).sampleInterval = s.sampleInterval := by
        unfold State.sampleInterval; rw [pressed.rest.corridor.store]
      exact taken.sampleTaken pressed.samples.toAudiblesStand (after.trans closing.audibles) (closing.levels levelled) mapping
        frame.corridor interval
  · rw [if_neg (mt completes.1 h)] at carried
    rw [closing.audibles.sample, carried.sample, found']

end Sample

/-! ### The unit's entry -/

/-- The counts and the state a good reply leaves (R138). -/
theorem good_counts (k : KerbUnit) : k.good.misses = 0 ∧
    match k.state with
    | .joining => k.good.goods = k.goods + 1 ∧ k.good.state = if 2 ≤ k.goods then .online else .joining
    | .online => k.good.goods = min (k.goods + 1) 3 ∧ k.good.state = .online
    | .suspect => k.good.goods = 1 ∧ k.good.state = .online
    | .failed => k.good.goods = 1 ∧ k.good.state = .joining ∧ k.good.nextRevival = none ∧ k.good.revivalPosition = 0 := by
  unfold KerbUnit.good
  cases state : k.state with
  | joining => simp [Nat.succ_le_succ_iff]
  | online => simp
  | suspect => simp
  | failed => simp [KerbUnit.clearRevival]

/-- An entry whose side of the link is that of a unit that has answered. -/
theorem answered_entry {e k : KerbUnit} {x : Option Record} (h : e.link = (k.answered x r).link) :
    e.misses = 0 ∧
    (match k.state with
      | .joining => e.goods = k.goods + 1 ∧ e.state = if 2 ≤ k.goods then .online else .joining
      | .online => e.goods = min (k.goods + 1) 3 ∧ e.state = .online
      | .suspect => e.goods = 1 ∧ e.state = .online
      | .failed => e.goods = 1 ∧ e.state = .joining ∧ e.nextRevival = none ∧ e.revivalPosition = 0) ∧
    e.stuck = stuckAfter x k.stuck r ∧ e.audioFault = r.speakerFail ∧ e.heldNow = r.heldNow ∧ e.heldTime = r.heldTime ∧
    e.pressBaseline = some r.presses ∧ e.extendedBaseline = some r.extended := by
  obtain ⟨misses, counts⟩ := good_counts k
  have goods : e.goods = k.good.goods := (congrArg KerbUnit.goods h :)
  have state : e.state = k.good.state := (congrArg KerbUnit.state h :)
  have revival : e.nextRevival = k.good.nextRevival := (congrArg KerbUnit.nextRevival h :)
  have position : e.revivalPosition = k.good.revivalPosition := (congrArg KerbUnit.revivalPosition h :)
  have missed : e.misses = k.good.misses := (congrArg KerbUnit.misses h :)
  refine ⟨missed.trans misses, ?_, (congrArg KerbUnit.stuck h :),
    (congrArg KerbUnit.audioFault h :), (congrArg KerbUnit.heldNow h :), (congrArg KerbUnit.heldTime h :),
    (congrArg KerbUnit.pressBaseline h :), (congrArg KerbUnit.extendedBaseline h :)⟩
  rw [goods, state, revival, position]
  exact counts

/-- The stuck flag as R146 judges it. -/
theorem stuckAfter_eq (x : Option Record) (stuck : Bool) (r : KerbReply) : stuckAfter x stuck r =
    if stuck then r.heldNow else r.heldNow && x.any fun q => decide (q.stuckThreshold ≤ 10 * r.heldTime) := by
  cases x with
  | none => cases stuck <;> simp [stuckAfter]
  | some q => rfl

/-! ### The reply received (R136) -/

theorem exec_goodReply {f : List Byte} (run : s.running = true) (line : s.kerb.transaction = some y)
    (opened : y.windowOpen = true) (valid : y.void = false) (named : y.command.address = u)
    (mapped : (s.unit u).mapping = some m) (whole : wholeKerbReply f = true) (check : kerbCheckGood f = true)
    (address : f.getD 1 0 = number u) :
    exec (.goodReply f) s = .next ((s.goodReply u m y (readKerbReply f)).endTransaction (some u)).transmit := by
  have received : s.receiveGood f = (s.goodReply u m y (readKerbReply f)).endTransaction (some u) := by
    subst named
    have awaiting : s.awaiting = some y := by simp only [State.awaiting, line, opened, if_true]
    have answered : y.answeredBy f = true := decide_eq_true address
    simp only [State.receiveGood, awaiting, answered, valid, mapped, Bool.false_eq_true, if_true, if_false]
  refine (if_pos (by rw [whole, check]; rfl)).trans ?_
  rw [State.live, if_pos run, received]

theorem endTransaction_rest (s : State) (ended : Option UnitId) : CorridorAndPort s (s.endTransaction ended).transmit :=
  have port := transmit_portKept (s.endTransaction ended)
  ⟨⟨rfl, rfl, rfl, fun _ => rfl, rfl, rfl, rfl⟩,
    ⟨port.receiver, port.requests, port.executing, port.filter, port.restartHold⟩, rfl⟩

theorem SampleLost.ended (h : SampleLost s t u) (e : Option UnitId) : SampleLost s (t.endTransaction e).transmit u :=
  ⟨h.audible, h.mutes, h.taken⟩

theorem SampleTaken.ended {start : Time} {level : Nat} {short : Bool} (h : SampleTaken s t u c q start level short)
    (e : Option UnitId) : SampleTaken s (t.endTransaction e).transmit u c q start level short :=
  ⟨h.audible, h.levels, h.mutes, h.taken⟩

/-- Settles O50: the reply by what it leaves of the unit, of its presses, of its sample and of the rest; then the
hand-over by itself. -/
theorem goodReplyMovesTheUnitAndCountsPresses : Obligations.GoodReplyMovesTheUnitAndCountsPresses := by
  unfold Obligations.GoodReplyMovesTheUnitAndCountsPresses
  refine ⟨fun f s y u m run line opened valid named mapped whole check address => ?_,
    fun s c side p x service registers green free => ?_⟩
  · intro r k stuck p x handed live lost
    have e : exec (.goodReply f) s = .next ((s.goodReply u m y r).endTransaction (some u)).transmit :=
      exec_goodReply run line opened valid named mapped whole check address
    obtain ⟨frame, links, own⟩ := goodReply_frame (m := m) (r := r) line named
    obtain ⟨presses, still⟩ := goodReply_presses (m := m) (r := r) line named
    obtain ⟨cancelled, delivered, pending⟩ := goodReply_action (m := m) (r := r) line named
    obtain ⟨misses, counts, stuck', fault, heldNow, heldTime, pressBaseline, extendedBaseline⟩ := answered_entry own
    have judged : stuckAfter (s.crossing m.crossing).record k.stuck r = stuck := stuckAfter_eq _ _ _
    have hands : s.HandsOver u m r ↔ handed := by unfold State.HandsOver; rw [judged]; rfl
    have sounding := goodReply_sounding (m := m) (r := r) line named
    have call := goodReply_callOf (m := m) (r := r) line named
    have others := fun v (ne : v ≠ u) => goodReply_others (m := m) (r := r) line named ne
    have free := goodReply_none (u := u) (m := m) (r := r) line
    have gone := goodReply_lost (m := m) (r := r) line named
    have requested := fun q => goodReply_requested (q := q) (u := u) (m := m) (r := r) line
    have measuring := fun q n => goodReply_measuring (q := q) (start := n) (u := u) (m := m) (r := r) line
    have closed := fun q n passed => goodReply_closed (q := q) (start := n) (passed := passed) (r := r) line named mapped
    generalize s.goodReply u m y r = t at *
    have rest := frame.trans (endTransaction_rest t (some u))
    refine ⟨_, e, rfl, rfl, misses, counts, stuck'.trans judged, fault, heldNow, heldTime, pressBaseline, extendedBaseline,
      fun h => presses (hands.2 h), fun h => still (mt hands.1 h), fun h service registers green => ?_, sounding, cancelled,
      delivered, pending, ?_, others, links, rest.corridor, rest.port, rest.due⟩
    · have taken := call (hands.2 h) service registers green
      rw [recordWith_press] at taken
      exact taken
    · cases found : k.audible.sample with
      | none => exact free found
      | some q =>
        dsimp only
        cases phase : q.phase with
        | requested => exact requested q found phase
        | measuring n =>
          dsimp only
          split <;> rename_i fresh
          · exact (gone ⟨fresh, q, found, by simp [phase]⟩).ended _
          · exact measuring q n found phase (by simpa using fresh)
        | closed n passed =>
          dsimp only
          split <;> rename_i fresh
          · exact (gone ⟨fresh, q, found, by simp [phase]⟩).ended _
          · have outcome := closed q n passed found phase (by simpa using fresh)
            split <;> rename_i completes
            · rw [if_pos completes] at outcome
              cases sample : r.sample with
              | none => rw [sample] at outcome; exact outcome.ended _
              | some given => rw [sample] at outcome; exact outcome.ended _
            · rw [if_neg completes] at outcome
              exact outcome
  · intro t
    obtain ⟨call, state⟩ := handOver_registers service registers green side p x
    obtain ⟨presses, extended⟩ := handOver_presses s c side p x
    rw [recordWith_press, free] at call
    exact ⟨call, presses, extended, state, (handOver_within s side p x (company_covers s c)).othersKept,
      .ofSteady (handOver_steady s c side p x)⟩

end Sys2Proof.Machine
end

section
/-!
The stage's arithmetic: its clearance (O27), the coordinated outcome under the hold (O28), and the upgrade with its limit (O29).
-/

namespace Sys2Proof.Machine

/-! ### The clearance (R66) -/

/-- The ceiling times the divisor reaches the dividend and passes it by less than the divisor (R66). -/
theorem ceilDiv_spec {b : Nat} (a : Nat) (h : 0 < b) : a ≤ ceilDiv a b * b ∧ ceilDiv a b * b < a + b := by
  have quotient := Nat.div_add_mod (a + b - 1) b
  have remainder := Nat.mod_lt (a + b - 1) h
  unfold ceilDiv
  rw [Nat.mul_comm]
  omega

/-- A slower walk takes no less time. -/
theorem ceilDiv_antitone {b b' : Nat} (a : Nat) (h : 0 < b) (le : b ≤ b') : ceilDiv a b' ≤ ceilDiv a b := by
  by_contra more
  have slow := (ceilDiv_spec a h).1
  have fast := (ceilDiv_spec a (Nat.lt_of_lt_of_le h le)).2
  have bound : (ceilDiv a b + 1) * b' ≤ ceilDiv a b' * b' := Nat.mul_le_mul_right b' (by omega)
  have slower : ceilDiv a b * b ≤ ceilDiv a b * b' := Nat.mul_le_mul_left _ le
  rw [Nat.succ_mul] at bound
  omega

/-- The ceiling of a quotient lies between bounds that the dividend keeps to. -/
theorem ceilDiv_bounds {a b lo hi : Nat} (h : 0 < b) (low : lo * b < a + b) (high : a ≤ hi * b) :
    lo ≤ ceilDiv a b ∧ ceilDiv a b ≤ hi := by
  obtain ⟨reached, below⟩ := ceilDiv_spec a h
  constructor
  · have : lo * b < (ceilDiv a b + 1) * b := by rw [Nat.succ_mul]; omega
    exact Nat.lt_succ_iff.1 (Nat.lt_of_mul_lt_mul_right this)
  · have : ceilDiv a b * b < (hi + 1) * b := by rw [Nat.succ_mul]; omega
    exact Nat.lt_succ_iff.1 (Nat.lt_of_mul_lt_mul_right this)

/-- The walking speed of a stage (R66). -/
def Record.speed (r : Record) (x : Bool) : Nat := if x then r.accessibleSpeed else r.normalSpeed

theorem clearance_eq (r : Record) (x : Bool) : r.clearance x = ceilDiv (100 * r.length) (r.speed x) + r.margin := rfl

/-- Settles O27: the ceiling of the quotient, for either speed. -/
theorem clearanceRoundsUpExactly : Obligations.ClearanceRoundsUpExactly := by
  unfold Obligations.ClearanceRoundsUpExactly
  intro r x slow order speed c
  have between : r.accessibleSpeed ≤ r.speed x ∧ r.speed x ≤ r.normalSpeed := by
    cases x
    · exact ⟨order, le_refl _⟩
    · exact ⟨le_refl _, order⟩
  have positive : 0 < r.speed x := by omega
  obtain ⟨reached, below⟩ := ceilDiv_spec (100 * r.length) positive
  have quotient : c - r.margin = ceilDiv (100 * r.length) (r.speed x) := Nat.add_sub_cancel ..
  refine ⟨Nat.le_add_left .., quotient ▸ reached, quotient ▸ below, ?_, fun short long fast margin => ?_, ?_⟩
  · exact Nat.add_le_add_right (ceilDiv_antitone _ (Nat.lt_of_lt_of_le (by omega) slow) order) _
  · obtain ⟨low, high⟩ := ceilDiv_bounds (lo := 14) (hi := 800) positive (by omega) (a := 100 * r.length) (by omega)
    have : c = ceilDiv (100 * r.length) (r.speed x) + r.margin := rfl
    omega
  · rintro now call a rfl
    rfl

/-! ### The coordinated outcome (R71, R74) -/

/-- The limit of a stage on the BAND route: the gap, lowered to the hold's limit where the hold is set (R74). -/
def bandLimit (g : Nat) (held : Option Nat) : Nat :=
  match held with
  | none => g
  | some h => min g h

theorem bandLimit_le (g : Nat) (held : Option Nat) : bandLimit g held ≤ g ∧ ∀ l, held = some l → bandLimit g held ≤ l := by
  cases held with
  | none => exact ⟨le_refl g, nofun⟩
  | some h => exact ⟨Nat.min_le_left g h, fun l e => Option.some.inj e ▸ Nat.min_le_right g h⟩

/-- The outcome by the band and the limit (R71, R74). -/
theorem bandOutcome_eq (r : Record) (x : Bool) (y t : Nat) (held : Option Nat) : bandOutcome r x y t held =
    let g := gapFrom r y t
    let l := bandLimit g held
    if inBand r y t = true then .wait .inBand
    else if r.duration x (r.desiredWalk x) ≤ l then .start (r.desiredWalk x) none
    else if r.duration x r.minWalk ≤ l then .start (l - r.fixedPart x) (some (if l < g then .hold else .band))
    else if r.duration x r.minWalk ≤ g then .wait .hold
    else .wait .gap := rfl

theorem walk_le_desiredWalk (r : Record) (x : Bool) : r.walk ≤ r.desiredWalk x := by
  cases x
  · exact le_refl _
  · exact Nat.le_add_right ..

/-- A stage starts with its desired walk where the limit allows it, and otherwise, truncated, with all the limit leaves. -/
theorem bandOutcome_start {r : Record} {x : Bool} {y t w : Nat} {held : Option Nat} {cut : Option Cut}
    (h : bandOutcome r x y t held = .start w cut) :
    (r.duration x w ≤ bandLimit (gapFrom r y t) held ∧ w = r.desiredWalk x ∧ cut = none) ∨
      (r.duration x w = bandLimit (gapFrom r y t) held ∧ r.minWalk ≤ w ∧ w < r.desiredWalk x ∧ cut ≠ none) := by
  have duration (v : Nat) : r.duration x v = r.fixedPart x + v := rfl
  rw [bandOutcome_eq] at h
  dsimp only at h
  split at h
  · cases h
  · split at h
    · rename_i full
      obtain ⟨rfl, rfl⟩ := BandOutcome.start.inj h
      exact .inl ⟨full, rfl, rfl⟩
    · split at h
      · obtain ⟨rfl, rfl⟩ := BandOutcome.start.inj h
        simp only [duration] at *
        exact .inr ⟨by omega, by omega, by omega, nofun⟩
      · split at h <;> cases h

/-- With the hold clear the band alone decides, and no call waits for the hold (R83). -/
theorem bandOutcome_hold {r : Record} {x : Bool} {y t : Nat} {held : Option Nat}
    (h : bandOutcome r x y t held = .wait .hold) : held.isSome = true := by
  cases held with
  | some l => rfl
  | none =>
    rw [bandOutcome_clear] at h
    split_ifs at h <;> cases h

/-- Settles O28. -/
theorem coordinatedStageEndsByBandStart : Obligations.CoordinatedStageEndsByBandStart := by
  unfold Obligations.CoordinatedStageEndsByBandStart
  intro r x y t held walks
  refine ⟨fun w cut h => ?_, bandOutcome_hold⟩
  obtain ⟨gap, hold⟩ := bandLimit_le (gapFrom r y t) held
  have desired := walk_le_desiredWalk r x
  rcases bandOutcome_start h with ⟨ends, rfl, rfl⟩ | ⟨ends, least, less, cut⟩
  · exact ⟨ends.trans gap, fun l e => ends.trans (hold l e), walks.trans desired, le_refl _, iff_of_true rfl rfl⟩
  · exact ⟨ends.le.trans gap, fun l e => ends.le.trans (hold l e), least, less.le, iff_of_false cut less.ne⟩

/-! ### The upgrade (R76, R77) -/

/-- The hold's limit while no announced boundary waits to be taken (R17; log entry 21). -/
theorem holdLimit_eq {s : State} (h : .cycleBoundary ∉ s.due) : s.holdLimit =
    if s.clock.hold then some (s.clock.cycle.getD 0 - s.clock.corridorTime) else none := by
  simp only [State.holdLimit, if_neg h]

/-- A crossing with no band: only the hold limits an upgrade (R76). -/
theorem upgradeLimit_bandless {s : State} {c : CrossingId}
    (h : (s.crossing c).record = none ∨ ∃ q, (s.crossing c).record = some q ∧ q.bandLen = 0) :
    s.upgradeBarred c = false ∧ s.upgradeLimit c = s.holdLimit := by
  rcases h with record | ⟨q, record, bandless⟩
  · simp [State.upgradeBarred, State.upgradeLimit, record]
  · simp [State.upgradeBarred, State.upgradeLimit, record, bandless]

/-- A crossing with a band: the gap limits an upgrade, and the hold with it; in band it is refused (R76). -/
theorem upgradeLimit_banded {s : State} {c : CrossingId} {q : Record} (record : (s.crossing c).record = some q)
    (band : 0 < q.bandLen) :
    s.upgradeBarred c = inBand q (s.clock.cycle.getD 0) (s.localTimeOf q) ∧
      s.upgradeLimit c = some (bandLimit (gapFrom q (s.clock.cycle.getD 0) (s.localTimeOf q)) s.holdLimit) := by
  refine ⟨by simp [State.upgradeBarred, record, band], ?_⟩
  simp only [State.upgradeLimit, record, if_pos band]
  cases s.holdLimit <;> rfl

/-- The clearance an upgrade adds, and the extra walk it offers (R76). -/
def Stage.addedClearance (k : Stage) : Nat := clearanceOf k.length k.accessibleSpeed k.margin - k.clearance

def Stage.offeredWalk (k : Stage) : Nat := if k.truncated then 0 else k.walkExtra

/-- An upgrade granted with extra walk `x` (R77). -/
def Stage.granted (k : Stage) (x r : Nat) : UpgradeOutcome :=
  .fits (k.upgradedBy (clearanceOf k.length k.accessibleSpeed k.margin) x) x (r + k.addedClearance + x)

theorem upgradeOutcome_accessible {k : Stage} (h : k.accessible = true) (r : Nat) (barred : Bool) (limit : Option Nat) :
    upgradeOutcome k r barred limit = .already := by simp [upgradeOutcome, h]

/-- A stage that nothing limits takes the whole offered walk. -/
theorem upgradeOutcome_unlimited {k : Stage} {barred : Bool} {limit : Option Nat} (h : k.accessible = false)
    (free : k.kind = .free ∨ (barred = false ∧ limit = none)) (r : Nat) :
    upgradeOutcome k r barred limit = k.granted k.offeredWalk r := by
  rcases free with kind | ⟨rfl, rfl⟩
  · simp [upgradeOutcome, h, kind]; rfl
  · cases kind : k.kind <;> simp [upgradeOutcome, h, kind] <;> rfl

theorem upgradeOutcome_barred {k : Stage} (h : k.accessible = false) (kind : k.kind = .coordinated) (r : Nat)
    (limit : Option Nat) : upgradeOutcome k r true limit = .noFit := by simp [upgradeOutcome, h, kind]

/-- A coordinated stage under a limit: refused where the added clearance passes it, and otherwise as much of the offered walk
as the room leaves. -/
theorem upgradeOutcome_limited {k : Stage} (h : k.accessible = false) (kind : k.kind = .coordinated) (r l : Nat) :
    upgradeOutcome k r false (some l) =
      if l < r + k.addedClearance then .noFit else k.granted (min k.offeredWalk (l - (r + k.addedClearance))) r := by
  simp only [upgradeOutcome, h, kind, Nat.sub_sub]
  rfl

/-- Settles O29. -/
theorem upgradeFitsWithinTheRoom : Obligations.UpgradeFitsWithinTheRoom := by
  unfold Obligations.UpgradeFitsWithinTheRoom
  refine ⟨fun k r barred limit h => upgradeOutcome_accessible h r barred limit, fun s c settled => ⟨fun bandless => ?_,
    fun q record band => ?_⟩, fun k r barred limit h => ⟨fun kind => ?_, ?_, ?_, ?_, ?_⟩⟩
  · obtain ⟨clear, limit⟩ := upgradeLimit_bandless bandless
    exact ⟨clear, limit.trans (holdLimit_eq settled)⟩
  · obtain ⟨barred, limit⟩ := upgradeLimit_banded record band
    refine ⟨by rw [barred]; exact decide_eq_true_iff, ?_⟩
    rw [limit, holdLimit_eq settled]
    cases s.clock.hold <;> rfl
  · exact upgradeOutcome_unlimited h (.inl kind) r
  · exact fun _ clear none => upgradeOutcome_unlimited h (.inr ⟨clear, none⟩) r
  · rintro kind rfl
    exact upgradeOutcome_barred h kind r limit
  · rintro l kind rfl rfl passed
    exact (upgradeOutcome_limited h kind r l).trans (if_pos passed)
  · rintro l kind rfl rfl room
    have cut := Nat.min_le_right k.offeredWalk (l - (r + k.addedClearance))
    exact ⟨_, rfl, Nat.add_le_of_le_sub' room cut, (upgradeOutcome_limited h kind r l).trans (if_neg (Nat.not_lt.2 room))⟩

end Sys2Proof.Machine
end

section
/-!
What no work but a crossing's own sequence touches (O56): `Calm s t` says that from `s` to `t` every crossing keeps its stance,
the items its laws speak of, and every group its active count. One lemma for each shared operation.
-/

namespace Sys2Proof.Machine

/-- The items of a crossing that the laws of its sequence and of its outputs speak of. -/
def Crossing.stance (x : Crossing) : Crossing :=
  { Crossing.initial with
    state := x.state, timeLeft := x.timeLeft, green := x.green.map fun _ => { left := 0, expired := false }
    stage := x.stage, pendingChange := x.pendingChange, closingAmber := x.closingAmber
    accessibleMark := x.accessibleMark, port := x.port }

/-- Every crossing keeps its stance, and every group its active count. -/
structure Calm (s t : State) : Prop where
  stance : ∀ c, (t.crossing c).stance = (s.crossing c).stance
  active : ∀ g, (t.group g).active = (s.group g).active

variable {s t w : State} {c : CrossingId}

namespace Calm

theorem refl (s : State) : Calm s s := ⟨fun _ => rfl, fun _ => rfl⟩

theorem trans (h : Calm s t) (k : Calm t w) : Calm s w :=
  ⟨fun c => (k.stance c).trans (h.stance c), fun g => (k.active g).trans (h.active g)⟩

theorem after (k : Calm t w) (h : Calm s t) : Calm s w := h.trans k

theorem foldl {α : Type} {f : State → α → State} (l : List α) (s : State) (h : ∀ s a, Calm s (f s a)) :
    Calm s (l.foldl f s) := foldl_related l s refl trans h

/-- Work that leaves the crossings and the groups. -/
theorem same (crossings : t.crossings = s.crossings) (groups : t.groups = s.groups) : Calm s t :=
  ⟨fun c => by rw [crossing_of_eq crossings], fun g => by rw [group_of_eq groups]⟩

end Calm

variable (s)

/-! ### Updates -/

theorem raise_calm (n : NoticeBody) : Calm s (s.raise n) := .same rfl rfl

theorem countCrossing_calm (c : CrossingId) (f : CrossingCounters → CrossingCounters) : Calm s (s.countCrossing c f) :=
  .same rfl rfl

theorem changeUnit_calm (u : UnitId) (f : KerbUnit → KerbUnit) : Calm s (s.changeUnit u f) := .same rfl rfl

theorem countUnit_calm (u : UnitId) (f : UnitCounters → UnitCounters) : Calm s (s.countUnit u f) := .same rfl rfl

theorem respond_calm (tag : Byte) (r : ReplyContent) : Calm s (s.respond tag r) := .same rfl rfl

theorem transmit_calm : Calm s s.transmit := .same rfl rfl

theorem changeCrossing_calm (c : CrossingId) {f : Crossing → Crossing} (h : (f (s.crossing c)).stance = (s.crossing c).stance) :
    Calm s (s.changeCrossing c f) := by
  refine ⟨fun d => ?_, fun _ => rfl⟩
  rw [changeCrossing_get]; split
  · rename_i own; exact own ▸ h
  · rfl

theorem changeGroup_calm (g : GroupId) {f : Group → Group} (h : (f (s.group g)).active = (s.group g).active) :
    Calm s (s.changeGroup g f) := by
  refine ⟨fun _ => rfl, fun g' => ?_⟩
  by_cases own : g = g'
  · subst own; rw [changeGroup_group]; exact h
  · rw [changeGroup_other s f own]

theorem withDue_calm (l : List Due) : Calm s { s with due := l } := .same rfl rfl

theorem withClock_calm (k : Clock) : Calm s { s with clock := k } := .same rfl rfl

theorem withCalls_calm (l : List CallRecord) : Calm s { s with calls := l } := .same rfl rfl

theorem withHost_calm (p : HostPort) : Calm s { s with host := p } := .same rfl rfl

theorem withPending_calm (l : List Instr) : Calm s { s with pending := l } := .same rfl rfl

theorem relevel_calm (u : UnitId) : Calm s (s.relevel u) := .same rfl rfl

theorem relevelAll_calm : Calm s s.relevelAll := .same rfl rfl

/-! ### The audible level block -/

theorem loseSample_calm (u : UnitId) (cancel : Bool) : Calm s (s.loseSample u cancel) := by
  unfold State.loseSample; split
  · exact .refl s
  · split <;> exact .same rfl rfl

theorem onset_calm (u : UnitId) : Calm s (s.onset u) := by
  refine .foldl _ s fun s v => ?_
  unfold State.onsetAt; split
  · exact .refl s
  · split
    · split
      · exact .same rfl rfl
      · split <;> exact .same rfl rfl
      · exact .refl s
    · exact .refl s

theorem soundCrossing_calm (c : CrossingId) : Calm s (s.soundCrossing c) := by
  refine .foldl _ s fun s u => ?_
  unfold State.soundUnit; dsimp only; split
  · split
    · exact .same rfl rfl
    · exact .after (onset_calm _ u) (.same rfl rfl)
  · exact .refl s

theorem grantSamples_calm : Calm s s.grantSamples := by
  unfold State.grantSamples; split
  · refine .foldl _ s fun s u => ?_
    unfold State.considerGrant; split
    · unfold State.grant; exact .same rfl rfl
    · exact .refl s
  · exact .refl s

/-! ### Calls, and what a change of state takes with it -/

theorem removeCall_calm (c : CrossingId) (r : RemovalReason) : Calm s (s.removeCall c r) := by
  unfold State.removeCall; split
  · exact .refl s
  · exact .after (raise_calm _ _) (.after (changeCrossing_calm _ c rfl) (.same rfl rfl))

theorem await_calm (c : CrossingId) (r : Route) (x : WaitReason) : Calm s (s.await c r x) := changeCrossing_calm s c rfl

theorem queued_calm (c : CrossingId) (o : Offer) : Calm s (s.queued c o) :=
  ⟨fun d => by rw [queued_crossing], fun g => by rw [group_of_eq (queued_groups s c o)]⟩

theorem reportState_calm (c : CrossingId) (cause : Cause) : Calm s (s.reportState c cause) := raise_calm s _

theorem loseService_calm (c : CrossingId) : Calm s (s.loseService c) :=
  .after (changeCrossing_calm _ c rfl) (removeCall_calm s c _)

theorem startRecall_calm (c : CrossingId) (now : Time) : Calm s (s.changeCrossing c fun x => x.startRecall now) :=
  changeCrossing_calm s c (by obtain ⟨n, e⟩ := startRecall_eq (s.crossing c) now; rw [e]; rfl)

/-! ### The corridor clock and the plan -/

theorem reviewQuiet_calm : Calm s s.reviewQuiet := .same (reviewQuiet_crossings s) (reviewQuiet_groups s)

theorem advanceSecond_calm : Calm s s.advanceSecond := by
  unfold State.advanceSecond; dsimp only; split
  · split
    · exact .same rfl rfl
    · exact .after (reviewQuiet_calm _) (.same rfl rfl)
  · exact .refl s

/-- The records and the groups' parameters handed over at an adoption move no crossing and no count (R41, R93). -/
theorem adopting_calm (sel : Selection) (h : Header) : Calm s (s.adopting sel h) := by
  have installed : Calm s (s.install sel h) := by
    refine ⟨fun c => ?_, fun g => ?_⟩
    · have e : (s.install sel h).crossing c = (s.crossing c).receive (s.store.effective sel c) := rewrite_get _ _ _
      rw [e]; cases s.store.effective sel c <;> rfl
    · have e : (s.install sel h).group g = (s.group g).adopt s.clock.now h.groups[g] := rewrite_get _ _ _
      rw [e]; rfl
  refine installed.trans ?_
  unfold State.adopting State.dropIfDisallowed; split <;> exact .same rfl rfl

theorem setTime_calm (n : Nat) : Calm s (s.setTime n) := .same rfl rfl

theorem coordinated_calm (n : Nat) : Calm s (({ s.setTime n with
    clock := { (s.setTime n).clock with mode := .coordinated, correction := 0, zeroSteps := 0 } } : State).raise
      (.modeChange .coordinated .sync)) := .same rfl rfl

theorem takeTimeOfDay_calm (n : Nat) : Calm s (s.takeTimeOfDay n) := .after (reviewQuiet_calm _) (.same rfl rfl)

theorem deferAdoption_calm (sel : Selection) (f : Failing) : Calm s (s.deferAdoption sel f) := .same rfl rfl

theorem awake_startEmpty_calm : Calm s s.awake.startEmpty := .same rfl rfl

theorem clockBoundary_calm (o : PlanOutcome) : Calm s (s.clockBoundary o).2 := by
  unfold State.clockBoundary; split
  · unfold State.correct; dsimp only; split <;> exact .same rfl rfl
  · exact .refl s

theorem withDueFor_calm (b : Bool) : Calm s (s.withDueFor b) := by cases b <;> exact .same rfl rfl

/-! ### Requests to the plan store and the host port -/

theorem nextRecord_calm (x : WriteRun) (slot : Nat) : Calm s (s.nextRecord x slot) := by
  unfold State.nextRecord; split
  · exact .same rfl rfl
  · split <;> exact .same rfl rfl

theorem slotWriteDone_calm : Calm s s.slotWriteDone := by
  unfold State.slotWriteDone; split
  · exact .refl s
  · exact .after (nextRecord_calm _ _ _) (.same rfl rfl)

theorem executePlanWrite_calm (fr : Frame) : Calm s (executePlanWrite fr s) := by
  unfold executePlanWrite; split
  · split
    · exact respond_calm s _ _
    · split
      · exact respond_calm s _ _
      · split
        · exact respond_calm s _ _
        · split
          · exact respond_calm s _ _
          · exact nextRecord_calm s _ _
  · exact respond_calm s _ _

theorem executePlanSelect_calm (fr : Frame) : Calm s (executePlanSelect fr s) := by
  unfold executePlanSelect; split
  · split
    · exact respond_calm s _ _
    · unfold State.select; split
      · exact respond_calm s _ _
      · split <;> exact .same rfl rfl
  · exact respond_calm s _ _

theorem executePlanRead_calm (fr : Frame) : Calm s (executePlanRead fr s) := by
  unfold executePlanRead; split
  · split
    · exact respond_calm s _ _
    · split <;> exact respond_calm s _ _
  · exact respond_calm s _ _

theorem executeStatus_calm (fr : Frame) : Calm s (executeStatus fr s) := by
  unfold executeStatus; split <;> exact .same rfl rfl

theorem executeCrossingStatus_calm (fr : Frame) : Calm s (executeCrossingStatus fr s) := by
  unfold executeCrossingStatus; split
  · split <;> exact respond_calm s _ _
  · exact respond_calm s _ _

theorem executeUnitStatus_calm (fr : Frame) : Calm s (executeUnitStatus fr s) := by
  unfold executeUnitStatus; split
  · split
    · exact respond_calm s _ _
    · split <;> exact respond_calm s _ _
  · exact respond_calm s _ _

theorem executeCounters_calm (fr : Frame) : Calm s (executeCounters fr s) := by
  unfold executeCounters; split
  · split
    · unfold State.readCounters; split <;> exact .same rfl rfl
    · exact respond_calm s _ _
  · exact respond_calm s _ _

theorem executeFilterWrite_calm (fr : Frame) : Calm s (executeFilterWrite fr s) := by
  unfold executeFilterWrite; split
  · split
    · dsimp only; split <;> exact .same rfl rfl
    · exact respond_calm s _ _
  · exact respond_calm s _ _

theorem executeRestart_calm (fr : Frame) : Calm s (executeRestart fr s) := by
  unfold executeRestart; split <;> exact .same rfl rfl

theorem startFrame_calm : Calm s s.startFrame := .same rfl rfl

theorem abandonFrame_calm : Calm s s.abandonFrame := by
  unfold State.abandonFrame; split <;> exact .same rfl rfl

theorem receiveFrame_calm (bytes : List Byte) : Calm s (s.receiveFrame bytes) := by
  unfold State.receiveFrame; split
  · exact .refl s
  · split
    · unfold State.enqueue; split <;> exact .same rfl rfl
    · exact .same rfl rfl

theorem endTransmission_calm : Calm s s.endTransmission := by
  unfold State.endTransmission; split <;> exact .same rfl rfl

/-! ### The kerb link -/

theorem poll_calm : Calm s s.poll := by
  unfold State.poll; split
  · exact .refl s
  · split
    · exact .same rfl rfl
    · split <;> exact .same rfl rfl

theorem openWindow_calm : Calm s s.openWindow := .same rfl rfl

theorem lateBytes_calm : Calm s s.lateBytes := by
  unfold State.lateBytes; split <;> exact .same rfl rfl

theorem endTransaction_calm (e : Option UnitId) : Calm s (s.endTransaction e) := .same rfl rfl

theorem reportUnit_calm (u : UnitId) (m : Mapping) (before : UnitState) (cause : UnitCause) :
    Calm s (s.reportUnit u m before cause) := by
  unfold State.reportUnit; dsimp only; split
  · exact .refl s
  · split
    · exact .after (loseSample_calm _ u _) (raise_calm s _)
    · exact raise_calm s _

theorem raiseStale_calm (u : UnitId) (stale : Bool) : Calm s (s.raiseStale u stale) := by
  unfold State.raiseStale; dsimp only; split
  · exact raise_calm s _
  · exact .refl s

theorem takeSample_calm (u : UnitId) (start : Time) (level : Nat) (short early : Bool) :
    Calm s (s.takeSample u start level short early) := by
  unfold State.takeSample; dsimp only; split
  · exact .after (raiseStale_calm _ u _) (.same rfl rfl)
  · exact .same rfl rfl

theorem sampleReply_calm (u : UnitId) (x : Transaction) (r : KerbReply) : Calm s (s.sampleReply u x r) := by
  unfold State.sampleReply; split
  · exact .refl s
  · split
    · exact .refl s
    · split
      · exact loseSample_calm s u _
      · exact .refl s
    · split
      · exact loseSample_calm s u _
      · split
        · split
          · exact takeSample_calm s u _ _ _ _
          · exact loseSample_calm s u _
        · exact .refl s

theorem deliver_calm (u : UnitId) : Calm s (s.deliver u) := by
  unfold State.deliver; split
  · split
    · split
      · unfold State.delivered; split <;> exact .same rfl rfl
      · exact .refl s
    · exact .refl s
  · exact .refl s

theorem judgeStuck_calm (u : UnitId) (m : Mapping) (r : KerbReply) : Calm s (s.judgeStuck u m r) := by
  unfold State.judgeStuck; dsimp only; split <;> exact .same rfl rfl

theorem judgeAudio_calm (u : UnitId) (m : Mapping) (r : KerbReply) : Calm s (s.judgeAudio u m r) := by
  unfold State.judgeAudio; split <;> exact .same rfl rfl

theorem missed_calm (u : UnitId) (m : Mapping) (bad : Bool) : Calm s (s.missed u m bad) :=
  .after (reportUnit_calm _ u m _ _) (.same rfl rfl)

theorem detachUnit_calm (u : UnitId) (cleared : Bool) : Calm s (s.detachUnit u cleared) :=
  .trans (loseSample_calm s u false) (.same rfl rfl)

theorem reviveUnit_calm (u : UnitId) : Calm s (s.reviveUnit u) := by
  unfold State.reviveUnit; dsimp only; split
  · split <;> exact .same rfl rfl
  · exact .refl s

theorem closeSample_calm (u : UnitId) : Calm s (s.closeSample u) := by
  unfold State.closeSample; split
  · split <;> exact .same rfl rfl
  · exact .refl s

theorem becomeStale_calm (u : UnitId) : Calm s (s.becomeStale u) := by
  unfold State.becomeStale; split
  · exact .after (raiseStale_calm _ u _) (.same rfl rfl)
  · exact .refl s

end Sys2Proof.Machine
end

section
/-!
What the sequence of a crossing does to a law (O56). `KeptInSequence P Q` names each act that changes a crossing's stance and
says that it keeps `P`; between the end of a stage and the entry that follows it in the same event, only `Q` stands at the
crossing. Every step is made of these acts and of calm work, and so keeps `P`.
-/

namespace Sys2Proof.Machine

/-- The stage of the crossing discarded, and taken off its group's count (R90, R107, R114). -/
def State.stageEnded (s : State) (c : CrossingId) : State := (s.discardStage c).uncount ((s.crossing c).stage.bind (·.group))

/-- A law `P` that every act of the sequence keeps; `Q c` is what stands of it while crossing `c` holds no stage and has not
entered its next state. -/
structure KeptInSequence (P : State → Prop) (Q : CrossingId → State → Prop) : Prop where
  calm : ∀ {s t}, Calm s t → P s → P t
  calmOff : ∀ {s t c}, Calm s t → Q c s → Q c t
  off : ∀ {s c}, P s → (s.crossing c).state.ofStage = false ∨ (s.crossing c).closingAmber = true → Q c s
  ended : ∀ {s} c, P s → Q c (s.stageEnded c)
  endedOff : ∀ {s c}, Q c s → Q c (s.stageEnded c)
  leave : ∀ {s c st}, Q c s → st.serving = false →
    P (s.changeCrossing c fun x => { x.enter st none with pendingChange := none })
  startup : ∀ {s c}, Q c s → P (s.changeCrossing c Crossing.startingUp)
  green : ∀ {s c}, Q c s → (s.crossing c).pendingChange = none ∨ (s.crossing c).state.ofStage = false →
    P (s.changeCrossing c Crossing.enterGreen)
  next : ∀ {s c st} n, P s → st.timed = true →
    (s.crossing c).state.ofStage = st.ofStage → ((s.crossing c).state = .vehAmber → (s.crossing c).closingAmber = false) →
    P (s.changeCrossing c fun x => x.enter st (some n))
  pend : ∀ {s c} tg cause, P s → (s.crossing c).state = .vehGreen ∨ (s.crossing c).state.ofStage = true →
    P (s.setPending c tg cause)
  withdraw : ∀ {s c}, P s → (s.crossing c).closingAmber = false →
    P (s.changeCrossing c fun x => { x with pendingChange := none })
  admission : ∀ {s c} call r {a : Admission}, P s → (s.crossing c).greenExpired = true → a.route.counted = none →
    P (s.admitCall c call r a)
  admitInGroup : ∀ {s c} g start call r x, P s → (s.crossing c).greenExpired = true →
    P ((s.changeGroup g fun q => q.started s.clock.now start).admitCall c call r (freeAdmission r x (.group g) (some start)))
  upgrade : ∀ {s c k k' x r barred limit} n, P s → (s.crossing c).stage = some k →
    upgradeOutcome k r barred limit = .fits k' x n → P (s.upgradeStage c k' x n)
  halfChange : ∀ {s} c, P s → P (s.changeCrossing c fun x => { x with port := x.port.halfChange })
  advance : ∀ {s} inputs, P s → P (s.advance inputs)

variable {s t : State} {c : CrossingId}

theorem greenExpired_of_eligible {x : Crossing} {call : CallRecord} (h : ineligible x call = none) : x.greenExpired = true := by
  unfold ineligible at h
  split at h
  · cases h
  · split at h
    · assumption
    · cases h

/-- DARK at a FLASH_FAIL comes from a flashing state alone (R113). -/
theorem actOnFault_acts (s : State) (c : CrossingId) (cls : FaultClass) :
    s.actOnFault c cls = s ∨ s.actOnFault c cls = s.enterFaultFlash c .fault ∨
      s.actOnFault c cls = s.changeService c .faultFlash .fault ∨
      ((s.crossing c).state.ofStage = false ∧ s.actOnFault c cls = s.enterUntimed c .dark .fault) := by
  unfold State.actOnFault; split <;> simp_all [CrossingState.ofStage]

/-- In a stage a control action waits or does nothing (R109). -/
theorem controlVerdict_inStage {x : Crossing} (h : x.state.ofStage = true) (a : ControlAction) :
    controlVerdict a x = .pend ∨ controlVerdict a x = .notApplicable := by
  have graded (b : Bool) : (if b then ControlVerdict.pend else .notApplicable) = .pend ∨
      (if b then ControlVerdict.pend else .notApplicable) = .notApplicable := by cases b <;> simp
  cases a with
  | restore =>
    simp only [controlVerdict]; split
    case h_1 st | h_2 st | h_3 st => rw [st] at h; cases h
    all_goals exact .inr rfl
  | serviceOff | dark =>
    simp only [controlVerdict]; split
    case h_4 | h_5 | h_6 | h_7 | h_8 => exact graded _
    all_goals rename_i st; rw [st] at h; cases h

theorem ofStage_of_atOnce {a : ControlAction} {x : Crossing} (h : controlVerdict a x = .enterAtOnce) :
    x.state.ofStage = false := by
  by_contra inStage
  rcases controlVerdict_inStage (x := x) (by simpa using inStage) a with e | e <;> rw [e] at h <;> cases h

theorem ofStage_of_restoreNow {a : ControlAction} {x : Crossing} (h : controlVerdict a x = .restoreNow) :
    x.state.ofStage = false := by
  by_contra inStage
  rcases controlVerdict_inStage (x := x) (by simpa using inStage) a with e | e <;> rw [e] at h <;> cases h

theorem later_of_pend {a : ControlAction} {x : Crossing} (h : controlVerdict a x = .pend) :
    x.state = .vehGreen ∨ x.state.ofStage = true := by
  cases a with
  | restore => simp only [controlVerdict] at h; split at h <;> cases h
  | serviceOff | dark =>
    simp only [controlVerdict] at h; split at h
    case h_3 st => exact .inl st
    case h_4 st | h_5 st | h_6 st | h_7 st | h_8 st => exact .inr (by rw [st]; rfl)
    case h_9 | h_10 => split at h <;> cases h
    all_goals cases h

namespace KeptInSequence

variable {P : State → Prop} {Q : CrossingId → State → Prop} (keeps : KeptInSequence P Q)
include keeps

/-! ### Evaluations (R81 to R88) -/

theorem evaluateBand (h : P s) (green : (s.crossing c).greenExpired = true) (call : CallRecord) (r : Record) :
    P (s.evaluateBand c call r) := by
  unfold State.evaluateBand; split
  · exact keeps.admission call r h green rfl
  · exact keeps.calm (await_calm s c _ _) h

theorem evaluateDirect (h : P s) (green : (s.crossing c).greenExpired = true) (call : CallRecord) (r : Record) :
    P (s.evaluateDirect c call r) := by
  unfold State.evaluateDirect; split
  · exact keeps.admission call r h green rfl
  · exact keeps.calm (await_calm s c _ _) h

theorem considerInGroup (h : P s) (g : GroupId) (c : CrossingId) (call : CallRecord) (r : Record) :
    P (State.considerInGroup g s c call r) := by
  unfold State.considerInGroup; split
  · exact keeps.calm (await_calm s c _ _) h
  · rename_i eligible; split
    · exact keeps.calm (await_calm s c _ _) h
    · split
      · exact keeps.admitInGroup g _ call r _ h (greenExpired_of_eligible eligible)
      · exact keeps.calm (await_calm s c _ _) h

theorem evaluateGroup (h : P s) (g : GroupId) : P (s.evaluateGroup g) := by
  refine foldl_keeps _ s h fun s c h => ?_
  unfold State.groupTurn; split
  · split
    · exact keeps.considerInGroup h g c _ _
    · exact h
  · exact h

theorem evaluate (h : P s) (c : CrossingId) : P (s.evaluate c) := by
  unfold State.evaluate; split
  · rename_i call r _ _; split
    · exact keeps.calm (await_calm s c _ _) h
    · rename_i eligible
      have green := greenExpired_of_eligible eligible
      cases routeOf s.clock.mode r with
      | band => exact keeps.evaluateBand h green call r
      | group g => exact keeps.evaluateGroup h g
      | direct => exact keeps.evaluateDirect h green call r
  · exact h

theorem evaluateAll (h : P s) : P s.evaluateAll := foldl_keeps _ s h fun _ c h => keeps.evaluate h c

theorem evaluateAfterEnd (h : P s) (g : Option GroupId) : P (s.evaluateAfterEnd g) := by
  cases g with
  | none => exact h
  | some g => exact keeps.evaluateGroup h g

/-! ### Offers (R47 to R60) -/

theorem intoQueue (h : P s) (c : CrossingId) (o : Offer) : P (s.intoQueue c o).2 := by
  rw [intoQueue_eq]
  exact keeps.evaluate (keeps.calm (queued_calm s c o) h) c

theorem tryUpgrade (h : P s) (c : CrossingId) (o : Offer) : P (s.tryUpgrade c o).2 := by
  unfold State.tryUpgrade; dsimp only; split
  · exact h
  · rename_i stage; split
    · exact h
    · rename_i fits; exact keeps.upgrade _ h stage fits
    · split
      · exact keeps.intoQueue h c o
      · exact h

theorem offer (h : P s) (c : CrossingId) (o : Offer) : P (s.offer c o).2 := by
  unfold State.offer; dsimp only; split
  · exact keeps.intoQueue h c o
  · split
    · split
      · exact keeps.tryUpgrade h c o
      · exact h
    · exact h

theorem testFailRecall (h : P s) (c : CrossingId) : P (s.testFailRecall c) := by
  unfold State.testFailRecall; dsimp only; split
  · exact keeps.intoQueue h c _
  · exact h

theorem placeLink (h : P s) (c : CrossingId) (k : Stage) : P (s.placeLink c k) := by
  unfold State.placeLink; split
  · exact h
  · split
    · exact h
    · split
      · exact h
      · split
        · exact keeps.calm (countCrossing_calm _ c _) (keeps.offer h _ _)
        · exact keeps.calm (countCrossing_calm s c _) h

theorem reviewWorking (h : P s) (c : CrossingId) : P (s.reviewWorking c) := by
  unfold State.reviewWorking State.tellWorking; split
  · exact h
  · exact keeps.testFailRecall (keeps.calm (changeCrossing_calm s c rfl) h) c

/-! ### Entries and pending changes (R102, R109 to R114) -/

/-- Work on a crossing off its stage, a state entered, and the report of it. -/
theorem reported (h : P s) (c : CrossingId) (cause : Cause) : P (s.reportState c cause) :=
  keeps.calm (reportState_calm s c cause) h

theorem enterStartup (h : Q c s) (cause : Cause) : P (s.enterStartup c cause) :=
  keeps.testFailRecall (keeps.reported (keeps.startup h) c cause) c

theorem enterUntimed (h : Q c s) {st : CrossingState} (out : st.serving = false) (cause : Cause) :
    P (s.enterUntimed c st cause) := by
  have entered := keeps.leave h out
  unfold State.enterUntimed; dsimp only; split
  · exact keeps.reported (keeps.calm (loseService_calm _ c) entered) c cause
  · exact keeps.reported entered c cause

theorem enterUnconfigured (h : Q c s) (cause : Cause) : P (s.enterUnconfigured c cause) := by
  have entered := keeps.enterUntimed h (st := .unconfigured) rfl cause
  unfold State.enterUnconfigured; dsimp only; split
  · refine keeps.enterStartup (keeps.off entered (.inl ?_)) cause
    obtain ⟨⟨⟨w, n, own⟩, -⟩, -⟩ := enterUntimed_untimed s c .unconfigured cause
    rw [own]; rfl
  · exact entered

/-- FAULT_FLASH is entered once the stage has ended (R114). -/
theorem enterFaultFlash (h : Q c (s.stageEnded c)) (cause : Cause) : P (s.enterFaultFlash c cause) := by
  rw [enterFaultFlash_eq]
  refine keeps.evaluateAfterEnd (keeps.reported ?_ c cause) _
  exact keeps.leave (keeps.calmOff (loseService_calm _ c) h) rfl

theorem enterTarget (h : Q c s) (tg : Target) (cause : Cause) : P (s.enterTarget c tg cause) := by
  cases tg with
  | cmdFlash => exact keeps.enterUntimed h rfl cause
  | unconfigured => exact keeps.enterUnconfigured h cause
  | faultFlash => exact keeps.enterFaultFlash (keeps.endedOff h) cause
  | dark => exact keeps.enterUntimed h rfl cause

theorem changeService (h : P s) (c : CrossingId) (tg : Target) (cause : Cause) : P (s.changeService c tg cause) := by
  unfold State.changeService; split
  case h_1 st | h_2 st => exact keeps.enterTarget (keeps.off h (.inl (by rw [st]; rfl))) tg cause
  case h_3 st => exact keeps.pend tg cause h (.inl st)
  case h_4 st | h_5 st | h_6 st | h_7 st | h_8 st => exact keeps.pend tg cause h (.inr (by rw [st]; rfl))
  all_goals exact h

theorem actOnFault (h : P s) (c : CrossingId) (cls : FaultClass) : P (s.actOnFault c cls) := by
  rcases actOnFault_acts s c cls with e | e | e | ⟨flashing, e⟩ <;> rw [e]
  · exact h
  · exact keeps.enterFaultFlash (keeps.ended c h) _
  · exact keeps.changeService h c _ _
  · exact keeps.enterUntimed (keeps.off h (.inl flashing)) rfl _

theorem faultEvent (h : P s) (c : CrossingId) (lamp : Lamp) (cls : FaultClass) : P (s.faultEvent c lamp cls) := by
  have acted := keeps.actOnFault
    (keeps.calm (changeCrossing_calm s c (f := fun x => { x with faults := x.faults.insert cls }) rfl) h) c cls
  rw [faultEvent_eq]; split
  · exact keeps.calm (raise_calm _ _) (keeps.calm (countCrossing_calm _ c _) acted)
  · exact acted

theorem settleAdoption (h : P s) (c : CrossingId) : P (s.settleAdoption c) := by
  unfold State.settleAdoption; dsimp only; split
  · exact keeps.changeService h c _ _
  · split
    · rename_i st; exact keeps.enterStartup (keeps.off h (.inl (by rw [st]; rfl))) _
    · split
      · rename_i withdraws
        exact keeps.testFailRecall (keeps.reported (keeps.withdraw h withdraws.2.2) c _) c
      · exact h

theorem restoreCrossing (h : P s) (out : (s.crossing c).state.ofStage = false) : P (s.restoreCrossing c) := by
  let u := s.changeCrossing c fun x => { x with faults := {}, recallTimer := none }
  have off : Q c u := keeps.calmOff (changeCrossing_calm s c rfl) (keeps.off h (.inl out))
  unfold State.restoreCrossing; dsimp only; split
  · exact keeps.enterStartup off _
  · exact keeps.enterUntimed off rfl _

/-! ### The crossing sequence (R100 to R111) -/

theorem beginWalk (h : P s) (st : (s.crossing c).state = .leadRed) (k : Stage) : P (s.beginWalk c k) := by
  have walking : P (s.changeCrossing c fun x => x.enter .walk (some k.walk)) :=
    keeps.next k.walk h rfl (by rw [st]; rfl) (by rw [st]; nofun)
  unfold State.beginWalk
  exact keeps.calm (soundCrossing_calm _ c) <| keeps.calm (countCrossing_calm _ c _) <| keeps.calm (raise_calm _ _) <|
    keeps.placeLink walking c k

theorem endStage {k : Stage} (h : P s) (stage : (s.crossing c).stage = some k) : P (s.endStage c k) := by
  have counted : (s.crossing c).stage.bind (·.group) = k.group := by rw [stage]; rfl
  have off : Q c (s.stageEnded c) := keeps.ended c h
  rw [State.stageEnded, counted] at off
  unfold State.endStage; dsimp only
  have left := keeps.calmOff (raise_calm _ (.stageEnd c k.walk k.clearance k.upgraded
    (saturate (k.elapsed ((s.discardStage c).uncount k.group).clock.now)))) (keeps.calmOff
      (startRecall_calm _ c ((s.discardStage c).uncount k.group).clock.now) off)
  refine keeps.evaluateAfterEnd ?_ _
  split
  · rename_i clear; exact keeps.testFailRecall (keeps.green left (.inl clear)) c
  · exact keeps.enterTarget left _ _

theorem completeStartup (h : P s) (st : (s.crossing c).state = .startupRed) : P (s.completeStartup c) := by
  have started : (s.changeCrossing c fun x => x.enterGreen.startRecall s.clock.now) =
      (s.changeCrossing c Crossing.enterGreen).changeCrossing c fun x => x.startRecall s.clock.now := by
    simp [State.changeCrossing, change]
  have green : P (s.changeCrossing c Crossing.enterGreen) :=
    keeps.green (keeps.off h (.inl (by rw [st]; rfl))) (.inr (by rw [st]; rfl))
  unfold State.completeStartup
  rw [started]
  exact keeps.testFailRecall (keeps.reported (keeps.calm (startRecall_calm _ c _) green) c _) c

theorem endClosing (h : P s) (closing : (s.crossing c).closingAmber = true) : P (s.endClosing c) := by
  unfold State.endClosing; split
  · exact keeps.enterTarget (keeps.off h (.inr closing)) _ _
  · exact h

/-- The next state of a running interval entered, and fail recall tested (R100, R60). -/
theorem follow (h : P s) {st : CrossingState} (n : Nat) (timed : st.timed = true) (stage : (s.crossing c).state.ofStage = st.ofStage)
    (open_ : (s.crossing c).state = .vehAmber → (s.crossing c).closingAmber = false) : P (s.follow c st n) :=
  keeps.testFailRecall (keeps.next n h timed stage open_) c

theorem endInterval (h : P s) (c : CrossingId) : P (s.endInterval c) := by
  unfold State.endInterval; dsimp only; split
  · split
    case h_1 st => exact keeps.follow h _ rfl (by rw [st]; rfl) (by rw [st]; nofun)
    case h_2 st => exact keeps.completeStartup h st
    case h_3 st =>
      split
      · rename_i closing; exact keeps.endClosing h closing
      · rename_i closing; split
        · exact keeps.follow h _ rfl (by rw [st]; rfl) fun _ => by simpa using closing
        · exact h
    case h_4 st =>
      split
      · exact keeps.beginWalk h st _
      · exact h
    case h_5 st | h_6 st =>
      split
      · exact keeps.follow h _ rfl (by rw [st]; rfl) (by rw [st]; nofun)
      · exact h
    case h_7 =>
      split
      · rename_i stage; exact keeps.endStage h stage
      · exact h
    all_goals exact h
  · exact h

/-! ### The timers -/

theorem expireGreen (h : P s) (c : CrossingId) : P (s.expireGreen c) := by
  unfold State.expireGreen; split
  · rename_i run
    exact keeps.evaluate (keeps.calm (changeCrossing_calm s c (by simp only [Crossing.stance, run]; rfl)) h) c
  · exact h

theorem expireRecall (h : P s) (c : CrossingId) : P (s.expireRecall c) := by
  unfold State.expireRecall; split
  · split
    · exact keeps.offer (keeps.calm (changeCrossing_calm s c rfl) h) c _
    · exact h
  · exact h

theorem arriveNotBefore (h : P s) (c : CrossingId) : P (s.arriveNotBefore c) := by
  unfold State.arriveNotBefore; split
  · split
    · exact keeps.evaluate (keeps.calm (withCalls_calm s _) h) c
    · exact h
  · exact h

theorem expireSpacing (h : P s) (g : GroupId) : P (s.expireSpacing g) := by
  unfold State.expireSpacing; split
  · split
    · exact keeps.evaluateGroup (keeps.calm (changeGroup_calm s g rfl) h) g
    · exact h
  · exact h

theorem closePairing (h : P s) (g : GroupId) : P (s.closePairing g) := by
  unfold State.closePairing; split
  · split
    · exact keeps.evaluateGroup (keeps.calm (changeGroup_calm s g rfl) h) g
    · exact h
  · exact h

theorem changeFlashHalf (h : P s) (c : CrossingId) : P (s.changeFlashHalf c) := by
  unfold State.changeFlashHalf; split
  · exact keeps.halfChange c h
  · exact h

/-! ### The corridor's events (R5, R7, R18) -/

theorem bandEndEvent (h : P s) (c : CrossingId) : P (s.bandEndEvent c) := by
  unfold State.bandEndEvent; split
  · exact keeps.evaluate h c
  · exact h

theorem expireWatchdog (h : P s) : P s.expireWatchdog := by
  unfold State.expireWatchdog; split
  · exact keeps.evaluateAll (keeps.calm (.after (raise_calm _ (.modeChange .free .watchdog)) (withClock_calm s
      { s.clock with mode := .free, correction := 0, zeroSteps := 0 })) h)
  · exact h

theorem adopt (h : P s) (sel : Selection) (d : Header) : P (s.adopt sel d) := by
  rw [adopt_eq]
  have settled := foldl_keeps allCrossings _ (keeps.calm (adopting_calm s sel d) h) fun _ c h => keeps.settleAdoption h c
  exact keeps.calm (.after (relevelAll_calm _) (reviewQuiet_calm _)) settled

theorem planBoundary (h : P s) : P s.planBoundary.2 := by
  unfold State.planBoundary; split
  · exact h
  · split
    · exact h
    · dsimp only; split
      · exact keeps.adopt h _ _
      · split
        · exact keeps.adopt h _ _
        · exact keeps.calm (deferAdoption_calm s _ _) h

theorem boundary (h : P s) : P s.boundary := by
  have reviewed (before : Vector Group 4) (s : State) (g : GroupId) (h : P s) : P (State.reviewGroup before s g) := by
    unfold State.reviewGroup; split
    · exact h
    · exact keeps.evaluateGroup h g
  have planned := keeps.planBoundary (keeps.calm (withClock_calm s { s.clock with hold := false }) h)
  rw [boundary_eq]
  exact keeps.evaluateAll <| foldl_keeps allGroups _ (keeps.calm (withDueFor_calm _ _)
    (keeps.calm (clockBoundary_calm _ _) planned)) (reviewed s.groups)

theorem timeStep (h : P s) : P s.timeStep := keeps.evaluateAll (keeps.calm (withDue_calm s _) h)

theorem enterCoordinated (h : P s) (n : Nat) : P (s.enterCoordinated n) := by
  have ready := keeps.timeStep (keeps.calm (coordinated_calm s n) h)
  exact ready

theorem setCorridorTime (h : P s) (n : Nat) : P (s.setCorridorTime n) := keeps.timeStep (keeps.calm (setTime_calm s n) h)

theorem takeReference (h : P s) (n : Nat) : P (s.takeReference n).2 := by
  unfold State.takeReference; split
  · split
    · exact h
    · split
      · exact h
      · split
        · dsimp only; exact keeps.enterCoordinated h n
        · dsimp only; exact keeps.setCorridorTime h n
  · dsimp only; split <;> exact keeps.calm (withClock_calm s _) h

theorem executeSync (fr : Frame) (h : P s) : P (executeSync fr s) := by
  unfold Machine.executeSync; split
  · split
    · unfold State.acceptSync
      exact keeps.calm (respond_calm _ _ _) (keeps.takeReference (keeps.calm (takeTimeOfDay_calm s _) h) _)
    · exact keeps.calm (respond_calm s _ _) h
  · exact keeps.calm (respond_calm s _ _) h

/-! ### Requests to the call queue and the crossings -/

theorem executeCall (fr : Frame) (h : P s) : P (executeCall fr s) := by
  unfold Machine.executeCall; split
  · split
    · unfold State.call; split
      · exact keeps.calm (respond_calm _ _ _) (keeps.offer h _ _)
      · exact keeps.calm (respond_calm s _ _) h
    · exact keeps.calm (respond_calm s _ _) h
  · exact keeps.calm (respond_calm s _ _) h

theorem executeCancel (fr : Frame) (h : P s) : P (executeCancel fr s) := by
  unfold Machine.executeCancel; split
  · split
    · rename_i c _
      have withdrawn : P (s.withdrawRemote c) := keeps.calm (withCalls_calm s _) h
      unfold State.cancel; split
      · exact keeps.calm (respond_calm s _ _) h
      · split
        · dsimp only; split
          · exact keeps.calm (respond_calm _ _ _) <| keeps.testFailRecall (keeps.calm (removeCall_calm _ _ _) withdrawn) _
          · exact keeps.calm (respond_calm _ _ _) withdrawn
        · exact keeps.calm (respond_calm s _ _) h
    · exact keeps.calm (respond_calm s _ _) h
  · exact keeps.calm (respond_calm s _ _) h

theorem control (h : P s) (tag : Byte) (c : CrossingId) (a : ControlAction) : P (s.control tag c a) := by
  unfold State.control; split
  · rename_i verdict
    exact keeps.calm (respond_calm _ _ _) (keeps.enterTarget (keeps.off h (.inl (ofStage_of_atOnce verdict))) _ _)
  · rename_i verdict
    exact keeps.calm (respond_calm _ _ _) (keeps.pend _ _ h (later_of_pend verdict))
  · rename_i verdict
    exact keeps.calm (respond_calm _ _ _) (keeps.restoreCrossing h (ofStage_of_restoreNow verdict))
  · exact keeps.calm (respond_calm s _ _) h

theorem executeControl (fr : Frame) (h : P s) : P (executeControl fr s) := by
  unfold Machine.executeControl; split
  · split
    · exact keeps.control h _ _ _
    · exact keeps.calm (respond_calm s _ _) h
  · exact keeps.calm (respond_calm s _ _) h

/-! ### The kerb link -/

theorem accountPresses (h : P s) (u : UnitId) (m : Mapping) (found : KerbUnit) (r : KerbReply) :
    P (s.accountPresses u m found r) := by
  unfold State.accountPresses; dsimp only; split
  · exact keeps.offer (keeps.calm (countCrossing_calm _ _ _) (keeps.calm (changeUnit_calm s u _) h)) _ _
  · exact keeps.calm (changeUnit_calm s u _) h

theorem goodReply (h : P s) (u : UnitId) (m : Mapping) (x : Transaction) (r : KerbReply) : P (s.goodReply u m x r) := by
  have heard : P (s.heard u m x r) := by
    have pressed := keeps.accountPresses (keeps.calm (.after (judgeAudio_calm _ u m r) <| .after (judgeStuck_calm _ u m r) <|
      .after (reportUnit_calm _ u m (s.unit u).state (goodCause (s.unit u).state)) (changeUnit_calm s u KerbUnit.good)) h)
      u m (s.unit u) r
    have delivered := keeps.calm (.after (deliver_calm _ u) (sampleReply_calm _ u x r)) pressed
    unfold State.heard; dsimp only; split
    · exact keeps.calm (changeUnit_calm _ u _) delivered
    · exact delivered
  rw [goodReply_eq]; split
  · exact heard
  · exact keeps.reviewWorking heard _

theorem missUnit (h : P s) (u : UnitId) (bad : Bool) : P (s.missUnit u bad) := by
  cases mapped : (s.unit u).mapping with
  | none =>
    unfold State.missUnit; dsimp only
    rw [countUnit_unit, mapped]
    exact keeps.calm (countUnit_calm s u _) h
  | some m =>
    have missed := keeps.calm (missed_calm s u m bad) h
    rw [missUnit_eq mapped]; split
    · exact missed
    · exact keeps.reviewWorking missed _

theorem reviewConcerned (h : P s) (old new : Option CrossingId) : P (s.reviewConcerned old new) := by
  have first : P (match old with | some c => s.reviewWorking c | none => s) := by
    cases old with
    | none => exact h
    | some c => exact keeps.reviewWorking h c
  unfold State.reviewConcerned; dsimp only
  cases new with
  | none => exact first
  | some d =>
    dsimp only; split
    · exact first
    · exact keeps.reviewWorking first d

theorem mapUnit (h : P s) (u : UnitId) (m : Mapping) : P (s.mapUnit u m) := by
  unfold State.mapUnit; dsimp only
  refine keeps.reviewConcerned (keeps.calm ?_ h) _ _
  exact .after (raise_calm _ _) (.after (relevel_calm _ u) (.after (changeUnit_calm _ u _) (detachUnit_calm s u false)))

theorem unmapUnit (h : P s) (u : UnitId) (m : Mapping) : P (s.unmapUnit u m) := by
  unfold State.unmapUnit; dsimp only
  refine keeps.reviewConcerned (keeps.calm ?_ h) _ _
  exact .after (raise_calm _ _) (.after (changeUnit_calm _ u _) (detachUnit_calm s u true))

theorem executeMap (fr : Frame) (h : P s) : P (executeMap fr s) := by
  unfold Machine.executeMap; split
  · exact keeps.calm (respond_calm s _ _) h
  · exact keeps.calm (respond_calm s _ _) h
  · exact keeps.calm (respond_calm _ _ _) (keeps.mapUnit h _ _)
  · split
    · exact keeps.calm (respond_calm s _ _) h
    · exact keeps.calm (respond_calm _ _ _) (keeps.unmapUnit h _ _)

theorem endInMiss (h : P s) (x : Transaction) (bad counted : Bool) : P (s.endInMiss x bad counted) := by
  unfold State.endInMiss; dsimp only; split
  · exact keeps.calm (endTransaction_calm s _) h
  · exact keeps.calm (endTransaction_calm _ _) (keeps.missUnit h _ bad)

theorem receiveGood (h : P s) (frame : List Byte) : P (s.receiveGood frame) := by
  unfold State.receiveGood; split
  · exact h
  · dsimp only; split
    · split
      · exact keeps.calm (endTransaction_calm s _) h
      · split
        · exact keeps.calm (endTransaction_calm s _) h
        · exact keeps.calm (endTransaction_calm _ _) (keeps.goodReply h _ _ _ _)
    · exact h

theorem receiveBad (h : P s) (frame : List Byte) : P (s.receiveBad frame) := by
  unfold State.receiveBad; split
  · exact h
  · split
    · exact h
    · exact keeps.endInMiss h _ _ _

theorem closeWindow (h : P s) (x : WindowContent) : P (s.closeWindow x) := by
  unfold State.closeWindow; split
  · exact h
  · exact keeps.endInMiss h _ _ _

/-! ### Announced events, requests and the decisecond event -/

theorem runDue (h : P s) (d : Due) : P (runDue d s) := by
  cases d with
  | secondAdvance => exact keeps.calm (advanceSecond_calm s) h
  | cycleBoundary | boundaryDue => exact keeps.boundary h
  | watchdog => exact keeps.expireWatchdog h
  | intervalEnd c => exact keeps.endInterval h c
  | flashHalf c => exact keeps.changeFlashHalf h c
  | mismatch c lamp cls => exact keeps.faultEvent h c lamp cls
  | conflict c => exact keeps.faultEvent h c _ _
  | greenExpiry c => exact keeps.expireGreen h c
  | bandEnd c => exact keeps.bandEndEvent h c
  | notBefore c => exact keeps.arriveNotBefore h c
  | recallExpiry c => exact keeps.expireRecall h c
  | spacing g => exact keeps.expireSpacing h g
  | pairing g => exact keeps.closePairing h g
  | revival u => exact keeps.calm (reviveUnit_calm s u) h
  | windowClose u => exact keeps.calm (closeSample_calm s u) h
  | stale u => exact keeps.calm (becomeStale_calm s u) h

theorem take (h : P s) (d : Due) : P (s.take d (Machine.runDue d)) := by
  unfold State.take; split
  · exact keeps.runDue (keeps.calm (withDue_calm s _) h) d
  · exact h

theorem tick (h : P s) (inputs : ProvingInputs) : P (s.tick inputs) := by
  have settled : P (s.due.foldl State.settleOne s) := foldl_keeps s.due s h fun w d h =>
    keeps.calm (transmit_calm _) (keeps.take h d)
  have ticked := keeps.advance inputs (keeps.calm (withDue_calm _ []) settled)
  exact keeps.calm (.after (grantSamples_calm _) (withDue_calm _ (announced s.settle (s.settle.advance inputs) inputs))) ticked

theorem serve (h : P s) (is : Frame → Bool) {f : Frame → State → State} (hf : ∀ fr {s : State}, P s → P (f fr s)) :
    P (s.serve is f) := by
  unfold State.serve; split
  · split
    · exact hf _ (keeps.calm (withHost_calm s _) h)
    · exact h
  · exact h

theorem live (h : P s) {f : State → State} (hf : ∀ {s : State}, P s → P (f s)) : P (s.live f) := by
  unfold State.live; split
  · exact keeps.calm (transmit_calm _) (hf h)
  · exact h

theorem startUp (started : ∀ (w : State) sel d, P (w.startUnder sel d)) (h : P s) : P s.startUp := by
  have recalled {w : State} (k : P w) : P (allCrossings.foldl State.testFailRecall w.relevelAll) :=
    foldl_keeps allCrossings _ (keeps.calm (relevelAll_calm w) k) fun _ c k => keeps.testFailRecall k c
  cases run : s.running with
  | true => rwa [State.startUp, if_pos run]
  | false =>
    cases e : s.store.checked.readoption with
    | none => rw [startUp_empty run e]; exact recalled (keeps.calm (awake_startEmpty_calm s) h)
    | some adopted => rw [startUp_under run e]; exact recalled (started _ _ _)

/-- Every command keeps such a law: a reset and a start-up by the values they leave, every other command by its work. -/
theorem exec (reset : ∀ {s t : State} {k : Counters} {f : Vector FilterEntry 16}, AfterReset s t k f → P t)
    (started : ∀ (w : State) sel d, P (w.startUnder sel d)) {i : Instr} (h : P s) (e : Machine.exec i s = .next t) : P t := by
  have calmly {f : State → State} (hf : ∀ s, Calm s (f s)) : P (s.live f) := keeps.live h fun k => keeps.calm (hf _) k
  have request {is : Frame → Bool} {f : Frame → State → State} (hf : ∀ fr {s : State}, P s → P (f fr s)) :
      P (s.live fun s => s.serve is f) := keeps.live h fun k => keeps.serve k is hf
  have answered {is : Frame → Bool} {f : Frame → State → State} (hf : ∀ s fr, Calm s (f fr s)) :
      P (s.live fun s => s.serve is f) := request fun fr _ k => keeps.calm (hf _ fr) k
  have wf : wellFormed i = true := by
    by_contra bad
    rw [exec_fault (by simpa using bad)] at e
    cases e
  cases hd : takenBy i with
  | some d =>
    rw [exec_takes hd] at e
    obtain rfl := Host.Outcome.next.inj e
    exact keeps.live h fun k => keeps.take k d
  | none =>
    have next {w : State} (k : Machine.exec i s = .next w) (kept : P w) : P t := Host.Outcome.next.inj (k.symm.trans e) ▸ kept
    cases i with
    | coldStart => exact next rfl (reset (shutDown_afterReset s _ _))
    | startUpComplete => exact next rfl (keeps.calm (transmit_calm _) (keeps.startUp started h))
    | restartBegin =>
      refine next rfl ?_
      split
      · exact reset (shutDown_afterReset s _ _)
      · exact h
    | decisecondEvent inputs => exact next rfl (keeps.live h fun k => keeps.tick k inputs)
    | mismatchTimerLimit c lamp =>
      refine next rfl (keeps.live h fun {s} k => ?_)
      split
      · exact keeps.take k (.mismatch c lamp _)
      · exact k
    | sync => exact next rfl (request fun fr _ k => keeps.executeSync fr k)
    | planWrite => exact next rfl (answered executePlanWrite_calm)
    | slotWriteDone => exact next rfl (calmly slotWriteDone_calm)
    | planSelect => exact next rfl (answered executePlanSelect_calm)
    | planRead => exact next rfl (answered executePlanRead_calm)
    | call => exact next rfl (request fun fr _ k => keeps.executeCall fr k)
    | callCancel => exact next rfl (request fun fr _ k => keeps.executeCancel fr k)
    | serviceOff | dark | restore => exact next rfl (request fun fr _ k => keeps.executeControl fr k)
    | unitMapSet | unitMapClear => exact next rfl (request fun fr _ k => keeps.executeMap fr k)
    | unitStatus => exact next rfl (answered executeUnitStatus_calm)
    | counters => exact next rfl (answered executeCounters_calm)
    | unknownKind => exact next rfl (answered fun s fr => respond_calm s fr.tag _)
    | status => exact next rfl (answered executeStatus_calm)
    | crossingStatus => exact next rfl (answered executeCrossingStatus_calm)
    | filterWrite => exact next rfl (answered executeFilterWrite_calm)
    | restart => exact next rfl (answered executeRestart_calm)
    | pollCommand => exact next rfl (calmly poll_calm)
    | replyWindowOpen => exact next rfl (calmly openWindow_calm)
    | replyWindowClose x => exact next rfl (keeps.live h fun k => keeps.closeWindow k x)
    | lateBytes => exact next rfl (calmly lateBytes_calm)
    | hostFrameStart => exact next rfl (calmly startFrame_calm)
    | frameGapTimeout => exact next rfl (calmly abandonFrame_calm)
    | transmitEnd => exact next rfl (calmly endTransmission_calm)
    | goodReply frame => exact next (if_pos wf) (keeps.live h fun k => keeps.receiveGood k frame)
    | badReply frame => exact next (if_pos wf) (keeps.live h fun k => keeps.receiveBad k frame)
    | hostFrameReceived bytes => exact next (if_pos wf) (calmly (receiveFrame_calm · bytes))
    | frameAbandon cause => exact next (if_pos wf) (calmly abandonFrame_calm)
    | _ => cases hd

/-- Such a law is kept by every step. -/
theorem step (reset : ∀ {s t : State} {k : Counters} {f : Vector FilterEntry 16}, AfterReset s t k f → P t)
    (started : ∀ (w : State) sel d, P (w.startUnder sel d)) (h : P s) (e : Machine.step s = .next t) : P t := by
  unfold Machine.step at e
  split at e
  · exact keeps.exec reset started (keeps.calm (withPending_calm s _) h) e
  · obtain rfl := Host.Outcome.next.inj e; exact h

end KeptInSequence

end Sys2Proof.Machine
end

section
/-!
The laws of the stages and of the groups' counts under every step (O56): each act of a crossing's sequence keeps them, and so
does every step.
-/

namespace Sys2Proof.Machine

variable {s t : State} {c : CrossingId}

/-! ### The counts without one crossing -/

/-- Whether the crossing's stage counts in the group. -/
def State.counts (s : State) (c : CrossingId) (g : GroupId) : Bool := decide ((s.crossing c).stage.bind (·.group) = some g)

/-- How many of the other crossings' stages count in the group. -/
def State.countedBut (s : State) (c : CrossingId) (g : GroupId) : Nat := (allCrossings.erase c).countP fun d => s.counts d g

theorem countedIn_length (s : State) (c : CrossingId) (g : GroupId) :
    (s.countedIn g).length = s.countedBut c g + (s.counts c g).toNat := by
  have parted : (s.countedIn g).length = (c :: allCrossings.erase c).countP fun d => s.counts d g :=
    List.countP_eq_length_filter.symm.trans ((List.perm_cons_erase (mem_allCrossings c)).countP_eq _)
  rw [parted, List.countP_cons]
  cases e : s.counts c g <;> simp [State.countedBut]

theorem countedBut_congr (kept : ∀ d, d ≠ c → t.crossing d = s.crossing d) (g : GroupId) :
    t.countedBut c g = s.countedBut c g := by
  refine List.countP_congr fun d mem => ?_
  have other : d ≠ c := fun e => (List.Nodup.not_mem_erase (by decide) : c ∉ allCrossings.erase c) (e ▸ mem)
  rw [State.counts, State.counts, kept d other]

theorem counts_of_stage {c d : CrossingId} (h : (t.crossing c).stage.bind (·.group) = (s.crossing d).stage.bind (·.group))
    (g : GroupId) : t.counts c g = s.counts d g := by rw [State.counts, State.counts, h]

/-! ### The law moved at one crossing -/

/-- A crossing moved from one lawful condition to another, its group's count with it. -/
theorem groupLaw_moved (law : s.GroupLaw) (kept : ∀ d, d ≠ c → t.crossing d = s.crossing d) (own : (t.crossing c).StageLaw)
    (active : ∀ g, (t.group g).active + (s.counts c g).toNat = (s.group g).active + (t.counts c g).toNat) : t.GroupLaw := by
  obtain ⟨stages, count⟩ := law
  refine ⟨fun d => ?_, fun g => ?_⟩
  · by_cases e : d = c
    · exact e ▸ own
    · exact kept d e ▸ stages d
  · have before := count g
    have balance := active g
    rw [countedIn_length s c g] at before
    rw [countedIn_length t c g, countedBut_congr kept]
    omega

/-- A change at a crossing that leaves its stage's group leaves the counts. -/
theorem groupLaw_changed (law : s.GroupLaw) (kept : ∀ d, d ≠ c → t.crossing d = s.crossing d) (groups : t.groups = s.groups)
    (same : (t.crossing c).stage.bind (·.group) = (s.crossing c).stage.bind (·.group)) (own : (t.crossing c).StageLaw) :
    t.GroupLaw :=
  groupLaw_moved law kept own fun g => by rw [group_of_eq groups, counts_of_stage same]

theorem changeCrossing_kept (s : State) (f : Crossing → Crossing) : ∀ d, d ≠ c → (s.changeCrossing c f).crossing d = s.crossing d :=
  fun _ ne => changeCrossing_other s f ne.symm

theorem groupLaw_changeCrossing (law : s.GroupLaw) {f : Crossing → Crossing} (stage : (f (s.crossing c)).stage = (s.crossing c).stage)
    (own : (f (s.crossing c)).StageLaw) : (s.changeCrossing c f).GroupLaw :=
  groupLaw_changed law (changeCrossing_kept s f) rfl (by rw [changeCrossing_crossing, stage]) (by rwa [changeCrossing_crossing])

/-! ### Between a stage's end and the entry of the next state -/

/-- The law everywhere but at a crossing that holds no stage and has not entered its next state. -/
structure State.OffStage (c : CrossingId) (s : State) : Prop where
  others : ∀ d, d ≠ c → (s.crossing d).StageLaw
  count : ∀ g, (s.group g).active = s.countedBut c g
  stage : (s.crossing c).stage = none
  mark : (s.crossing c).accessibleMark = false
  change : (s.crossing c).pendingChange.isSome = true → (s.crossing c).state.ofStage = true

theorem offStage_of_groupLaw (law : s.GroupLaw)
    (idle : (s.crossing c).state.ofStage = false ∨ (s.crossing c).closingAmber = true) : s.OffStage c := by
  obtain ⟨stages, count⟩ := law
  have none : (s.crossing c).stage = none := by
    refine Option.not_isSome_iff_eq_none.1 (Bool.eq_false_iff.1 ((stages c).stage.trans ?_))
    rcases idle with off | closing
    · rw [off, Bool.false_and]
    · rw [closing, Bool.not_true, Bool.and_false]
  refine ⟨fun d _ => stages d, fun g => ?_, none, by simpa [none] using (stages c).accessible, (stages c).change⟩
  rw [count g, countedIn_length s c g]
  simp [State.counts, none]

theorem State.OffStage.entered (off : s.OffStage c) {f : Crossing → Crossing} (stage : (f (s.crossing c)).stage = none)
    (own : (f (s.crossing c)).StageLaw) : (s.changeCrossing c f).GroupLaw := by
  refine ⟨fun d => ?_, fun g => ?_⟩
  · by_cases e : d = c
    · subst e; rwa [changeCrossing_crossing]
    · rw [changeCrossing_kept s f d e]; exact off.others d e
  · rw [countedIn_length _ c g, countedBut_congr (changeCrossing_kept s f)]
    simpa [State.counts, stage] using off.count g

theorem ended_active (q : Group) (now : Time) : (q.ended now).active = q.active - 1 := by
  unfold Group.ended; split
  · simp only []; omega
  · rfl

theorem uncount_active (s : State) (o : Option GroupId) (g : GroupId) :
    ((s.uncount o).group g).active = (s.group g).active - (decide (o = some g)).toNat := by
  by_cases e : o = some g
  · subst e
    simp [State.uncount, ended_active]
  · rw [uncount_others s e]; simp [e]

theorem stageEnded_crossing (s : State) (c : CrossingId) :
    (s.stageEnded c).crossing c = { s.crossing c with stage := none, accessibleMark := false } := by
  rw [State.stageEnded, crossing_of_eq (uncount_keeps _ _).1, discardStage_crossing]

theorem stageEnded_kept (s : State) : ∀ d, d ≠ c → (s.stageEnded c).crossing d = s.crossing d := fun d ne => by
  rw [State.stageEnded, crossing_of_eq (uncount_keeps _ _).1, State.discardStage,
    (markAccessible_within (p := (· = c)) _ false rfl d ne).1]
  exact changeCrossing_kept s _ d ne

theorem stageEnded_active (s : State) (c : CrossingId) (g : GroupId) :
    ((s.stageEnded c).group g).active = (s.group g).active - (s.counts c g).toNat := by
  rw [State.stageEnded, uncount_active, group_of_eq (discardStage_groups s c)]; rfl

/-- Where a stage ends, its group's count ends with it (R86, R90). -/
theorem stageEnded_offStage (others : ∀ d, d ≠ c → (s.crossing d).StageLaw)
    (count : ∀ g, (s.group g).active = s.countedBut c g + (s.counts c g).toNat)
    (change : (s.crossing c).pendingChange.isSome = true → (s.crossing c).state.ofStage = true) : (s.stageEnded c).OffStage c where
  others d ne := by rw [stageEnded_kept s d ne]; exact others d ne
  count g := by rw [stageEnded_active, countedBut_congr (stageEnded_kept s), count g]; omega
  stage := by rw [stageEnded_crossing]
  mark := by rw [stageEnded_crossing]
  change := by rw [stageEnded_crossing]; exact change

/-! ### Calm work -/

theorem stance_stageLaw (x : Crossing) : x.stance.StageLaw ↔ x.StageLaw := by
  have green : x.stance.green.isSome = x.green.isSome := Option.isSome_map
  exact ⟨fun h => ⟨h.stage, h.closing, h.change, green.symm.trans h.green, h.timed, h.accessible⟩,
    fun h => ⟨h.stage, h.closing, h.change, green.trans h.green, h.timed, h.accessible⟩⟩

theorem stageLaw_of_stance {x y : Crossing} (e : y.stance = x.stance) (h : x.StageLaw) : y.StageLaw :=
  (stance_stageLaw y).1 (e ▸ (stance_stageLaw x).2 h)

namespace Calm

theorem stage (k : Calm s t) (d : CrossingId) : (t.crossing d).stage = (s.crossing d).stage :=
  (congrArg Crossing.stage (k.stance d) :)

theorem counts (k : Calm s t) (d : CrossingId) (g : GroupId) : t.counts d g = s.counts d g :=
  counts_of_stage (congrArg (·.bind (·.group)) (k.stage d)) g

theorem groupLaw (k : Calm s t) (law : s.GroupLaw) : t.GroupLaw := by
  obtain ⟨stages, count⟩ := law
  refine ⟨fun c => stageLaw_of_stance (k.stance c) (stages c), fun g => ?_⟩
  have same : t.countedIn g = s.countedIn g := List.filter_congr fun d _ => k.counts d g
  rw [k.active, same]; exact count g

theorem offStage (k : Calm s t) (off : s.OffStage c) : t.OffStage c where
  others d ne := stageLaw_of_stance (k.stance d) (off.others d ne)
  count g := by
    have same : t.countedBut c g = s.countedBut c g := List.countP_congr fun d _ => by rw [k.counts d g]
    rw [k.active, same]; exact off.count g
  stage := (congrArg Crossing.stage (k.stance c)).trans off.stage
  mark := (congrArg Crossing.accessibleMark (k.stance c)).trans off.mark
  change pending := by
    have state : (t.crossing c).state = (s.crossing c).state := (congrArg Crossing.state (k.stance c) :)
    have held : (t.crossing c).pendingChange = (s.crossing c).pendingChange :=
      (congrArg Crossing.pendingChange (k.stance c) :)
    rw [state]; exact off.change (held ▸ pending)

end Calm

/-! ### The acts of the sequence -/

/-- A state of no service has no timer, no green and no stage, and nothing is to follow it (R109, R113). -/
theorem leave_stageLaw {x : Crossing} {st : CrossingState} (out : st.serving = false) (stage : x.stage = none)
    (mark : x.accessibleMark = false) : ({ x.enter st none with pendingChange := none } : Crossing).StageLaw := by
  cases st <;> cases out <;> constructor <;> simp [Crossing.enter, stage, mark, CrossingState.ofStage, CrossingState.timed]

theorem startingUp_stageLaw {x : Crossing} (mark : x.accessibleMark = false) : x.startingUp.StageLaw := by
  constructor <;> simp [Crossing.startingUp, Crossing.enter, mark, CrossingState.ofStage, CrossingState.timed]

theorem enterGreen_stageLaw {x : Crossing} (stage : x.stage = none) (mark : x.accessibleMark = false)
    (change : x.pendingChange = none) : x.enterGreen.StageLaw := by
  constructor <;> simp [Crossing.enterGreen, Crossing.enter, stage, mark, change, CrossingState.ofStage, CrossingState.timed]

/-- The next timed state of the same interval of the sequence (R100, R101). -/
theorem next_stageLaw {x : Crossing} {st : CrossingState} (law : x.StageLaw) (n : Nat) (timed : st.timed = true)
    (same : x.state.ofStage = st.ofStage)
    (running : x.state = .vehAmber → x.closingAmber = false) : (x.enter st (some n)).StageLaw := by
  have notGreen : st ≠ .vehGreen := fun e => by rw [e] at timed; cases timed
  have notClosing : x.closingAmber = false := by
    by_contra closing
    have closing : x.closingAmber = true := by simpa using closing
    exact absurd (running (law.closing closing).1) (by simp [closing])
  have stage := law.stage
  rw [notClosing, same] at stage
  exact ⟨stage, nofun, same ▸ law.change, by simp [Crossing.enter, notGreen], by simp [Crossing.enter, timed], law.accessible⟩

/-- A crossing at vehicle green holds no stage and no pending change. -/
theorem green_holds_nothing {x : Crossing} (law : x.StageLaw) (green : x.state = .vehGreen) :
    x.stage = none ∧ x.accessibleMark = false ∧ x.pendingChange = none ∧ x.closingAmber = false := by
  have stage : x.stage = none := by simpa [green, CrossingState.ofStage] using law.stage
  refine ⟨stage, by simpa [stage] using law.accessible, ?_, ?_⟩
  · by_contra held
    have := law.change (Option.isSome_iff_ne_none.2 held)
    rw [green] at this; cases this
  · by_contra closing
    have := (law.closing (by simpa using closing)).1
    rw [green] at this; cases this

/-- A change set waits for the stage's end; at vehicle green the closing amber begins (R109). -/
theorem setPending_stageLaw {x : Crossing} (law : x.StageLaw) (p : PendingChange)
    (later : x.state = .vehGreen ∨ x.state.ofStage = true) (w : Option WaitReason) (n : Option Time) :
    (if x.state = .vehGreen then ({ x with pendingChange := some p, waiting := w, recallTimer := n } : Crossing).beginClosing
      else { x with pendingChange := some p, waiting := w, recallTimer := n }).StageLaw := by
  split
  · rename_i green
    obtain ⟨stage, mark, -, -⟩ := green_holds_nothing law green
    constructor <;> simp [Crossing.beginClosing, Crossing.enter, stage, mark, CrossingState.ofStage, CrossingState.timed]
  · rename_i other
    have inStage := later.resolve_left other
    exact ⟨law.stage, fun closing => ⟨(law.closing closing).1, rfl⟩, fun _ => inStage, law.green, law.timed, law.accessible⟩

theorem setPending_groupLaw (law : s.GroupLaw) (tg : Target) (cause : Cause)
    (later : (s.crossing c).state = .vehGreen ∨ (s.crossing c).state.ofStage = true) : (s.setPending c tg cause).GroupLaw := by
  cases rank : (s.crossing c).outrankedBy tg with
  | false => simpa [State.setPending, rank] using law
  | true =>
    obtain ⟨w, n, own⟩ := (setPending_pends cause rank).1.held
    have alone := setPending_alone s c tg cause
    refine groupLaw_changed law (fun d ne => (alone.within d ne).1) alone.groups ?_ ?_
    · rw [own]; split <;> rfl
    · rw [own]; exact setPending_stageLaw (law.1 c) _ later w n

/-- An admission gives a crossing at vehicle green its stage (R68, R86). -/
theorem admitCall_stageLaw (law : (s.crossing c).StageLaw) (green : (s.crossing c).state = .vehGreen) (call : CallRecord)
    (r : Record) (a : Admission) : ((s.admitCall c call r a).crossing c).StageLaw := by
  obtain ⟨-, -, change, -⟩ := green_holds_nothing law green
  obtain ⟨stage, state, timeLeft⟩ := admitCall_crossing s c call r a
  have held := admitCall_pendingChange (s := s) c call r a
  have opened : ((s.admitCall c call r a).crossing c).closingAmber = false := by
    simp [State.admitCall, Crossing.admitStage, Crossing.enter]
  have mark : ((s.admitCall c call r a).crossing c).accessibleMark = call.accessible := by
    simp [State.admitCall, newStage]
  constructor <;>
    simp [stage, state, timeLeft, held, change, opened, mark, admitCall_green, newStage, CrossingState.ofStage, CrossingState.timed]

theorem state_of_greenExpired {x : Crossing} (h : x.greenExpired = true) : x.state = .vehGreen := by
  simp only [Crossing.greenExpired, Bool.and_eq_true, decide_eq_true_eq] at h
  exact h.1

theorem admitCall_groupLaw (law : s.GroupLaw) (green : (s.crossing c).greenExpired = true) (call : CallRecord) (r : Record)
    {a : Admission} (uncounted : a.route.counted = none) : (s.admitCall c call r a).GroupLaw := by
  have st := state_of_greenExpired green
  refine groupLaw_changed law (fun d ne => (admitCall_within (p := (· = c)) s call r a rfl d ne).1) (admitCall_groups s c call r a) ?_
    (admitCall_stageLaw (law.1 c) st call r a)
  obtain ⟨none, -⟩ := green_holds_nothing (law.1 c) st
  rw [(admitCall_crossing s c call r a).1, none]
  exact uncounted

theorem started_active (q : Group) (now : Time) (start : GroupStart) : (q.started now start).active = q.active + 1 := by
  cases start <;> rfl

/-- A stage released or joined in a group is one more in its count (R86). -/
theorem admitInGroup_groupLaw (law : s.GroupLaw) (green : (s.crossing c).greenExpired = true) (g : GroupId) (start : GroupStart)
    (call : CallRecord) (r : Record) (x : Bool) :
    ((s.changeGroup g fun q => q.started s.clock.now start).admitCall c call r
      (freeAdmission r x (.group g) (some start))).GroupLaw := by
  have st := state_of_greenExpired green
  obtain ⟨none, -⟩ := green_holds_nothing (law.1 c) st
  let u := s.changeGroup g fun q => q.started s.clock.now start
  let a := freeAdmission r x (.group g) (some start)
  have group (g' : GroupId) : (u.admitCall c call r a).group g' = u.group g' := group_of_eq (admitCall_groups u c call r a) g'
  refine groupLaw_moved law (fun d ne => (admitCall_within (p := (· = c)) u call r a rfl d ne).1)
    (admitCall_stageLaw (s := u) (law.1 c) st call r a) fun g' => ?_
  have before : s.counts c g' = false := by simp [State.counts, none]
  have after : (u.admitCall c call r a).counts c g' = decide (g = g') := by
    rw [State.counts, (admitCall_crossing u c call r a).1]
    simp [newStage, a, freeAdmission, Route.counted]
  rw [before, after, group]
  by_cases e : g = g'
  · subst e; simp [u, started_active]
  · simp [u, changeGroup_other s _ e, e]

theorem upgradedBy_of_fits {k k' : Stage} {r x n : Nat} {barred : Bool} {limit : Option Nat}
    (h : upgradeOutcome k r barred limit = .fits k' x n) :
    k' = k.upgradedBy (clearanceOf k.length k.accessibleSpeed k.margin) x := by
  unfold upgradeOutcome at h; dsimp only at h
  generalize (if k.truncated = true then 0 else k.walkExtra) = offered at h
  split at h
  · cases h
  · split at h
    · cases h; rfl
    · split at h
      · cases h
      · split at h
        · cases h; rfl
        · split at h
          · cases h
          · cases h; rfl

theorem upgradeStage_groupLaw (law : s.GroupLaw) {k k' : Stage} {x r n : Nat} {barred : Bool} {limit : Option Nat} (m : Nat)
    (stage : (s.crossing c).stage = some k) (fits : upgradeOutcome k r barred limit = .fits k' x n) :
    (s.upgradeStage c k' x m).GroupLaw := by
  obtain rfl := upgradedBy_of_fits fits
  obtain ⟨own, -, -, groups⟩ := upgradeStage_spec s c (k.upgradedBy (clearanceOf k.length k.accessibleSpeed k.margin) x) x m
  have stages := law.1 c
  refine groupLaw_changed law (fun d ne => (upgradeStage_within (p := (· = c)) s _ x m rfl d ne).1) groups ?_ ?_
  · rw [own, stage]; rfl
  · rw [own]
    have held := stages.stage
    rw [stage] at held
    refine ⟨held, stages.closing, stages.change, stages.green, ?_, rfl⟩
    rw [← stages.timed]; dsimp only; split
    · exact Option.isSome_map
    · rfl

theorem tick_stageLaw {x : Crossing} (law : x.StageLaw) (inputs : Lamps Bool) : (x.tick inputs).StageLaw :=
  ⟨law.stage, law.closing, law.change, Option.isSome_map.trans law.green, Option.isSome_map.trans law.timed, law.accessible⟩

theorem advance_groupLaw (law : s.GroupLaw) (inputs : ProvingInputs) : (s.advance inputs).GroupLaw := by
  obtain ⟨stages, count⟩ := law
  refine ⟨fun c => by rw [advance_crossing]; exact tick_stageLaw (stages c) _, fun g => (count g).trans ?_⟩
  have same : (s.advance inputs).countedIn g = s.countedIn g :=
    List.filter_congr fun d _ => by rw [advance_crossing]; rfl
  rw [same]

theorem groupLaw_keptInSequence : KeptInSequence State.GroupLaw State.OffStage where
  calm k law := k.groupLaw law
  calmOff k off := k.offStage off
  off law idle := offStage_of_groupLaw law idle
  ended c law := stageEnded_offStage (fun d _ => law.1 d) (fun g => (law.2 g).trans (countedIn_length _ c g)) (law.1 c).change
  endedOff {_ c} off := stageEnded_offStage off.others (fun g => by simp [State.counts, off.stage, off.count g]) off.change
  leave off out := off.entered off.stage (leave_stageLaw out off.stage off.mark)
  startup off := off.entered rfl (startingUp_stageLaw off.mark)
  green {s c} off clear := by
    refine off.entered off.stage (enterGreen_stageLaw off.stage off.mark (clear.elim id fun out => ?_))
    by_contra held
    exact absurd (off.change (Option.isSome_iff_ne_none.2 held)) (by simp [out])
  next n law timed same running := groupLaw_changeCrossing law rfl (next_stageLaw (law.1 _) n timed same running)
  pend tg cause law later := setPending_groupLaw law tg cause later
  withdraw {s c} law opened := groupLaw_changeCrossing law rfl
    ⟨(law.1 c).stage, fun closing => absurd (opened.symm.trans closing) (by simp), nofun, (law.1 c).green, (law.1 c).timed,
      (law.1 c).accessible⟩
  admission call r _ law green uncounted := admitCall_groupLaw law green call r uncounted
  admitInGroup g start call r x law green := admitInGroup_groupLaw law green g start call r x
  upgrade n law stage fits := upgradeStage_groupLaw law n stage fits
  halfChange c law := groupLaw_changeCrossing law rfl
    ⟨(law.1 c).stage, (law.1 c).closing, (law.1 c).change, (law.1 c).green, (law.1 c).timed, (law.1 c).accessible⟩
  advance inputs law := advance_groupLaw law inputs

/-! ### The law after a reset and at a start-up -/

/-- No stage and no count: the law is the crossings' own. -/
theorem groupLaw_of_idle (stages : ∀ c, (s.crossing c).StageLaw ∧ (s.crossing c).stage = none)
    (groups : ∀ g, (s.group g).active = 0) : s.GroupLaw :=
  ⟨fun c => (stages c).1, fun g => by simp [groups g, State.countedIn, fun c => (stages c).2]⟩

theorem startUp_stageLaw (f : Option InForce) : (Crossing.startUp f).StageLaw ∧ (Crossing.startUp f).stage = none := by
  cases f with
  | none => exact ⟨initial_stageLaw, rfl⟩
  | some f => exact ⟨by constructor <;> simp [Crossing.startUp, Crossing.initial, CrossingState.ofStage, CrossingState.timed], rfl⟩

theorem AfterReset.groupLaw {k : Counters} {f : Vector FilterEntry 16} (h : AfterReset s t k f) : t.GroupLaw :=
  groupLaw_of_idle (fun c => by rw [h.crossings c]; exact ⟨initial_stageLaw, rfl⟩) fun g => by rw [h.groups g]; rfl

theorem startUnder_groupLaw (s : State) (sel : Selection) (d : Header) : (s.startUnder sel d).GroupLaw := by
  refine groupLaw_of_idle (fun c => ?_) fun g => ?_
  · have e : (s.startUnder sel d).crossing c = .startUp (s.store.effective sel c) := rewrite_get _ _ _
    rw [e]; exact startUp_stageLaw _
  · have e : (s.startUnder sel d).group g = .startUp (d.groups[g]) := rewrite_get _ _ _
    rw [e]; rfl

/-- Settles O56. -/
theorem everyStepKeepsTheGroupCounts : Obligations.EveryStepKeepsTheGroupCounts := by
  unfold Obligations.EveryStepKeepsTheGroupCounts
  exact fun _ _ law e => groupLaw_keptInSequence.step AfterReset.groupLaw startUnder_groupLaw law e

end Sys2Proof.Machine
end

section
/-!
GREEN_TIMER_EXPIRY on the DIRECT route (O35).
-/

namespace Sys2Proof.Machine

variable {s : State} {c : CrossingId} {call : CallRecord} {r : Record}

/-- Two changes of one crossing are one change. -/
theorem changeCrossing_changeCrossing (s : State) (c : CrossingId) (f g : Crossing → Crossing) :
    (s.changeCrossing c f).changeCrossing c g = s.changeCrossing c fun x => g (f x) := by
  simp [State.changeCrossing, change]

/-- No call is nothing to evaluate (R81). -/
theorem evaluate_free (free : s.callOf c = none) : s.evaluate c = s := by simp only [State.evaluate, free]

/-- A call whose not-before is still to come waits with that reason, whatever its route (R82). -/
theorem evaluate_notBefore (found : s.callOf c = some call) (record : (s.crossing c).record = some r)
    (later : call.notBefore.isSome = true) : s.evaluate c = s.await c (routeOf s.clock.mode r) .notBefore := by
  simp only [State.evaluate, found, record, ineligible, later, if_true]

/-- The call of a crossing whose green timer runs out in VEH_GREEN may be served. -/
theorem greenOut_served (green : (s.crossing c).state = .vehGreen) (clear : s.clock.hold = false)
    (record : (s.crossing c).record = some r) (found : s.callOf c = some call) (nb : call.notBefore = none) :
    MayBeServed (s.greenOut c) c call r :=
  mayBeServed (s := s.greenOut c) found (by rw [greenOut_crossing]; exact record) nb
    (by rw [greenOut_crossing]; simp [Crossing.greenExpired, green]) clear

/-- Settles O35, by the call: none, one that may not be served yet, and one that starts its stage. -/
theorem greenTimerExpiryAdmitsDirectly : Obligations.GreenTimerExpiryAdmitsDirectly := by
  unfold Obligations.GreenTimerExpiryAdmitsDirectly
  intro s c r due expiring green clear record route
  have e := exec_greenExpiry due expiring
  have record' : ((s.greenOut c).crossing c).record = some r := by rw [greenOut_crossing]; exact record
  refine ⟨fun free => ?_, fun call found later => ?_, fun call found nb => ?_⟩
  · rw [e, evaluate_free (s := s.greenOut c) free]; rfl
  · have waits : (s.greenOut c).evaluate c = (s.greenOut c).await c .direct .notBefore := by
      rw [evaluate_notBefore (s := s.greenOut c) found record' later]
      exact congrArg (State.await _ c · .notBefore) route
    rw [e, waits]
    exact congrArg (fun u => Host.Outcome.next (State.transmit u)) (changeCrossing_changeCrossing _ c _ _)
  · let a : Admission := { route := .direct, start := none, walk := r.desiredWalk call.accessible, cut := none }
    have starts : (s.greenOut c).StartsAs c call.accessible r a := .inl ⟨route, rfl⟩
    have admits := evaluate_starts (greenOut_served green clear record found nb) starts
    rw [show (s.greenOut c).beginning a = s.greenOut c from rfl] at admits
    rw [admits] at e
    obtain ⟨stage, state, left⟩ := admitCall_crossing (s.greenOut c) c call r a
    have alone : AloneAt c s ((s.greenOut c).admitCall c call r a) :=
      ⟨.after (admitCall_within (s.greenOut c) call r a rfl) (changeCrossing_within (s.without (.greenExpiry c)) _ rfl),
        admitCall_groups (s.greenOut c) c call r a⟩
    obtain ⟨corridor, kerb, port, _⟩ := Undisturbed.ofDue (d := .greenExpiry c) (.after (admitCall_steady (s.greenOut c) c call r a)
      (changeCrossing_steady (s.without (.greenExpiry c)) c fun _ => rfl))
    refine ⟨_, e, state, left, admitCall_green (s.greenOut c) c call r a, stage, admitCall_callOf (s.greenOut c) c call r a,
      ?_, alone.within, alone.groups, corridor, kerb, port⟩
    exact congrArg CrossingCounters.stages (admitCall_counters (s.greenOut c) c call r a)

end Sys2Proof.Machine
end

section
/-!
INTERVAL_END of TRAIL_RED: the end of a stage (O40).
-/

namespace Sys2Proof.Machine

variable {s t w : State} {c : CrossingId} {g : GroupId} {k : Stage} {r : Record} {tg : Target}

theorem exec_trailRedEnd (due : s.IsDue (.intervalEnd c)) (run : (s.crossing c).timeLeft = some 0)
    (state : (s.crossing c).state = .trailRed) (stage : (s.crossing c).stage = some k) :
    exec (.intervalEnd c) s = .next ((s.without (.intervalEnd c)).endStage c k).transmit := by
  have ends : (s.without (.intervalEnd c)).endInterval c = (s.without (.intervalEnd c)).endStage c k := by
    simp only [State.endInterval, without_crossing, run, state, stage, if_true]
  rw [exec_intervalEnd due, ends]

/-! ### The stage ended, before the next state is entered (R107) -/

/-- The state as a stage has ended: its context discarded, its group's count lowered, the recall timer started and STAGE_END
sent. -/
def State.stageClosed (s : State) (c : CrossingId) (k : Stage) : State :=
  let u := (s.discardStage c).uncount k.group
  (u.changeCrossing c fun x => x.startRecall u.clock.now).raise
    (.stageEnd c k.walk k.clearance k.upgraded (saturate (k.elapsed u.clock.now)))

/-- The state that follows a stage: VEH_GREEN, or the target of the change pending. -/
def State.afterStage (s : State) (c : CrossingId) : State :=
  match (s.crossing c).pendingChange with
  | none => s.enterGreen c
  | some p => s.enterTarget c p.target p.cause

theorem endStage_eq (s : State) (c : CrossingId) (k : Stage) :
    s.endStage c k = ((s.stageClosed c k).afterStage c).evaluateAfterEnd k.group := rfl

/-- A crossing with its stage gone. -/
def Crossing.unstaged (x : Crossing) : Crossing := { x with stage := none, accessibleMark := false }

theorem discardStage_clock (s : State) (c : CrossingId) : (s.discardStage c).clock = s.clock := (discardStage_steady s c).clock

theorem discardStage_calls (s : State) (c : CrossingId) : (s.discardStage c).calls = s.calls := by
  unfold State.discardStage State.markAccessible; split <;> rfl

theorem stageClosed_crossing (s : State) (c : CrossingId) (k : Stage) :
    (s.stageClosed c k).crossing c = (s.crossing c).unstaged.startRecall s.clock.now := by
  obtain ⟨crossings, _, _, clock⟩ := uncount_keeps (s.discardStage c) k.group
  refine (changeCrossing_crossing _ c _).trans ?_
  rw [clock, discardStage_clock, crossing_of_eq crossings, discardStage_crossing]; rfl

theorem stageClosed_calls (s : State) (c : CrossingId) (k : Stage) : (s.stageClosed c k).calls = s.calls :=
  (uncount_keeps (s.discardStage c) k.group).2.1.trans (discardStage_calls s c)

theorem stageClosed_others (s : State) (c : CrossingId) (ne : k.group ≠ some g) : (s.stageClosed c k).group g = s.group g :=
  (uncount_others (s.discardStage c) ne).trans (group_of_eq (discardStage_groups s c) g)

/-- The group that counted the stage has one less (R90). -/
theorem stageClosed_group (s : State) (c : CrossingId) (counted : k.group = some g) :
    (s.stageClosed c k).group g = (s.group g).ended s.clock.now := by
  have left : (s.stageClosed c k).group g = ((s.discardStage c).changeGroup g fun q => q.ended (s.discardStage c).clock.now).group g := by
    unfold State.stageClosed; rw [counted]; rfl
  rw [left, changeGroup_group, discardStage_clock, group_of_eq (discardStage_groups s c)]

/-! ### The group's evaluation after the end (R90) -/

theorem evaluateAfterEnd_noCalls (o : Option GroupId) (empty : s.calls = []) : s.evaluateAfterEnd o = s := by
  cases o with
  | none => rfl
  | some g => simp only [State.evaluateAfterEnd, State.evaluateGroup, empty, List.map_nil, List.foldl_nil]

/-- What the end of a stage leaves of the groups, the group that counted it having one less where no call is left to take its
place. -/
structure GroupsEnded (s t : State) (k : Stage) (empty : Prop) : Prop where
  others : ∀ g, k.group ≠ some g → t.group g = s.group g
  counted : ∀ g, k.group = some g → empty → t.group g = (s.group g).ended s.clock.now

/-- Where the next state is entered by work on the crossing alone that leaves no call ready there, the evaluation of the group
changes no more of the crossing but its waiting. -/
theorem endStage_spec (enters : (s.stageClosed c k).afterStage c = w) (alone : AloneAt c (s.stageClosed c k) w)
    (green : (w.crossing c).greenExpired = false) :
    Waits c w (s.endStage c k) ∧ GroupsEnded s (s.endStage c k) k (w.calls = []) := by
  rw [endStage_eq, enters]
  refine ⟨(evaluateAfterEnd_evaluated w k.group).waits c (.inl green), fun g ne => ?_, fun g counted empty => ?_⟩
  · rw [evaluateAfterEnd_others w ne, group_of_eq alone.groups, stageClosed_others s c ne]
  · rw [evaluateAfterEnd_noCalls k.group empty, group_of_eq alone.groups, stageClosed_group s c counted]

/-! ### VEH_GREEN entered (R101) -/

/-- VEH_GREEN entered with its green timer begun, and fail recall tested: the crossing alone, and no call of its own. -/
theorem enterGreen_spec (record : (s.crossing c).record = some r) :
    AloneAt c s (s.enterGreen c) ∧
      (∃ route x, (s.enterGreen c).crossing c = { (s.crossing c).enter .vehGreen none with
        green := some { left := r.minGreen, expired := false }, route := route, waiting := x }) ∧
      (s.calls = [] → (s.crossing c).failRecall = false → (s.enterGreen c).calls = []) := by
  have own : (s.changeCrossing c Crossing.enterGreen).crossing c =
      { (s.crossing c).enter .vehGreen none with green := some { left := r.minGreen, expired := false } } := by
    rw [changeCrossing_crossing]; unfold Crossing.enterGreen; rw [record]
  obtain ⟨alone, route, x, crossing⟩ := testFailRecall_barred (s := s.changeCrossing c Crossing.enterGreen) (c := c) (by rw [own]; rfl)
  rw [own] at crossing
  refine ⟨alone.after (changeCrossing_alone s c _), ⟨route, x, crossing⟩, fun empty flag => ?_⟩
  exact (congrArg State.calls (testFailRecall_clear (by rw [own]; exact flag))).trans empty

/-- The recall timer of a crossing in service starts as its stage ends (R118). -/
theorem stageClosed_serving (k : Stage) (record : (s.crossing c).record = some r) (service : (s.crossing c).inService = true) :
    (s.stageClosed c k).crossing c = { (s.crossing c).unstaged with
      recallTimer := if 0 < r.recallInterval then some (s.clock.now + BitVec.ofNat 32 r.recallInterval)
        else (s.crossing c).recallTimer } := by
  rw [stageClosed_crossing, startRecall_spec (r := r) (s.crossing c).unstaged s.clock.now record service]; rfl

/-- A stage ended with no change pending. -/
theorem endStage_green (k : Stage) (record : (s.crossing c).record = some r) (state : (s.crossing c).state = .trailRed)
    (change : (s.crossing c).pendingChange = none) :
    (∃ route x, (s.endStage c k).crossing c = { (s.crossing c).unstaged.enter .vehGreen none with
        green := some { left := r.minGreen, expired := false }
        recallTimer := if 0 < r.recallInterval then some (s.clock.now + BitVec.ofNat 32 r.recallInterval)
          else (s.crossing c).recallTimer
        route := route, waiting := x }) ∧
      GroupsEnded s (s.endStage c k) k (s.calls = [] ∧ (s.crossing c).failRecall = false) := by
  have closed := stageClosed_serving k record (by simp [Crossing.inService, state, change, CrossingState.serving])
  have enters : (s.stageClosed c k).afterStage c = (s.stageClosed c k).enterGreen c := by
    have clear : ((s.stageClosed c k).crossing c).pendingChange = none := by rw [closed]; exact change
    simp only [State.afterStage, clear]
  obtain ⟨alone, ⟨route, x, own⟩, noCalls⟩ := enterGreen_spec (s := s.stageClosed c k) (c := c) (r := r) (by rw [closed]; exact record)
  obtain ⟨waits, groups⟩ := endStage_spec enters alone (by rw [own]; simp [Crossing.greenExpired])
  refine ⟨⟨_, _, waits.crossing_eq.trans (by rw [own, closed]; rfl)⟩, groups.others, fun g counted ⟨empty, flag⟩ => ?_⟩
  exact groups.counted g counted (noCalls ((stageClosed_calls s c k).trans empty) (by rw [closed]; exact flag))

/-! ### The target of a pending change entered (R103, R110, R114) -/

/-- From `x` to `y` a crossing with a change pending and no stage has entered the change's target, and left UNCONFIGURED
for STARTUP_FLASH where it has a record. -/
structure TargetEntered (x y : Crossing) (tg : Target) : Prop where
  started : tg = .unconfigured ∧ x.inForce.isSome = true → y.state = .startupFlash ∧ y.timeLeft = some 50
  reached : ¬ (tg = .unconfigured ∧ x.inForce.isSome = true) → y.state = tg.state ∧ y.timeLeft = none
  stage : y.stage = none
  change : y.pendingChange = none
  green : y.green = none
  mark : y.accessibleMark = false
  faults : y.faults = x.faults
  timer : y.recallTimer = if tg = .faultFlash then none else x.recallTimer

theorem TargetEntered.greenExpired {x y : Crossing} (h : TargetEntered x y tg) : y.greenExpired = false := by
  simp [Crossing.greenExpired, h.green]

theorem loseService_noCalls (empty : s.calls = []) : (s.loseService c).calls = [] := by
  unfold State.loseService State.removeCall
  rw [State.callOf, empty]; exact empty

theorem enterUnconfigured_noCalls (cause : Cause) (out : (s.crossing c).inService = false)
    (flag : (s.crossing c).failRecall = false) (empty : s.calls = []) : (s.enterUnconfigured c cause).calls = [] := by
  let u := s.enterUntimed c .unconfigured cause
  have own : u.crossing c = _ := enterUntimed_out_crossing (st := .unconfigured) cause out
  have still : u.calls = [] := (congrArg State.calls (enterUntimed_out (st := .unconfigured) cause out)).trans empty
  unfold State.enterUnconfigured; dsimp only; split
  · refine (congrArg State.calls (testFailRecall_clear ?_)).trans still
    refine (congrArg Crossing.failRecall (changeCrossing_crossing u c _)).trans ?_
    rw [own]; exact flag
  · exact still

/-- What the entry to a target leaves: the crossing alone changed, FAULT_FLASH without a call, and no call placed where fail
recall places none. -/
structure EntersTarget (s t : State) (c : CrossingId) (tg : Target) : Prop where
  alone : AloneAt c s t
  entered : TargetEntered (s.crossing c) (t.crossing c) tg
  gone : tg = .faultFlash → t.callOf c = none
  noCalls : s.calls = [] → (s.crossing c).failRecall = false → t.calls = []

section Entry

variable (cause : Cause) (out : (s.crossing c).inService = false) (stage : (s.crossing c).stage = none)
  (mark : (s.crossing c).accessibleMark = false)
include out stage mark

theorem enterUntimed_entersTarget (plain : tg = .cmdFlash ∨ tg = .dark) :
    EntersTarget s (s.enterUntimed c tg.state cause) c tg := by
  have other : tg ≠ .unconfigured ∧ tg ≠ .faultFlash := by rcases plain with rfl | rfl <;> exact ⟨nofun, nofun⟩
  refine ⟨enterUntimed_alone s c _ cause, ?_, fun h => absurd h other.2, fun empty _ => ?_⟩
  · rw [enterUntimed_out_crossing cause out]
    exact ⟨fun h => absurd h.1 other.1, fun _ => ⟨rfl, rfl⟩, stage, rfl, rfl, mark, rfl, (if_neg other.2).symm⟩
  · rw [enterUntimed_out cause out]; exact empty

theorem enterUnconfigured_entersTarget : EntersTarget s (s.enterUnconfigured c cause) c .unconfigured := by
  obtain ⟨alone, route, x, own⟩ := enterUnconfigured_spec cause out
  refine ⟨alone, ?_, nofun, fun empty flag => enterUnconfigured_noCalls cause out flag empty⟩
  rw [own]
  split
  · rename_i record
    exact ⟨fun _ => ⟨rfl, rfl⟩, fun h => absurd ⟨rfl, record⟩ h, rfl, rfl, rfl, mark, rfl, rfl⟩
  · rename_i record
    exact ⟨fun h => absurd h.2 record, fun _ => ⟨rfl, rfl⟩, stage, rfl, rfl, mark, rfl, rfl⟩

omit out mark in
theorem enterFaultFlash_entersTarget : EntersTarget s (s.enterFaultFlash c cause) c .faultFlash := by
  obtain ⟨⟨route, x, own⟩, gone, _⟩ := enterFaultFlash_spec s c cause
  refine ⟨enterFaultFlash_alone cause stage, ?_, fun _ => gone, fun empty _ => ?_⟩
  · rw [own]
    exact ⟨nofun, fun _ => ⟨rfl, rfl⟩, rfl, rfl, rfl, rfl, rfl, rfl⟩
  · obtain ⟨_, calls, _⟩ := uncount_keeps (s.discardStage c) ((s.crossing c).stage.bind (·.group))
    have faulted : (s.faulted c cause).calls = [] :=
      loseService_noCalls (calls.trans ((discardStage_calls s c).trans empty))
    rw [enterFaultFlash_eq, evaluateAfterEnd_noCalls _ faulted]; exact faulted

theorem enterTarget_entersTarget (tg : Target) : EntersTarget s (s.enterTarget c tg cause) c tg := by
  cases tg with
  | cmdFlash => exact enterUntimed_entersTarget cause out stage mark (.inl rfl)
  | dark => exact enterUntimed_entersTarget cause out stage mark (.inr rfl)
  | unconfigured => exact enterUnconfigured_entersTarget cause out stage mark
  | faultFlash => exact enterFaultFlash_entersTarget cause stage

end Entry

/-- A crossing with a change pending starts no recall timer (R118). -/
theorem startRecall_out {x : Crossing} (now : Time) (out : x.inService = false) : x.startRecall now = x := by
  unfold Crossing.startRecall
  split
  · exact if_neg (by simp [out])
  · rfl

/-- A stage ended with a change pending. -/
theorem endStage_target {p : PendingChange} (k : Stage) (change : (s.crossing c).pendingChange = some p) :
    TargetEntered (s.crossing c) ((s.endStage c k).crossing c) p.target ∧
      (p.target = .faultFlash → (s.endStage c k).callOf c = none) ∧
      GroupsEnded s (s.endStage c k) k (s.calls = [] ∧ (s.crossing c).failRecall = false) := by
  have out : (s.crossing c).unstaged.inService = false := inService_of_change (p := p) change
  have closed : (s.stageClosed c k).crossing c = (s.crossing c).unstaged :=
    (stageClosed_crossing s c k).trans (startRecall_out s.clock.now out)
  have enters : (s.stageClosed c k).afterStage c = (s.stageClosed c k).enterTarget c p.target p.cause := by
    have held : ((s.stageClosed c k).crossing c).pendingChange = some p := by rw [closed]; exact change
    simp only [State.afterStage, held]
  obtain ⟨alone, entered, gone, noCalls⟩ := enterTarget_entersTarget (s := s.stageClosed c k) (c := c) p.cause
    (by rw [closed]; exact out) (by rw [closed]; rfl) (by rw [closed]; rfl) p.target
  obtain ⟨waits, groups⟩ := endStage_spec enters alone entered.greenExpired
  rw [closed] at entered noCalls
  refine ⟨?_, fun flash => waits.call.trans (gone flash), groups.others, fun g counted ⟨empty, flag⟩ => ?_⟩
  · rw [waits.crossing_eq]
    exact ⟨entered.started, entered.reached, entered.stage, entered.change, entered.green, entered.mark, entered.faults,
      entered.timer⟩
  · exact groups.counted g counted (noCalls ((stageClosed_calls s c k).trans empty) flag)

/-- Settles O40: VEH_GREEN or the pending change's target, each entered after the stage has ended. -/
theorem trailRedEndEndsTheStage : Obligations.TrailRedEndEndsTheStage := by
  unfold Obligations.TrailRedEndEndsTheStage
  refine ⟨fun s c k r due run state stage change record => ?_, fun s c k p due run state stage change => ?_⟩
  · obtain ⟨corridor, kerb, port, agenda⟩ := Undisturbed.ofDue (endStage_steady (s.without (.intervalEnd c)) c k)
    obtain ⟨⟨route, x, crossing⟩, groups⟩ := endStage_green (s := s.without (.intervalEnd c)) k record state change
    refine ⟨_, exec_trailRedEnd due run state stage, ?_⟩
    rw [transmit_crossing, crossing]
    exact ⟨rfl, rfl, rfl, rfl, rfl, rfl, fun g ne _ => groups.others g ne,
      fun g counted empty flag => groups.counted g counted ⟨empty, flag⟩, corridor, kerb, port, agenda⟩
  · obtain ⟨corridor, kerb, port, agenda⟩ := Undisturbed.ofDue (endStage_steady (s.without (.intervalEnd c)) c k)
    obtain ⟨entered, gone, groups⟩ := endStage_target (s := s.without (.intervalEnd c)) k change
    exact ⟨_, exec_trailRedEnd due run state stage, entered.started, entered.reached, entered.stage, entered.change,
      entered.green, entered.mark, entered.faults, entered.timer, gone, fun g ne _ => groups.others g ne,
      fun g counted empty flag => groups.counted g counted ⟨empty, flag⟩, corridor, kerb, port, agenda⟩

end Sys2Proof.Machine
end

section
/-!
The outputs at a state entry (O38): the flash phase and each output of the port entered, and the modes of section 6.2.
-/

namespace Sys2Proof.Machine

variable {p : SignalPort} {st : CrossingState}

/-- Some output flashes exactly where the port's list of five shows one. -/
theorem anyFlashing_iff {l : Lamps OutputLine} : anyFlashing l = true ↔ ∃ o, (lampAt l o).mode = .flashing := by
  simp [anyFlashing]

/-- The flash phase of a port entered, by the modes before and after (R122). -/
theorem portEnter_flash (p : SignalPort) (st : CrossingState) : (p.enter st).flash =
    flashAtEntry (anyFlashing p.lines) (allLamps.any fun o => decide (commandedMode st o = .flashing)) p.flash := rfl

/-- With no output commanded to flash the phase is idle. -/
theorem portEnter_flash_idle (none : ∀ o, commandedMode st o ≠ .flashing) : (p.enter st).flash = .idle := by
  rw [portEnter_flash, show (allLamps.any fun o => decide (commandedMode st o = .flashing)) = false by simp [none]]
  rfl

/-- Where an output is commanded to flash the phase runs on, or begins at its ON half. -/
theorem portEnter_flash_runs {o : Lamp} (flashes : commandedMode st o = .flashing) :
    (p.enter st).flash = if anyFlashing p.lines = true then p.flash else .on 0 := by
  have now : (allLamps.any fun o => decide (commandedMode st o = .flashing)) = true := by simpa using ⟨o, flashes⟩
  rw [portEnter_flash, now]; rfl

/-- An output of a port entered is the output entered (R121, R123). -/
theorem portEnter_lampAt (p : SignalPort) (st : CrossingState) (o : Lamp) :
    lampAt (p.enter st).lines o = (lampAt p.lines o).enter (commandedMode st o) (p.enter st).flash :=
  lampAt_rewriteLamps _ _ _

/-- The commanded value of a mode, as a condition on the mode and the phase (R121). -/
theorem valueOf_eq (m : OutputMode) (f : FlashPhase) :
    valueOf m f = ((m == .on) || (m == .flashing && (match f with | .on _ => true | _ => false))) := by
  cases m <;> cases f <;> rfl

/-- The outputs that the states of section 6.2 switch on or flash; every other one is off (R121). -/
theorem commandedMode_eq (st : CrossingState) (o : Lamp) : commandedMode st o =
    if (st = .startupFlash ∨ st = .cmdFlash ∨ st = .faultFlash) ∧ o = .amber then .flashing
    else if st = .clearance ∧ o = .dontWalk then .flashing
    else if (st = .vehGreen ∧ (o = .green ∨ o = .dontWalk)) ∨ (st = .vehAmber ∧ (o = .amber ∨ o = .dontWalk)) ∨
        ((st = .startupRed ∨ st = .leadRed ∨ st = .trailRed) ∧ (o = .red ∨ o = .dontWalk)) ∨
        (st = .walk ∧ (o = .red ∨ o = .walk)) ∨ (st = .clearance ∧ o = .red) then .on
    else .off := by
  cases st <;> cases o <;> decide

/-- Settles O38, output by output and by the modes before and after. -/
theorem entryCommandsTheOutputsOfTheState : Obligations.EntryCommandsTheOutputsOfTheState := by
  unfold Obligations.EntryCommandsTheOutputsOfTheState
  refine ⟨fun x st left => ?_, commandedMode_eq⟩
  refine ⟨rfl, fun o => (portEnter_line x.port st o).1, fun o same => ?_, fun o changed => ?_, portEnter_flash_idle,
    fun o flashes none => ?_, fun o o' flashes before => ?_, rfl, rfl⟩
  · exact (portEnter_lampAt x.port st o).trans (if_pos same)
  · refine ((portEnter_lampAt x.port st o).trans (if_neg changed)).trans ?_
    rw [valueOf_eq]; rfl
  · refine (portEnter_flash_runs flashes).trans (if_neg fun any => ?_)
    obtain ⟨o', before⟩ := anyFlashing_iff.1 any
    exact none o' before
  · exact (portEnter_flash_runs flashes).trans (if_pos (anyFlashing_iff.2 ⟨o', before⟩))

end Sys2Proof.Machine
end

section
/-!
What proving announces at a decisecond event (O44): the judgement of one output, the faults found at a crossing, and their
places on the agenda.
-/

namespace Sys2Proof.Machine

variable {s t : State} {c : CrossingId} {x : Crossing} {lamp : Lamp} {l : OutputLine} {v : Bool} {cls : FaultClass}

/-! ### The judgement of one output (R125, R126) -/

/-- The sense of a mismatch against the commanded value (R124). -/
def OutputLine.against (l : OutputLine) : Sense := if l.value then .offWhenOn else .onWhenOff

/-- A judged sample mismatches in the sense the timer already counts. -/
def OutputLine.CountsOn (l : OutputLine) (v : Bool) : Prop := l.settling = false ∧ v ≠ l.value ∧ l.sense = some l.against

/-- A judged mismatch counts on in the timer's own sense, and starts at 1 in the other (R125). -/
theorem judge_mismatched (judged : l.settling = false) (differs : v ≠ l.value) :
    (l.judge v).sense = some l.against ∧ (l.judge v).mismatch =
      if l.mismatch = 0 ∨ l.sense = some l.against then min (l.mismatch + 1) 5 else 1 := by
  rw [OutputLine.judge, judged, OutputLine.count, if_neg differs, ← OutputLine.against]
  simp only [Bool.false_eq_true, if_false]
  split <;> exact ⟨rfl, rfl⟩

/-- The judged mismatch comes to 5 from 4, in the sense counted. -/
theorem judge_reaches_limit (bound : l.mismatch ≤ 5) (judged : l.settling = false) (differs : v ≠ l.value) :
    (l.judge v).mismatch = 5 ∧ ¬ (l.mismatch = 5 ∧ l.sense = (l.judge v).sense) ↔ l.sense = some l.against ∧ l.mismatch = 4 := by
  obtain ⟨sense, counts⟩ := judge_mismatched judged differs
  rw [counts, sense]
  by_cases same : l.sense = some l.against
  · rw [if_pos (.inr same)]
    simp only [same, and_true, true_and]; omega
  · simp only [same, or_false, false_and, and_false, not_false_iff, and_true, iff_false]
    split <;> omega

/-- A timer raises its class as it comes from 4 to 5, and not at 5 again (R125, R126). -/
theorem raised_iff (bound : l.mismatch ≤ 5) :
    l.raised lamp v = some cls ↔ l.CountsOn v ∧ cls = faultClass lamp l.against l.mode ∧ l.mismatch = 4 := by
  have unfolded : l.raised lamp v = some cls ↔ l.settling = false ∧ v ≠ l.value ∧ ((l.judge v).mismatch = 5 ∧
      ¬ (l.mismatch = 5 ∧ l.sense = (l.judge v).sense)) ∧ ∃ sense, (l.judge v).sense = some sense ∧
        faultClass lamp sense l.mode = cls := by
    simp [OutputLine.raised, and_assoc, imp_iff_not_or]
  rw [unfolded, OutputLine.CountsOn]
  constructor
  · rintro ⟨judged, differs, limit, sense, counted, own⟩
    obtain ⟨held, four⟩ := (judge_reaches_limit bound judged differs).1 limit
    obtain rfl := Option.some.inj ((judge_mismatched judged differs).1.symm.trans counted)
    exact ⟨⟨judged, differs, held⟩, own.symm, four⟩
  · rintro ⟨⟨judged, differs, held⟩, own, four⟩
    exact ⟨judged, differs, (judge_reaches_limit bound judged differs).2 ⟨held, four⟩, _,
      (judge_mismatched judged differs).1, own.symm⟩

/-- A timer at 5 stands where the sample mismatches in its sense still. -/
theorem standing_iff :
    l.standing lamp v = some cls ↔ l.CountsOn v ∧ cls = faultClass lamp l.against l.mode ∧ l.mismatch = 5 := by
  have unfolded : l.standing lamp v = some cls ↔ l.settling = false ∧ v ≠ l.value ∧ l.mismatch = 5 ∧
      l.sense = some l.against ∧ faultClass lamp l.against l.mode = cls := by
    simp [OutputLine.standing, OutputLine.against, and_assoc]
  rw [unfolded]
  exact ⟨fun ⟨judged, differs, five, held, own⟩ => ⟨⟨judged, differs, held⟩, own.symm, five⟩,
    fun ⟨⟨judged, differs, held⟩, own, five⟩ => ⟨judged, differs, five, held, own.symm⟩⟩

/-! ### The faults found at a crossing (R117, R126, R127, R132) -/

theorem startingUp_iff {st : CrossingState} : st.startingUp = true ↔ st = .startupFlash ∨ st = .startupRed := by
  cases st <;> decide

/-- An output's fault is found as its timer comes to 5, but for a WALK_FAIL raised before, and in the start-up at 5 where its
class is not in the set. -/
theorem mismatchFound_iff (bound : (lampAt x.port.lines lamp).mismatch ≤ 5) :
    x.mismatchFound lamp v = some cls ↔ (lampAt x.port.lines lamp).CountsOn v ∧
      cls = faultClass lamp (lampAt x.port.lines lamp).against (lampAt x.port.lines lamp).mode ∧
      (((lampAt x.port.lines lamp).mismatch = 4 ∧ (cls = .walkFail → x.port.walkFailed = false)) ∨
        ((lampAt x.port.lines lamp).mismatch = 5 ∧ x.state.startingUp = true ∧ x.faults.has cls = false)) := by
  constructor
  · intro found
    obtain raised | ⟨starting, standing, new⟩ := mismatchFound_cases x lamp v cls found
    · obtain ⟨raised, once⟩ := (portRaised_eq _ _ _ _).1 raised
      obtain ⟨counts, own, four⟩ := (raised_iff bound).1 raised
      exact ⟨counts, own, .inl ⟨four, once⟩⟩
    · obtain ⟨counts, own, five⟩ := standing_iff.1 standing
      exact ⟨counts, own, .inr ⟨five, starting, new⟩⟩
  · rintro ⟨counts, own, ⟨four, once⟩ | ⟨five, starting, new⟩⟩
    · have raised : x.port.raised lamp v = some cls :=
        (portRaised_eq _ _ _ _).2 ⟨(raised_iff bound).2 ⟨counts, own, four⟩, once⟩
      simp only [Crossing.mismatchFound, raised]
    · have quiet : x.port.raised lamp v = none := Option.eq_none_iff_forall_ne_some.2 fun cls' raised => by
        obtain ⟨_, _, four⟩ := (raised_iff bound).1 ((portRaised_eq _ _ _ _).1 raised).1
        omega
      have standing := standing_iff.2 ⟨counts, own, five⟩
      simp [Crossing.mismatchFound, quiet, Crossing.detectsAgain, starting, standing, new]

/-- A conflict is found at its second decisecond, and in the start-up at a timer at 2 where CONFLICT is not in the set. -/
theorem conflictFound_iff {inputs : Lamps Bool} (bound : x.port.conflict ≤ 2) :
    x.conflictFound inputs = true ↔ inputs.walk = true ∧ (inputs.green = true ∨ inputs.amber = true) ∧
      (x.port.conflict = 1 ∨ (x.port.conflict = 2 ∧ x.state.startingUp = true ∧ x.faults.conflict = false)) := by
  have two : 2 ≤ x.port.conflict ↔ x.port.conflict = 2 := by omega
  simp [Crossing.conflictFound, conflictSeen, FaultSet.has, two, and_assoc]

/-- A mismatch of class WALK_FAIL is of a walk commanded on, dark against its command. -/
theorem faultClass_walk_iff {sense : Sense} {m : OutputMode} : faultClass .walk sense m = .walkFail ↔ sense = .offWhenOn := by
  cases sense <;> simp [faultClass]

/-- In the start-up walk is off, and no WALK_FAIL is found that its timer does not raise. -/
theorem walkFail_raised_iff (law : x.OutputsLaw) :
    x.port.raised .walk v = some .walkFail ↔ x.mismatchFound .walk v = some .walkFail := by
  refine ⟨fun raised => by simp only [Crossing.mismatchFound, raised], fun found => ?_⟩
  obtain raised | ⟨starting, standing, _⟩ := mismatchFound_cases x .walk v .walkFail found
  · exact raised
  · obtain ⟨lines, _⟩ := law
    have off : (lampAt x.port.lines .walk).value = false := by
      rw [(lines .walk).2.1]
      rcases startingUp_iff.1 starting with e | e <;> rw [e] <;> rfl
    obtain ⟨_, own, _⟩ := standing_iff.1 standing
    have on := faultClass_walk_iff.1 own.symm
    rw [OutputLine.against, off] at on
    cases on

/-! ### The agenda -/

/-- A decisecond event with nothing left over leaves the crossings ticked and the announced events due. -/
theorem decisecond_leaves {inputs : ProvingInputs} (run : s.running = true) (empty : s.due = [])
    (e : exec (.decisecondEvent inputs) s = .next t) :
    (t.crossing c).port = (s.crossing c).port.tick inputs[c] ∧ t.due = announced s (s.advance inputs) inputs := by
  obtain rfl := Host.Outcome.next.inj ((exec_decisecond run empty inputs).symm.trans e)
  have crossing : (s.ticking inputs).grantSamples.transmit.crossing c = (s.ticking inputs).crossing c :=
    crossing_of_eq (grantSamples_unitsAlone (s.ticking inputs)).crossings c
  exact ⟨by rw [crossing, ticking_crossing]; rfl, (grantSamples_steady (s.ticking inputs)).due⟩

theorem mismatch_announced_iff {inputs : ProvingInputs} : .mismatch c lamp cls ∈ announced s t inputs ↔
    (s.crossing c).mismatchFound lamp (lampAt inputs[c] lamp) = some cls := by
  simp only [mem_announced, mem_clockAnnounce, mem_announceFaults, mem_announceTimers, mem_announceCalls, mem_announceGroup,
    mem_announceUnit]
  simp

theorem conflict_announced_iff {inputs : ProvingInputs} : .conflict c ∈ announced s t inputs ↔
    (s.crossing c).conflictFound inputs[c] = true := by
  simp only [mem_announced, mem_clockAnnounce, mem_announceFaults, mem_announceTimers, mem_announceCalls, mem_announceGroup,
    mem_announceUnit]
  simp

/-- Settles O44: an event of proving is due where the crossing's fault is found, and the classes are those of R126. -/
theorem provingAnnouncesFaultsByClass : Obligations.ProvingAnnouncesFaultsByClass := by
  unfold Obligations.ProvingAnnouncesFaultsByClass
  refine ⟨fun inputs s t c run empty e => ?_, fun o m => ⟨rfl, by cases o <;> rfl⟩⟩
  obtain ⟨port, due⟩ := decisecond_leaves (c := c) run empty e
  intro x startingUp
  rw [due, port]
  refine ⟨fun o cls bound => ?_, fun law => ?_, fun bound => ?_⟩
  · rw [mismatch_announced_iff, mismatchFound_iff bound, startingUp_iff]
    exact and_assoc.trans (and_congr_right fun _ => and_assoc)
  · rw [mismatch_announced_iff, portTick_walkFailed, Bool.or_eq_true, decide_eq_true_iff]
    exact or_congr_right (walkFail_raised_iff law)
  · rw [conflict_announced_iff, conflictFound_iff bound, startingUp_iff]

end Sys2Proof.Machine
end

section
/-!
LAMP_OUT, FLASH_FAIL, WALK_FAIL, and the classes that leave the state as it is (O46).
-/

namespace Sys2Proof.Machine

variable {s w : State} {c : CrossingId} {lamp : Lamp} {cls : FaultClass} {tg : Target}

/-! ### The counters -/

/-- Loss of service counts nothing at the crossings. -/
theorem loseService_counts (s : State) (c : CrossingId) :
    (s.loseService c).counters.crossings = s.counters.crossings := removeCall_counts s c .outOfService

/-- An entry out of service counts nothing at the crossings. -/
theorem enterUntimed_counts (s : State) (c : CrossingId) (st : CrossingState) (cause : Cause) :
    (s.enterUntimed c st cause).counters.crossings = s.counters.crossings := by
  unfold State.enterUntimed; dsimp only; split
  · exact loseService_counts _ c
  · rfl

/-- A change that becomes pending counts nothing at the crossings. -/
theorem setPending_counts (s : State) (c : CrossingId) (tg : Target) (cause : Cause) :
    (s.setPending c tg cause).counters.crossings = s.counters.crossings := by
  have lost (u : State) (b : Bool) : (if b = true then u.loseService c else u).counters.crossings = u.counters.crossings := by
    cases b
    · rfl
    · exact loseService_counts u c
  unfold State.setPending; dsimp only; split
  · split <;> exact lost (s.changeCrossing c _) _
  · rfl

/-! ### What a fault does to its crossing (R113) -/

/-- A class that leaves a crossing's state as it is: LAMP_OUT, and in DARK or FAULT_FLASH any that does not darken it. -/
def FaultClass.IdleIn (cls : FaultClass) (st : CrossingState) : Prop :=
  cls = .lampOut ∨ st = .dark ∨ (st = .faultFlash ∧ cls ≠ .flashFail)

theorem actOnFault_idle (idle : cls.IdleIn (s.crossing c).state) : s.actOnFault c cls = s := by
  rcases idle with rfl | e | ⟨e, ne⟩
  · rfl
  · cases cls <;> simp [State.actOnFault, State.changeService, e]
  · cases cls <;> simp_all [State.actOnFault, State.changeService]

theorem flashing_iff {st : CrossingState} : st.flashing = true ↔ st = .startupFlash ∨ st = .cmdFlash ∨ st = .faultFlash := by
  cases st <;> decide

/-- FLASH_FAIL takes a flashing state to DARK. -/
theorem actOnFault_flashFail (flashing : (s.crossing c).state.flashing = true) :
    s.actOnFault c .flashFail = s.enterUntimed c .dark .fault := by
  rcases flashing_iff.1 flashing with e | e | e <;> simp only [State.actOnFault, e]

/-- WALK_FAIL in a stage makes a change to FAULT_FLASH pending. -/
theorem actOnFault_walkFail (stage : (s.crossing c).state.ofStage = true) :
    s.actOnFault c .walkFail = s.setPending c .faultFlash .fault := by
  change s.changeService c .faultFlash .fault = _
  cases e : (s.crossing c).state <;> simp_all [State.changeService, CrossingState.ofStage]

/-! ### Fault events (R128 to R130) -/

/-- The state with a class in the crossing's fault set. -/
def State.withFault (s : State) (c : CrossingId) (cls : FaultClass) : State :=
  s.changeCrossing c fun x => { x with faults := x.faults.insert cls }

theorem withFault_crossing (s : State) (c : CrossingId) (cls : FaultClass) :
    (s.withFault c cls).crossing c = { s.crossing c with faults := (s.crossing c).faults.insert cls } :=
  changeCrossing_crossing s c _

/-- A fault counted and reported. -/
def State.faultReported (w : State) (c : CrossingId) (lamp : Lamp) (cls : FaultClass) (before : CrossingState) : State :=
  (w.countCrossing c fun n => { n with faults := min (n.faults + 1) 65535 }).raise
    (.crossingFault c cls lamp before (w.crossing c).state (w.crossing c).pendingTarget (w.crossing c).faults)

theorem faultReported_crossing (w : State) (c d : CrossingId) (lamp : Lamp) (cls : FaultClass) (before : CrossingState) :
    (w.faultReported c lamp cls before).crossing d = w.crossing d := rfl

theorem faultReported_callOf (w : State) (c d : CrossingId) (lamp : Lamp) (cls : FaultClass) (before : CrossingState) :
    (w.faultReported c lamp cls before).callOf d = w.callOf d := rfl

/-- A fault of a new class, or one that moves the state, is counted and reported after its act. -/
theorem faultEvent_reported (acts : (s.withFault c cls).actOnFault c cls = w)
    (shows : (s.crossing c).faults.has cls = false ∨ (w.crossing c).state ≠ (s.crossing c).state) :
    s.faultEvent c lamp cls = w.faultReported c lamp cls (s.crossing c).state := by
  subst acts
  exact (faultEvent_eq s c lamp cls).trans (if_pos (by simpa [State.withFault] using shows))

/-- A class that leaves the state as it is joins the set and is reported where it is new to it (R129, R130). -/
theorem faultEvent_new (idle : cls.IdleIn (s.crossing c).state) (new : (s.crossing c).faults.has cls = false) :
    s.faultEvent c lamp cls = (s.withFault c cls).faultReported c lamp cls (s.crossing c).state :=
  faultEvent_reported (actOnFault_idle (by rw [withFault_crossing]; exact idle)) (.inl new)

/-- A class that leaves the state as it is and stands in the set changes nothing. -/
theorem faultEvent_known (idle : cls.IdleIn (s.crossing c).state) (known : (s.crossing c).faults.has cls = true) :
    s.faultEvent c lamp cls = s := by
  have same : s.withFault c cls = s := changeCrossing_self (by rw [insert_known known])
  have stays : (s.withFault c cls).actOnFault c cls = s := by rw [same]; exact actOnFault_idle idle
  refine (faultEvent_eq s c lamp cls).trans ?_
  change (if (_ || decide ((((s.withFault c cls).actOnFault c cls).crossing c).state ≠ _)) = true then _ else
    (s.withFault c cls).actOnFault c cls) = s
  rw [stays, known]
  exact if_neg (by simp)

/-- What a fault whose act reaches its crossing alone leaves once it has been reported. -/
theorem faultReported_leaves {before : CrossingState} (alone : AloneAt c s w)
    (counts : w.counters.crossings = s.counters.crossings) :
    (w.faultReported c lamp cls before).transmit.counters.crossings[c].faults =
        min (s.counters.crossings[c].faults + 1) 65535 ∧
      (∀ d, d ≠ c → (w.faultReported c lamp cls before).transmit.crossing d = s.crossing d ∧
        (w.faultReported c lamp cls before).transmit.callOf d = s.callOf d) ∧
      (w.faultReported c lamp cls before).transmit.groups = s.groups := by
  refine ⟨?_, fun d ne => ⟨(alone.within d ne).1, (alone.within d ne).2.1⟩, alone.groups⟩
  refine (congrArg CrossingCounters.faults (change_get_self _ c _)).trans ?_
  rw [counts]; rfl

/-- FLASH_FAIL in a flashing state: DARK entered, reported. -/
theorem faultEvent_flashFail (flashing : (s.crossing c).state.flashing = true) :
    s.faultEvent c lamp .flashFail =
      ((s.withFault c .flashFail).enterUntimed c .dark .fault).faultReported c lamp .flashFail (s.crossing c).state := by
  obtain ⟨⟨⟨_, _, own⟩, _⟩, _⟩ := enterUntimed_untimed (s.withFault c .flashFail) c .dark .fault
  refine faultEvent_reported (actOnFault_flashFail (by rw [withFault_crossing]; exact flashing)) (.inr ?_)
  rw [own]
  intro dark
  rw [← dark] at flashing
  cases flashing

/-- WALK_FAIL new to the set in a stage: the change of service asked for, reported. -/
theorem faultEvent_walkFail (stage : (s.crossing c).state.ofStage = true) (new : (s.crossing c).faults.has .walkFail = false) :
    s.faultEvent c lamp .walkFail =
      ((s.withFault c .walkFail).setPending c .faultFlash .fault).faultReported c lamp .walkFail (s.crossing c).state :=
  faultEvent_reported (actOnFault_walkFail (by rw [withFault_crossing]; exact stage)) (.inl new)

/-- A change asked for in a stage replaces the change pending where it outranks it, and the stage runs on (R109, R110). -/
theorem setPending_stage (cause : Cause) (stage : (s.crossing c).state.ofStage = true) :
    (∃ w n, (s.setPending c tg cause).crossing c = { s.crossing c with
        pendingChange := if ∀ p, (s.crossing c).pendingChange = some p → p.target.rank < tg.rank then
          some { target := tg, cause := cause } else (s.crossing c).pendingChange
        waiting := w, recallTimer := n }) ∧
      ((s.crossing c).inService = true →
        (s.setPending c tg cause).callOf c = none ∧ ((s.setPending c tg cause).crossing c).recallTimer = none) := by
  have other : (s.crossing c).state ≠ .vehGreen := fun green => by rw [green] at stage; cases stage
  by_cases outranked : (s.crossing c).outrankedBy tg = true
  · obtain ⟨⟨⟨w, n, own⟩, lost⟩, _⟩ := setPending_pends cause outranked
    rw [if_neg other] at own
    exact ⟨⟨w, n, by rw [own, if_pos (outrankedBy_iff.1 outranked)]⟩, lost⟩
  · have stands : s.setPending c tg cause = s := if_neg outranked
    rw [stands, if_neg fun ranked => outranked (outrankedBy_iff.2 ranked)]
    exact ⟨⟨_, _, rfl⟩, fun service => absurd (outrankedBy_of_inService tg service) outranked⟩

/-- Settles O46, class by class. -/
theorem otherFaultsActByClass : Obligations.OtherFaultsActByClass := by
  unfold Obligations.OtherFaultsActByClass
  intro s c lamp cls due alone x
  have e := exec_mismatch due alone
  let u := s.without (.mismatch c lamp cls)
  have joined : AloneAt c u (u.withFault c cls) := changeCrossing_alone u c _
  obtain ⟨corridor, kerb, port, _⟩ := Undisturbed.ofDue (faultEvent_steady u c lamp cls)
  refine ⟨?_, ?_, ?_, fun new idle => ?_, fun known idle => ?_⟩
  · rintro rfl new
    rw [e, faultEvent_new (s := u) (.inl rfl) new, State.faultReported, withFault_crossing]; rfl
  · rintro rfl flashing -
    rw [faultEvent_flashFail (s := u) flashing] at e corridor kerb port
    obtain ⟨⟨⟨_, _, own⟩, lost⟩, _⟩ := enterUntimed_untimed (u.withFault c .flashFail) c .dark .fault
    obtain ⟨faults, others, groups⟩ := faultReported_leaves (lamp := lamp) (cls := .flashFail) (before := (u.crossing c).state)
      (joined.trans (enterUntimed_alone _ c .dark .fault)) (enterUntimed_counts _ c .dark .fault)
    rw [withFault_crossing] at own lost
    refine ⟨_, e, ?_⟩
    rw [transmit_crossing, faultReported_crossing, transmit_callOf, faultReported_callOf, own]
    exact ⟨rfl, rfl, rfl, fun service => (lost service).1, faults, others, groups, corridor, kerb, port⟩
  · rintro rfl stage new
    rw [faultEvent_walkFail (s := u) stage new] at e corridor kerb port
    obtain ⟨⟨_, _, own⟩, lost⟩ := setPending_stage (s := u.withFault c .walkFail) (tg := .faultFlash) .fault
      (by rw [withFault_crossing]; exact stage)
    obtain ⟨faults, others, groups⟩ := faultReported_leaves (lamp := lamp) (cls := .walkFail) (before := (u.crossing c).state)
      (joined.trans (setPending_alone _ c .faultFlash .fault)) (setPending_counts _ c .faultFlash .fault)
    rw [withFault_crossing] at own lost
    refine ⟨_, e, ?_⟩
    rw [transmit_crossing, faultReported_crossing, transmit_callOf, faultReported_callOf]
    rw [own] at lost ⊢
    exact ⟨rfl, rfl, rfl, rfl, rfl, lost, faults, others, groups, corridor, kerb, port⟩
  · rw [e, faultEvent_new (s := u) (.inr idle) new, State.faultReported, withFault_crossing]; rfl
  · rw [e, faultEvent_known (s := u) idle known]

end Sys2Proof.Machine
end

section
/-!
The change of a flash half (O42) and the judgement of the outputs at a decisecond event (O43).
-/

namespace Sys2Proof.Machine

variable {s : State} {c : CrossingId} {l : OutputLine} {v : Bool}

/-! ### The change of a half (R122, R123) -/

@[simp] theorem portHalfChange_flash (p : SignalPort) : p.halfChange.flash = p.flash.next := rfl

/-- An output at a change of half is the output changed. -/
theorem portHalfChange_lampAt (p : SignalPort) (o : Lamp) :
    lampAt p.halfChange.lines o = (lampAt p.lines o).halfChange p.flash.next := lampAt_rewriteLamps _ _ _

/-- After a change of half a FLASHING output is lit exactly in the ON half. -/
theorem valueOf_flashing_next (f : FlashPhase) : valueOf .flashing f.next = decide (f.next = .on 0) := by
  cases f <;> rfl

/-- FLASH_HALF_CHANGE at the end of a half changes the crossing's port alone. -/
theorem exec_flashHalf (due : s.IsDue (.flashHalf c)) (complete : (s.crossing c).port.flash.complete = true) :
    exec (.flashHalfChange c) s = .next (State.transmit
      ((s.without (.flashHalf c)).changeCrossing c fun x => { x with port := (s.crossing c).port.halfChange })) := by
  have changed : (s.without (.flashHalf c)).changeFlashHalf c =
      (s.without (.flashHalf c)).changeCrossing c fun x => { x with port := (s.crossing c).port.halfChange } :=
    (if_pos complete).trans (changeCrossing_congr rfl)
  rw [← changed]
  exact congrArg Host.Outcome.next (take_due due (State.changeFlashHalf c))

/-- Settles O42: the port is the one whose half has changed. -/
theorem flashHalfChangesEveryFiveDeciseconds : Obligations.FlashHalfChangesEveryFiveDeciseconds := by
  unfold Obligations.FlashHalfChangesEveryFiveDeciseconds
  intro s c due complete
  let p := (s.crossing c).port
  refine ⟨p.halfChange, exec_flashHalf due complete, rfl, rfl, fun e on => ?_, fun e off => ?_, fun o => ?_⟩
  · exact congrArg FlashPhase.next on
  · exact congrArg FlashPhase.next off
  · have lit : decide (p.halfChange.flash = .on 0) = valueOf .flashing p.flash.next := (valueOf_flashing_next p.flash).symm
    rw [portHalfChange_lampAt, lit]; rfl

/-! ### The judgement of one output (R124, R125) -/

/-- A settling output is not judged: its mark goes and its timer stays. -/
theorem judge_settling (settling : l.settling = true) : l.judge v = { l with settling := false, proved := v } := if_pos settling

/-- A count touches an output's timer alone. -/
theorem count_frame (l : OutputLine) (v : Bool) : ∃ m q, l.count v = { l with mismatch := m, sense := q } := by
  unfold OutputLine.count
  split
  · split <;> [split; split; skip] <;> exact ⟨_, _, rfl⟩
  · dsimp only
    generalize (if l.value = true then Sense.offWhenOn else .onWhenOff) = sense
    split <;> exact ⟨_, _, rfl⟩

/-- A judgement takes the sample as the proved value, ends the settling, and leaves what is commanded. -/
theorem judge_frame (l : OutputLine) (v : Bool) :
    ∃ m q, l.judge v = { l with settling := false, proved := v, mismatch := m, sense := q } := by
  cases settling : l.settling with
  | true => exact ⟨_, _, judge_settling settling⟩
  | false =>
    obtain ⟨m, q, e⟩ := count_frame l v
    exact ⟨m, q, by rw [OutputLine.judge, settling, e]; simp [settling]⟩

/-- A judged agreement returns the timer to 0 where it counts against the value agreed with, and else leaves it (R125). -/
theorem judge_agreed (judged : l.settling = false) :
    (l.judge l.value).mismatch = (if l.sense = some l.against then 0 else l.mismatch) ∧
      (l.judge l.value).sense = if l.sense = some l.against then none else l.sense := by
  rw [OutputLine.judge, judged, OutputLine.count, if_pos rfl, OutputLine.against]
  rcases sense : l.sense with _ | _ | _ <;> cases l.value <;> simp [sense]

/-- A timer that counts to 5 at most still does after a judgement. -/
theorem judge_mismatch_le (bound : l.mismatch ≤ 5) : (l.judge v).mismatch ≤ 5 := by
  cases judged : l.settling with
  | true => rw [judge_settling judged]; exact bound
  | false =>
    by_cases agrees : v = l.value
    · subst agrees; rw [(judge_agreed judged).1]; split
      · exact Nat.zero_le 5
      · exact bound
    · rw [(judge_mismatched judged agrees).2]; split <;> omega

/-! ### The port at a decisecond event (R122, R124, R127) -/

@[simp] theorem portTick_flash (p : SignalPort) (inputs : Lamps Bool) : (p.tick inputs).flash = p.flash.advance := rfl

/-- Every output is judged with its own sample. -/
theorem portTick_lampAt (p : SignalPort) (inputs : Lamps Bool) (o : Lamp) :
    lampAt (p.tick inputs).lines o = (lampAt p.lines o).judge (lampAt inputs o) := lampAt_rewriteLamps _ _ _

/-- The conflict timer counts to 2 while walk is sampled on with green or amber. -/
theorem nextConflict_eq (n : Nat) (inputs : Lamps Bool) : nextConflict n (conflictSeen inputs) =
    if inputs.walk = true ∧ (inputs.green = true ∨ inputs.amber = true) then min (n + 1) 2 else 0 := by
  simp [nextConflict, conflictSeen]

/-- Settles O43, by the port of each crossing and then by what one judgement does. -/
theorem judgementCountsMismatches : Obligations.JudgementCountsMismatches := by
  unfold Obligations.JudgementCountsMismatches
  refine ⟨fun inputs s run empty => ?_, fun o v _ _ => ?_⟩
  · have e := exec_decisecond run empty inputs
    refine ⟨_, e, fun c => ?_⟩
    dsimp only
    rw [(decisecond_leaves run empty e).1]
    refine ⟨portTick_lampAt _ _, nextConflict_eq _ _, ?_⟩
    rw [portTick_flash]
    cases (s.crossing c).port.flash <;> rfl
  · obtain ⟨m, q, frame⟩ := judge_frame o v
    refine ⟨by rw [frame], by rw [frame], by rw [frame], by rw [frame], fun settling => ?_, fun judged differs => ?_,
      fun judged agrees => ?_⟩
    · rw [judge_settling settling]; exact ⟨rfl, rfl⟩
    · exact judge_mismatched judged differs
    · subst agrees
      obtain ⟨counts, sense⟩ := judge_agreed judged
      rw [counts, sense, ← OutputLine.against]
      split <;> exact ⟨rfl, rfl⟩

end Sys2Proof.Machine
end

section
/-!
The outputs of the states under every step (O53): an entry, a change of half and a decisecond keep a port showing what a state
commands, every act of a crossing's sequence is one of these or leaves state and port, and so every step keeps the outputs.
-/

namespace Sys2Proof.Machine

variable {s t : State} {c : CrossingId} {p : SignalPort} {st : CrossingState}

/-! ### A port that shows a state -/

/-- The port shows what the state commands: the outputs law, as a law of the port under a state. -/
structure SignalPort.Shows (p : SignalPort) (st : CrossingState) : Prop where
  mode : ∀ o, (lampAt p.lines o).mode = commandedMode st o
  value : ∀ o, (lampAt p.lines o).value = valueOf (commandedMode st o) p.flash
  mismatch : ∀ o, (lampAt p.lines o).mismatch ≤ 5
  flash : p.flash = .idle ↔ ∀ o, commandedMode st o ≠ .flashing
  conflict : p.conflict ≤ 2
  walkFailed : p.walkFailed = true → commandedMode st .walk = .on

theorem outputsLaw_iff {x : Crossing} : x.OutputsLaw ↔ x.port.Shows x.state :=
  ⟨fun ⟨lines, flash, conflict, walkFailed⟩ =>
      ⟨fun o => (lines o).1, fun o => (lines o).2.1, fun o => (lines o).2.2, flash, conflict, walkFailed⟩,
    fun h => ⟨fun o => ⟨h.mode o, h.value o, h.mismatch o⟩, h.flash, h.conflict, h.walkFailed⟩⟩

/-- Walk is commanded in WALK alone, and never to flash (R121). -/
theorem commandedMode_walk (st : CrossingState) : commandedMode st .walk = if st = .walk then .on else .off := by
  cases st <;> rfl

/-- The flash phase matters to a FLASHING output alone (R121). -/
theorem valueOf_congr {m : OutputMode} {f g : FlashPhase} (flashing : m = .flashing → f = g) : valueOf m f = valueOf m g := by
  cases m with
  | off | on => rfl
  | flashing => rw [flashing rfl]

namespace SignalPort.Shows

/-- An output that flashes on through an entry keeps the phase it flashes in (R122). -/
theorem enter_flash {st' : CrossingState} {o : Lamp} (before : (lampAt p.lines o).mode = .flashing)
    (now : commandedMode st' o = .flashing) : (p.enter st').flash = p.flash :=
  (portEnter_flash_runs now).trans (if_pos (anyFlashing_iff.2 ⟨o, before⟩))

/-- After an entry the phase is idle exactly where nothing flashes (R122). -/
theorem enter_flash_idle (h : p.Shows st) (st' : CrossingState) :
    (p.enter st').flash = .idle ↔ ∀ o, commandedMode st' o ≠ .flashing := by
  refine ⟨fun idle o flashes => ?_, portEnter_flash_idle⟩
  rw [portEnter_flash_runs flashes] at idle
  split at idle
  · rename_i any
    obtain ⟨o', before⟩ := anyFlashing_iff.1 any
    exact h.flash.1 idle o' ((h.mode o').symm.trans before)
  · cases idle

/-- A port that shows one state shows the next one it enters, whichever that is (R121 to R123). -/
theorem enter (h : p.Shows st) (st' : CrossingState) : (p.enter st').Shows st' where
  mode o := (portEnter_line p st' o).1
  value o := by
    rw [portEnter_lampAt, OutputLine.enter]
    split
    · rename_i same
      rw [h.value o, ← h.mode o, ← same]
      exact valueOf_congr fun before => (enter_flash before (same ▸ before)).symm
    · rfl
  mismatch o := by
    rw [portEnter_lampAt, OutputLine.enter]
    split
    · exact h.mismatch o
    · exact Nat.zero_le 5
  flash := h.enter_flash_idle st'
  conflict := h.conflict
  walkFailed raised := by
    rw [portEnter_walkFailed, Bool.and_eq_true, decide_eq_true_iff] at raised
    obtain ⟨raised, same⟩ := raised
    exact same.symm.trans ((h.mode .walk).trans (h.walkFailed raised))

/-- A change of half changes no mode, and gives the FLASHING outputs the half's value (R122, R123). -/
theorem halfChange (h : p.Shows st) : p.halfChange.Shows st where
  mode o := by
    rw [portHalfChange_lampAt, OutputLine.halfChange, ← h.mode o]
    split <;> rfl
  value o := by
    rw [portHalfChange_lampAt, OutputLine.halfChange, ← h.mode o]
    split
    · rename_i flashing; rw [flashing]; rfl
    · rename_i steady
      rw [h.value o, ← h.mode o]
      exact valueOf_congr fun flashing => absurd flashing steady
  mismatch o := by
    rw [portHalfChange_lampAt, OutputLine.halfChange]
    split <;> exact h.mismatch o
  flash := by
    rw [← h.flash, portHalfChange_flash]
    cases p.flash <;> simp [FlashPhase.next]
  conflict := h.conflict
  walkFailed := h.walkFailed

/-- A WALK_FAIL is raised where walk is commanded on alone (R125, R126). -/
theorem walk_on_of_raised (h : p.Shows st) {v : Bool} (raised : p.raised .walk v = some .walkFail) :
    commandedMode st .walk = .on := by
  obtain ⟨timer, _⟩ := (portRaised_eq _ _ _ _).1 raised
  obtain ⟨_, own, _⟩ := (raised_iff (h.mismatch .walk)).1 timer
  have against := faultClass_walk_iff.1 own.symm
  by_contra off
  have other : st ≠ .walk := by rintro rfl; exact off rfl
  rw [OutputLine.against, h.value .walk, commandedMode_walk, if_neg other] at against
  cases against

/-- A decisecond changes neither modes nor values: a half's decisecond leaves it the half it is (R122, R124, R127). -/
theorem tick (h : p.Shows st) (inputs : Lamps Bool) : (p.tick inputs).Shows st where
  mode o := by
    obtain ⟨m, q, frame⟩ := judge_frame (lampAt p.lines o) (lampAt inputs o)
    rw [portTick_lampAt, frame]; exact h.mode o
  value o := by
    obtain ⟨m, q, frame⟩ := judge_frame (lampAt p.lines o) (lampAt inputs o)
    rw [portTick_lampAt, frame, portTick_flash]
    refine (h.value o).trans ?_
    cases commandedMode st o <;> cases p.flash <;> rfl
  mismatch o := by rw [portTick_lampAt]; exact judge_mismatch_le (h.mismatch o)
  flash := by
    rw [← h.flash, portTick_flash]
    cases p.flash <;> simp [FlashPhase.advance]
  conflict := by
    rw [portTick_conflict, nextConflict]
    split <;> omega
  walkFailed raised := by
    rw [portTick_walkFailed, Bool.or_eq_true, decide_eq_true_iff] at raised
    exact raised.elim h.walkFailed h.walk_on_of_raised

/-- No state commands walk with green or amber, so no port that shows a state does (R121). -/
theorem walk_alone (h : p.Shows st) (walk : p.lines.walk.mode ≠ .off) :
    p.lines.green.mode = .off ∧ p.lines.amber.mode = .off := by
  have walking : st = .walk := by
    by_contra other
    exact walk ((h.mode .walk).trans ((commandedMode_walk st).trans (if_neg other)))
  subst walking
  exact ⟨h.mode .green, h.mode .amber⟩

end SignalPort.Shows

/-! ### The outputs of every crossing -/

/-- The outputs of every crossing show its state. -/
def State.OutputsShown (s : State) : Prop := ∀ c, (s.crossing c).OutputsLaw

/-- A crossing whose port has entered its state shows it, whatever state it showed before. -/
theorem outputsLaw_of_entered {x y : Crossing} (law : x.OutputsLaw) (port : y.port = x.port.enter y.state) : y.OutputsLaw :=
  outputsLaw_iff.2 (port ▸ (outputsLaw_iff.1 law).enter y.state)

/-- The law of a crossing's outputs speaks of its state and its port alone, which are of its stance. -/
theorem outputsLaw_of_stance {x y : Crossing} (law : x.OutputsLaw) (same : y.stance = x.stance) : y.OutputsLaw := by
  have state : y.state = x.state := (congrArg Crossing.state same :)
  have port : y.port = x.port := (congrArg Crossing.port same :)
  rw [outputsLaw_iff, state, port]; exact outputsLaw_iff.1 law

namespace State.OutputsShown

/-- Work at one crossing that leaves its outputs showing its state. -/
theorem moved (law : s.OutputsShown) (kept : ∀ d, d ≠ c → t.crossing d = s.crossing d) (own : (t.crossing c).OutputsLaw) :
    t.OutputsShown := fun d => by
  by_cases e : d = c
  · exact e ▸ own
  · exact kept d e ▸ law d

theorem changeCrossing (law : s.OutputsShown) {f : Crossing → Crossing} (own : (f (s.crossing c)).OutputsLaw) :
    (s.changeCrossing c f).OutputsShown :=
  law.moved (changeCrossing_kept s f) (by rwa [changeCrossing_crossing])

/-- A crossing entered into another state, whatever else changes with it. -/
theorem entered (law : s.OutputsShown) {f : Crossing → Crossing}
    (port : (f (s.crossing c)).port = (s.crossing c).port.enter (f (s.crossing c)).state) : (s.changeCrossing c f).OutputsShown :=
  law.changeCrossing (outputsLaw_of_entered (law c) port)

theorem changeGroup (law : s.OutputsShown) (g : GroupId) (f : Group → Group) : (s.changeGroup g f).OutputsShown := law

/-- The end of a stage leaves the crossing's state and port; the entry that follows changes them. -/
theorem stageEnded (law : s.OutputsShown) (c : CrossingId) : (s.stageEnded c).OutputsShown :=
  law.moved (stageEnded_kept s) (by rw [stageEnded_crossing]; exact law c)

/-- A change set leaves state and port, but in VEH_GREEN enters the closing amber (R109, R111). -/
theorem setPending (law : s.OutputsShown) (c : CrossingId) (tg : Target) (cause : Cause) :
    (s.setPending c tg cause).OutputsShown := by
  cases rank : (s.crossing c).outrankedBy tg with
  | false => simpa [State.setPending, rank] using law
  | true =>
    obtain ⟨w, n, own⟩ := (setPending_pends cause rank).1.held
    refine law.moved (fun d ne => ((setPending_alone s c tg cause).within d ne).1) ?_
    rw [own]; split
    · exact outputsLaw_of_entered (law c) rfl
    · exact law c

/-- An admission enters VEH_AMBER (R96). -/
theorem admitCall (law : s.OutputsShown) (c : CrossingId) (call : CallRecord) (r : Record) (a : Admission) :
    (s.admitCall c call r a).OutputsShown := by
  obtain ⟨w, removed⟩ := removeCall_crossing s c .admitted
  refine law.moved (fun d ne => (admitCall_within (p := (· = c)) s call r a rfl d ne).1) (outputsLaw_of_entered (law c) ?_)
  simp [State.admitCall, Crossing.admitStage, Crossing.enter, removed]

/-- An upgrade changes the stage alone (R77). -/
theorem upgradeStage (law : s.OutputsShown) (c : CrossingId) (k : Stage) (x r : Nat) : (s.upgradeStage c k x r).OutputsShown :=
  law.moved (fun d ne => (upgradeStage_within (p := (· = c)) s k x r rfl d ne).1)
    (by rw [(upgradeStage_spec s c k x r).1]; exact law c)

theorem advance (law : s.OutputsShown) (inputs : ProvingInputs) : (s.advance inputs).OutputsShown := fun c => by
  rw [advance_crossing]
  exact outputsLaw_iff.2 ((outputsLaw_iff.1 (law c)).tick inputs[c])

/-- No walk against traffic follows from the outputs' law (section 2, Failure). -/
theorem safe (law : s.OutputsShown) : Safe s := fun c ⟨walk, traffic⟩ => by
  obtain ⟨green, amber⟩ := (outputsLaw_iff.1 (law c)).walk_alone walk
  exact traffic.elim (absurd green) (absurd amber)

end State.OutputsShown

/-- Every act of the sequence keeps the outputs; they hold also between a stage's end and the entry that follows. -/
theorem outputsShown_keptInSequence : KeptInSequence State.OutputsShown fun _ s => s.OutputsShown where
  calm k law c := outputsLaw_of_stance (law c) (k.stance c)
  calmOff k law c := outputsLaw_of_stance (law c) (k.stance c)
  off law _ := law
  ended c law := law.stageEnded c
  endedOff law := law.stageEnded _
  leave law _ := law.entered rfl
  startup law := law.entered rfl
  green law _ := law.entered rfl
  next _ law _ _ _ := law.entered rfl
  pend tg cause law _ := law.setPending _ tg cause
  withdraw law _ := law.changeCrossing (law _)
  admission call r _ law _ _ := law.admitCall _ call r _
  admitInGroup g _ call r _ law _ := (law.changeGroup g _).admitCall _ call r _
  upgrade n law _ _ := law.upgradeStage _ _ _ n
  halfChange c law := law.changeCrossing (outputsLaw_iff.2 (outputsLaw_iff.1 (law c)).halfChange)
  advance inputs law := law.advance inputs

/-! ### The outputs after a reset and at a start-up -/

theorem startUp_outputsLaw (f : Option InForce) : (Crossing.startUp f).OutputsLaw := by
  cases f with
  | none => exact initial_outputsLaw
  | some f => exact outputsLaw_of_entered initial_outputsLaw rfl

theorem AfterReset.outputsShown {k : Counters} {f : Vector FilterEntry 16} (h : AfterReset s t k f) : t.OutputsShown :=
  fun c => by rw [h.crossings c]; exact initial_outputsLaw

theorem startUnder_outputsShown (s : State) (sel : Selection) (d : Header) : (s.startUnder sel d).OutputsShown := fun c => by
  have e : (s.startUnder sel d).crossing c = .startUp (s.store.effective sel c) := rewrite_get _ _ _
  rw [e]; exact startUp_outputsLaw _

/-- Settles O53. -/
theorem everyStepKeepsTheOutputsOfTheStates : Obligations.EveryStepKeepsTheOutputsOfTheStates := by
  unfold Obligations.EveryStepKeepsTheOutputsOfTheStates
  intro s t law e
  have after : t.OutputsShown := outputsShown_keptInSequence.step AfterReset.outputsShown startUnder_outputsShown law e
  exact ⟨after, State.OutputsShown.safe law, after.safe⟩

end Sys2Proof.Machine
end

section
/-!
The kerb link's own timing: the poll and the unit it visits (O47), the reply window's opening, late bytes and the revivals
(O48).
-/

namespace Sys2Proof.Machine

variable {s : State} {u v : UnitId} {m : Mapping}

/-! ### The unit polled next (R137) -/

/-- The units stand in ascending order. -/
theorem allUnits_ascending : allUnits.Pairwise (· < ·) := by decide

/-- The unit found in the list is the lowest one that meets the condition. -/
theorem findUnit_lowest {p : UnitId → Bool} (found : allUnits.find? p = some u) :
    p u = true ∧ ∀ v, p v = true → u ≤ v := by
  obtain ⟨meets, before, rest, split, none⟩ := List.find?_eq_some_iff_append.1 found
  refine ⟨meets, fun v hv => ?_⟩
  have asc := allUnits_ascending
  have mem := mem_allUnits v
  rw [split] at asc mem
  obtain ⟨-, later, -⟩ := List.pairwise_append.1 asc
  rcases List.mem_append.1 mem with m | m
  · simpa [hv] using none v m
  · rcases List.mem_cons.1 m with e | m
    · exact e.ge
    · exact ((List.pairwise_cons.1 later).1 v m).le

theorem findUnit_none {p : UnitId → Bool} (none : allUnits.find? p = none) (v : UnitId) : p v = false := by
  simpa using List.find?_eq_none.1 none v (mem_allUnits v)

theorem visited_iff {k : KerbUnit} :
    k.visited = true ↔ k.mapping.isSome = true ∧ (k.state ≠ .failed ∨ k.revivalDue = true) := by
  simp [KerbUnit.visited]

/-- The first visited unit above the one last polled. -/
def State.nextAbove (s : State) : Option UnitId :=
  s.kerb.lastPolled.bind fun p => allUnits.find? fun u => decide (p < u) && (s.unit u).visited

theorem nextUnit_eq (s : State) :
    s.nextUnit = s.nextAbove.or (allUnits.find? fun u => (s.unit u).visited) := by
  unfold State.nextUnit State.nextAbove
  cases s.kerb.lastPolled with
  | none => rfl
  | some p =>
    dsimp only [Option.bind_some]
    cases allUnits.find? fun u => decide (p < u) && (s.unit u).visited <;> rfl

theorem nextAbove_eq_some (h : s.nextAbove = some u) : (s.unit u).visited = true ∧
    ∃ p, s.kerb.lastPolled = some p ∧ p < u ∧ ∀ v, p < v → (s.unit v).visited = true → u ≤ v := by
  obtain ⟨p, last, found⟩ := Option.bind_eq_some_iff.1 h
  obtain ⟨meets, lowest⟩ := findUnit_lowest found
  simp only [Bool.and_eq_true, decide_eq_true_eq] at meets lowest
  exact ⟨meets.2, p, last, meets.1, fun v above visited => lowest v ⟨above, visited⟩⟩

theorem nextAbove_eq_none (h : s.nextAbove = none) (p : UnitId) (last : s.kerb.lastPolled = some p) (v : UnitId)
    (visited : (s.unit v).visited = true) : v ≤ p := by
  have none : allUnits.find? (fun u => decide (p < u) && (s.unit u).visited) = none := by
    simpa only [State.nextAbove, last, Option.bind_some] using h
  simpa [visited] using findUnit_none none v

theorem nextUnit_eq_none : s.nextUnit = none ↔ ∀ u, (s.unit u).visited = false := by
  rw [nextUnit_eq, Option.or_eq_none_iff]
  refine ⟨fun h => findUnit_none h.2, fun idle => ⟨?_, by simpa using idle⟩⟩
  cases above : s.nextAbove with
  | none => rfl
  | some u => exact absurd (nextAbove_eq_some above).1 (by simp [idle u])

/-- The next unit is the lowest visited one above the last polled, and with none above it the lowest visited one. -/
theorem nextUnit_eq_some (h : s.nextUnit = some u) : (s.unit u).visited = true ∧
    ((∃ p, s.kerb.lastPolled = some p ∧ p < u ∧ ∀ v, p < v → (s.unit v).visited = true → u ≤ v) ∨
      ((∀ p, s.kerb.lastPolled = some p → ∀ v, (s.unit v).visited = true → v ≤ p) ∧
        ∀ v, (s.unit v).visited = true → u ≤ v)) := by
  rw [nextUnit_eq] at h
  cases above : s.nextAbove with
  | some w =>
    obtain rfl : w = u := by simpa [above] using h
    exact ⟨(nextAbove_eq_some above).1, .inl (nextAbove_eq_some above).2⟩
  | none =>
    rw [above, Option.none_or] at h
    obtain ⟨visited, lowest⟩ := findUnit_lowest h
    exact ⟨visited, .inr ⟨nextAbove_eq_none above, lowest⟩⟩

/-! ### The poll (R136, R137, R141) -/

theorem exec_pollCommand (run : s.running = true) : exec .pollCommand s = .next s.poll.transmit :=
  congrArg Host.Outcome.next (live_running run State.poll)

theorem poll_idle (h : s.kerb.transaction.isSome = true ∨ s.kerb.resting = true) : s.poll = s :=
  if_pos (by simpa using h)

section Free

variable (free : s.kerb.transaction = none) (awake : s.kerb.resting = false)
include free awake

theorem poll_rests (ended : s.nextUnit = none) :
    s.poll = { s with kerb := { s.kerb with lastPolled := none, resting := true } } := by
  simp only [State.poll, free, awake, ended]; rfl

theorem poll_visits (next : s.nextUnit = some u) (mapped : (s.unit u).mapping = some m) :
    let k := s.buildCommand u m.crossing
    s.poll = { s.changeUnit u (fun e => { e with lastCommand := some k, revivalDue := false }) with
      kerb := { lastPolled := some u, resting := false, transaction := some (.begin k (s.sampleOf u)), ended := none } } := by
  have visits : s.poll = s.pollUnit u m.crossing := by
    simp only [State.poll, free, awake, next, KerbUnit.crossing, mapped]; rfl
  simp only [visits, State.pollUnit, awake]

end Free

/-- What R164 asks of a completion reply is noted as its command is built. -/
theorem begin_built (k : KerbCommand) (o : Option Sample) :
    ((Transaction.begin k o).builtClosed = true ↔ ∃ q start passed, o = some q ∧ q.phase = .closed start passed) ∧
    ((Transaction.begin k o).builtAfterTick = true ↔ ∃ q start, o = some q ∧ q.phase = .closed start true) := by
  match o with
  | none => simp [Transaction.begin]
  | some ⟨.requested, _, _⟩ => simp [Transaction.begin]
  | some ⟨.measuring _, _, _⟩ => simp [Transaction.begin]
  | some ⟨.closed _ passed, _, _⟩ => cases passed <;> simp [Transaction.begin]

/-- The command's fields, from values as they stand (R141). -/
theorem buildCommand_pattern (s : State) (u : UnitId) (c : CrossingId) :
    (s.buildCommand u c).pattern = ((s.crossing c).record.map (·.walkPattern)).getD 0 := by
  unfold State.buildCommand; dsimp only
  cases (s.crossing c).record <;> rfl

theorem buildCommand_mute (s : State) (u : UnitId) (c : CrossingId) :
    (s.buildCommand u c).mute = decide ((s.unit u).audible.muteSet ≠ []) := by
  unfold State.buildCommand; dsimp only
  cases (s.unit u).audible.muteSet <;> rfl

theorem indicationOf_eq (x : Crossing) (hasCall : Bool) : indicationOf x hasCall =
    if x.state = .vehGreen ∨ (x.state = .trailRed ∧ x.pendingChange = none) then (if hasCall then .wait else .locate)
    else if (x.state = .vehAmber ∧ x.closingAmber = false) ∨ x.state = .leadRed then .wait
    else if x.state = .walk then .walk
    else if x.state = .clearance then .clear
    else .dark := by
  unfold indicationOf
  cases x.state
  case vehAmber => cases x.closingAmber <;> rfl
  case trailRed => cases x.pendingChange <;> rfl
  all_goals rfl

/-- Settles O47: the three outcomes of a poll, the unit it visits, and the indication its command carries. -/
theorem pollSendsTheNextUnitItsCommand : Obligations.PollSendsTheNextUnitItsCommand := by
  unfold Obligations.PollSendsTheNextUnitItsCommand
  refine ⟨fun s run => ⟨fun busy => ?_, fun free awake ended => ?_, fun u m free awake next mapped => ?_⟩, fun s => ?_,
    indicationOf_eq⟩
  · rw [exec_pollCommand run, poll_idle busy]
  · rw [exec_pollCommand run, poll_rests free awake ended]
  · obtain ⟨closed, passed⟩ := begin_built (s.buildCommand u m.crossing) (s.sampleOf u)
    refine ⟨s.buildCommand u m.crossing, .begin (s.buildCommand u m.crossing) (s.sampleOf u), ?_, rfl, rfl, rfl, rfl, rfl, rfl,
      closed, passed, rfl, rfl, buildCommand_pattern s u _, rfl, rfl, buildCommand_mute s u _, rfl⟩
    rw [exec_pollCommand run, poll_visits free awake next mapped]
  · simp only [← visited_iff]
    exact ⟨nextUnit_eq_none.trans (by simp only [Bool.not_eq_true]), fun u => nextUnit_eq_some⟩

/-! ### The reply window, late bytes and revivals (R136, R139) -/

theorem lateBytes_counted (free : s.kerb.transaction = none) (ended : s.kerb.ended = some u) : s.lateBytes =
    { s.countUnit u (fun n => { n with badReplies := satAdd n.badReplies 1 }) with kerb := { s.kerb with ended := none } } := by
  simp only [State.lateBytes, free, ended]

theorem lateBytes_stray (h : s.kerb.transaction.isSome = true ∨ s.kerb.ended = none) : s.lateBytes = s := by
  unfold State.lateBytes
  split
  · rename_i free ended
    rcases h with flying | idle
    · rw [free] at flying; cases flying
    · rw [ended] at idle; cases idle
  · rfl

theorem reviveUnit_due {n : Time} (next : (s.unit u).nextRevival = some n) (come : reached s.clock.now n = true)
    (failed : (s.unit u).state = .failed) : s.reviveUnit u = s.changeUnit u fun k => { k with revivalDue := true } := by
  simp only [State.reviveUnit, next, failed, come, and_self, if_true]

/-- Settles O48, row by row. -/
theorem kerbTimingCommandsMarkTheirUnit : Obligations.KerbTimingCommandsMarkTheirUnit := by
  unfold Obligations.KerbTimingCommandsMarkTheirUnit
  have late {s : State} (run : s.running = true) : exec .lateBytes s = .next s.lateBytes.transmit :=
    congrArg Host.Outcome.next (live_running run State.lateBytes)
  refine ⟨fun s run => congrArg Host.Outcome.next (live_running run State.openWindow), fun s u run free ended => ?_,
    fun s run stray => ?_, fun s u n due next come failed => ?_⟩
  · rw [late run, lateBytes_counted free ended]; rfl
  · rw [late run, lateBytes_stray stray]
  · rw [← reviveUnit_due (s := s.without (.revival u)) next come failed]
    exact congrArg Host.Outcome.next (take_due due (State.reviveUnit u))

end Sys2Proof.Machine
end

section
/-!
A miss: the unit it moves, the counts it raises, and what it leaves (O49).
-/

namespace Sys2Proof.Machine

variable {s : State} {u : UnitId} {m : Mapping} {y : Transaction} {e k : KerbUnit} {now : Time} {bad : Bool}

/-! ### The unit's entry after a miss (R138, R139) -/

theorem miss_baselines (k : KerbUnit) (now : Time) :
    (k.miss now).pressBaseline = k.pressBaseline ∧ (k.miss now).extendedBaseline = k.extendedBaseline := by
  unfold KerbUnit.miss; split
  · split <;> exact ⟨rfl, rfl⟩
  · exact ⟨rfl, rfl⟩
  · split <;> exact ⟨rfl, rfl⟩
  · unfold KerbUnit.reviveLater; split <;> exact ⟨rfl, rfl⟩

/-- A unit that has just failed: no counts, no sound, no button held, and its schedule begun. -/
def KerbUnit.FailedAt (e : KerbUnit) (now : Time) : Prop :=
  e.state = .failed ∧ e.misses = 0 ∧ e.goods = 0 ∧ e.sounding = false ∧ e.nextRevival = some (now + 10) ∧
    e.revivalPosition = 0 ∧ e.heldNow = false

/-- An entry whose side of the link is that of a unit that fails, and which sounds no more. -/
theorem failed_entry (link : e.link = (k.fail now).link) (silent : e.sounding = false) : e.FailedAt now :=
  ⟨(congrArg KerbUnit.state link :), (congrArg KerbUnit.misses link :), (congrArg KerbUnit.goods link :), silent,
    (congrArg KerbUnit.nextRevival link :), (congrArg KerbUnit.revivalPosition link :), (congrArg KerbUnit.heldNow link :)⟩

/-- An entry whose side of the link is that of a unit that has missed, and which sounds only where that unit may. -/
theorem missed_entry (link : e.link = (k.miss now).link)
    (sounding : e.sounding = true → (k.miss now).sounding = true ∨ (k.miss now).state ≠ .failed) :
    match k.state with
    | .joining => if 5 ≤ k.misses then e.FailedAt now else e.state = .joining ∧ e.misses = k.misses + 1 ∧ e.goods = 0
    | .online => e.state = .suspect ∧ e.misses = 1 ∧ e.goods = 0
    | .suspect => if 5 ≤ k.misses then e.FailedAt now else e.state = .suspect ∧ e.misses = k.misses + 1 ∧ e.goods = k.goods
    | .failed => e.state = .failed ∧ ∀ n, k.nextRevival = some n →
        e.nextRevival = some (n + BitVec.ofNat 32 (revivalStep k.revivalPosition)) ∧
        e.revivalPosition = min (k.revivalPosition + 1) 5 := by
  have fails (h : k.miss now = k.fail now) : e.FailedAt now := by
    rw [h] at link sounding
    exact failed_entry link (Bool.eq_false_iff.2 fun on => (sounding on).elim (fun f => nomatch f) fun f => f rfl)
  have state : e.state = (k.miss now).state := (congrArg KerbUnit.state link :)
  have misses : e.misses = (k.miss now).misses := (congrArg KerbUnit.misses link :)
  have goods : e.goods = (k.miss now).goods := (congrArg KerbUnit.goods link :)
  cases st : k.state with
  | joining =>
    dsimp only; split <;> rename_i sixth
    · exact fails (by simp [KerbUnit.miss, st, sixth])
    · rw [state, misses, goods]; simp [KerbUnit.miss, st, sixth]
  | online => rw [state, misses, goods]; simp [KerbUnit.miss, st]
  | suspect =>
    dsimp only; split <;> rename_i sixth
    · exact fails (by simp [KerbUnit.miss, st, sixth])
    · rw [state, misses, goods]; simp [KerbUnit.miss, st, sixth]
  | failed =>
    have revives : k.miss now = k.reviveLater now := by simp only [KerbUnit.miss, st]
    refine ⟨?_, fun n next => ?_⟩
    · rw [state, revives]; unfold KerbUnit.reviveLater; split <;> exact st
    · have schedule : e.nextRevival = (k.miss now).nextRevival ∧ e.revivalPosition = (k.miss now).revivalPosition :=
        ⟨(congrArg KerbUnit.nextRevival link :), (congrArg KerbUnit.revivalPosition link :)⟩
      rw [schedule.1, schedule.2, revives]
      simp [KerbUnit.reviveLater, next, later]

/-! ### What a miss leaves of the rest (R136) -/

theorem loseSample_counters (s : State) (u : UnitId) (cancel : Bool) : (s.loseSample u cancel).counters = s.counters := by
  unfold State.loseSample; split
  · rfl
  · split <;> rfl

theorem reportUnit_unitCounts (s : State) (u : UnitId) (m : Mapping) (before : UnitState) (cause : UnitCause) :
    (s.reportUnit u m before cause).counters.units = s.counters.units := by
  unfold State.reportUnit; dsimp only; split
  · rfl
  · split
    · rw [loseSample_counters]; rfl
    · rfl

/-- The miss counted and the unit's entry moved, before the report of its change of state. -/
def State.missMoved (s : State) (u : UnitId) (bad : Bool) : State :=
  (s.countUnit u fun n =>
    { n with pollsMissed := satAdd n.pollsMissed 1, badReplies := satAdd n.badReplies (if bad then 1 else 0) }).changeUnit u
      fun e => e.miss s.clock.now

theorem missMoved_entry (s : State) (u : UnitId) (bad : Bool) : EntryWork u s (s.missMoved u bad) ∧
    (s.missMoved u bad).unit u = (s.unit u).miss s.clock.now := by
  refine ⟨(countUnit_entry s u ?_).trans (changeUnit_entry _ u _), changeUnit_unit _ u _⟩
  exact fun _ => rfl

/-- What the report of a miss and the review of the working buttons leave. -/
structure MissSettled (u : UnitId) (now : Time) (k : KerbUnit) (w t : State) : Prop where
  steady : Steady w t
  counters : t.counters.units = w.counters.units
  sounding : (t.unit u).sounding = true → (k.miss now).sounding = true ∨ (k.miss now).state ≠ .failed

theorem missUnit_settled (mapped : (s.unit u).mapping = some m) (bad : Bool) :
    MissSettled u s.clock.now (s.unit u) (s.missMoved u bad) (s.missUnit u bad) := by
  have reported : MissSettled u s.clock.now (s.unit u) (s.missMoved u bad) (s.missed u m bad) :=
    ⟨reportUnit_steady _ u m _ _, reportUnit_unitCounts _ u m _ _, (missed_tally s u m bad).2.2⟩
  rw [missUnit_eq mapped]; split
  · exact reported
  · have units : UnitsKept (s.missed u m bad) ((s.missed u m bad).reviewWorking m.crossing) := tellWorking_unitsKept _ _ _
    exact ⟨reported.steady.trans (reviewWorking_steady _ _), units.counters.trans reported.counters, fun on =>
      reported.sounding (((SamplesStand.ofUnits units).sounding u).symm.trans on)⟩

/-! ### The three rows of a miss (R136) -/

theorem endInMiss_counted (valid : y.void = false) (named : y.command.address = u) (bad counted : Bool) :
    s.endInMiss y bad counted = (s.missUnit u bad).endTransaction (if counted then some u else none) := by
  subst named
  simp only [State.endInMiss, valid, Bool.false_eq_true, if_false]

/-- Each row of a miss ends the transaction in one. -/
theorem exec_miss {i : Instr} (run : s.running = true) (line : s.kerb.transaction = some y) (opened : y.windowOpen = true)
    (valid : y.void = false) (named : y.command.address = u)
    (row : i = .replyWindowClose .nothing ∧ bad = false ∨
      (i = .replyWindowClose .stopped ∨ i = .replyWindowClose .arriving) ∧ bad = true ∨
      ∃ f, i = .badReply f ∧ wholeKerbReply f = true ∧ (kerbCheckGood f = false ∨ f.getD 1 0 ≠ number u) ∧ bad = true) :
    ∃ ended, exec i s = .next ((s.missUnit u bad).endTransaction ended).transmit := by
  have awaiting : s.awaiting = some y := by simp only [State.awaiting, line, opened, if_true]
  have closes (x : WindowContent) : exec (.replyWindowClose x) s =
      .next ((s.missUnit u (decide (x ≠ .nothing))).endTransaction (if decide (x ≠ .arriving) then some u else none)).transmit := by
    rw [← endInMiss_counted valid named]
    refine congrArg Host.Outcome.next ((live_running run _).trans ?_)
    simp only [State.closeWindow, awaiting]
  rcases row with ⟨rfl, rfl⟩ | ⟨rfl | rfl, rfl⟩ | ⟨f, rfl, whole, wrong, rfl⟩
  · exact ⟨_, closes .nothing⟩
  · exact ⟨_, closes .stopped⟩
  · exact ⟨_, closes .arriving⟩
  · have wrong : (kerbCheckGood f && y.answeredBy f) = false := by
      rcases wrong with check | address
      · rw [check]; rfl
      · rw [Transaction.answeredBy, named, decide_eq_false address, Bool.and_false]
    refine ⟨some u, (if_pos whole).trans (congrArg Host.Outcome.next ((live_running run _).trans ?_))⟩
    simp only [State.receiveBad, awaiting, wrong, Bool.false_eq_true, if_false]
    exact congrArg State.transmit (endInMiss_counted valid named true true)

/-- Settles O49: the unit's entry by its state, and the rest by the frames of the miss and of its report. -/
theorem missMovesTheUnit : Obligations.MissMovesTheUnit := by
  unfold Obligations.MissMovesTheUnit
  intro i bad s y u m run line opened valid named mapped row
  obtain ⟨ended, e⟩ := exec_miss run line opened valid named row
  obtain ⟨moved, own⟩ := missMoved_entry s u bad
  obtain ⟨steady, counters, sounding⟩ := missUnit_settled mapped bad
  have link : ((s.missUnit u bad).unit u).link = ((s.unit u).miss s.clock.now).link := by rw [steady.links u, own]
  have counts : (s.missUnit u bad).counters.units[u] = { s.counters.units[u] with
      pollsMissed := satAdd (s.counters.units[u]).pollsMissed 1
      badReplies := satAdd (s.counters.units[u]).badReplies (if bad then 1 else 0) } := by
    rw [counters]; exact countUnit_count s u _
  obtain ⟨mapping, stuck⟩ := miss_kept (s.unit u) s.clock.now
  obtain ⟨press, extended⟩ := miss_baselines (s.unit u) s.clock.now
  have rest := (moved.rest.trans (.ofSteady steady)).trans (endTransaction_rest _ ended)
  exact ⟨_, e, rfl, congrArg UnitCounters.pollsMissed counts, congrArg UnitCounters.badReplies counts,
    missed_entry link sounding, (congrArg KerbUnit.mapping link :).trans (mapping.trans mapped),
    (congrArg KerbUnit.pressBaseline link :).trans press, (congrArg KerbUnit.extendedBaseline link :).trans extended,
    (congrArg KerbUnit.stuck link :).trans stuck, fun v ne => (steady.links v).trans (by rw [moved.others v ne]),
    rest.corridor, rest.port, rest.due⟩

end Sys2Proof.Machine
end

section
/-!
UNIT MAP WRITE: what its body asks for (R151, R190).
-/

namespace Sys2Proof.Machine

variable {s : State} {fr : Frame} {rest : List Frame} {u : UnitId} {c : CrossingId} {side : Side} {ub cb sb nb : Byte}
  {l : List UnitId} {bytes : List Byte}

/-! ### Addresses and sides by their bytes -/

theorem numbered_number (u : UnitId) : numbered 32 (number u) = some u := by revert u; decide

theorem number_injective : Function.Injective (number : UnitId → Byte) := fun u v e =>
  Option.some.inj ((numbered_number u).symm.trans ((congrArg (numbered 32) e).trans (numbered_number v)))

/-- An address byte is the number of the address it names. -/
theorem eq_number_of_numbered {b : Byte} (h : numbered 32 b = some u) : b = number u := by
  unfold numbered at h
  split at h
  · rename_i bound
    obtain rfl := Option.some.inj h
    refine BitVec.eq_of_toNat_eq ?_
    simp only [number, byte, BitVec.toNat_ofNat]; omega
  · cases h

theorem readSide_eq_some (h : sb = 1 ∧ side = .a ∨ sb = 2 ∧ side = .b) : readSide sb = some side := by
  rcases h with ⟨rfl, rfl⟩ | ⟨rfl, rfl⟩ <;> rfl

theorem readSide_eq_none (h : sb ≠ 1 ∧ sb ≠ 2) : readSide sb = none :=
  (if_neg (BitVec.toNat_ne_iff_ne.2 h.1)).trans (if_neg (BitVec.toNat_ne_iff_ne.2 h.2))

/-! ### The hearing set -/

/-- The members of a hearing set are the numbers of units other than the unit's own, none twice. -/
theorem readHearing_eq_some : ∀ {bytes : List Byte} {l : List UnitId},
    readHearing u bytes = some l ↔ bytes = l.map number ∧ l.Nodup ∧ u ∉ l
  | [], l => by cases l <;> simp [readHearing]
  | b :: bytes, l => by
    have ih {l} := readHearing_eq_some (bytes := bytes) (l := l)
    simp only [readHearing]
    constructor
    · intro h
      split at h
      · rename_i v tail named read
        obtain ⟨rfl, nodup, fresh⟩ := ih.1 read
        split at h
        · cases h
        · rename_i free
          obtain rfl := Option.some.inj h
          obtain ⟨own, twice⟩ := not_or.1 free
          exact ⟨by rw [eq_number_of_numbered named]; rfl, List.nodup_cons.2 ⟨twice, nodup⟩,
            mt List.mem_cons.1 (not_or.2 ⟨Ne.symm own, fresh⟩)⟩
      · cases h
    · rintro ⟨e, nodup, fresh⟩
      cases l with
      | nil => cases e
      | cons v l =>
        obtain ⟨rfl, rfl⟩ := List.cons.inj e
        obtain ⟨twice, nodup⟩ := List.nodup_cons.1 nodup
        obtain ⟨own, fresh⟩ := not_or.1 (mt List.mem_cons.2 fresh)
        rw [numbered_number, ih.2 ⟨rfl, nodup, fresh⟩]
        exact if_neg (not_or.2 ⟨Ne.symm own, twice⟩)

theorem readHearing_eq_none (h : number u ∈ bytes ∨ ¬ bytes.Nodup ∨ ∃ b ∈ bytes, numbered 32 b = none) :
    readHearing u bytes = none := by
  cases read : readHearing u bytes with
  | none => rfl
  | some l =>
    obtain ⟨rfl, nodup, fresh⟩ := readHearing_eq_some.1 read
    rcases h with own | twice | ⟨b, mem, unnamed⟩
    · exact absurd ((List.mem_map_of_injective number_injective).1 own) fresh
    · exact absurd (nodup.map number_injective) twice
    · obtain ⟨v, -, rfl⟩ := List.mem_map.1 mem
      rw [numbered_number] at unnamed
      cases unnamed

theorem mem_ascending (v : UnitId) : v ∈ ascending l ↔ v ∈ l := by simp [ascending]

theorem ascending_pairwise (l : List UnitId) : (ascending l).Pairwise (· < ·) := allUnits_ascending.filter _

/-! ### The fields of a SET and of a CLEAR (log entry 14) -/

theorem readMapSet_short (ub : Byte) (h : bytes.length < 3) : readMapSet ub bytes = .badLength := by
  match bytes with
  | [] | [_] | [_, _] => rfl
  | _ :: _ :: _ :: _ => simp at h; omega

theorem readMapSet_overfull (h : 6 < nb.toNat) : readMapSet ub (cb :: sb :: nb :: bytes) = .outOfRange := if_pos h

theorem readMapSet_miscounted (few : nb.toNat ≤ 6) (h : bytes.length ≠ nb.toNat) :
    readMapSet ub (cb :: sb :: nb :: bytes) = .badLength := (if_neg (by omega)).trans (if_pos h)

/-- The count byte of a hearing set of six members at most. -/
theorem count_toNat (few : bytes.length ≤ 6) : (byte bytes.length).toNat = bytes.length := by
  simp only [byte, BitVec.toNat_ofNat]; omega

section Counted

variable (few : bytes.length ≤ 6)
include few

theorem readMapSet_set (address : numbered 32 ub = some u) (crossing : numbered 8 cb = some c) (named : readSide sb = some side)
    (hears : readHearing u bytes = some l) : readMapSet ub (cb :: sb :: byte bytes.length :: bytes) =
      .set u { crossing := c, side := side, hearing := ascending l } := by
  have count := count_toNat few
  refine (if_neg (by omega)).trans ((if_neg (by omega)).trans ?_)
  simp only [address, crossing, named, hears]

theorem readMapSet_outOfRange (h : numbered 32 ub = none ∨ numbered 8 cb = none ∨ (sb ≠ 1 ∧ sb ≠ 2) ∨ ub ∈ bytes ∨
      ¬ bytes.Nodup ∨ ∃ b ∈ bytes, numbered 32 b = none) :
    readMapSet ub (cb :: sb :: byte bytes.length :: bytes) = .outOfRange := by
  have count := count_toNat few
  refine (if_neg (by omega)).trans ((if_neg (by omega)).trans ?_)
  cases address : numbered 32 ub with
  | none => rfl
  | some u =>
    cases crossing : numbered 8 cb with
    | none => rfl
    | some c =>
      cases named : readSide sb with
      | none => rfl
      | some side =>
        rw [address, crossing] at h
        have members : number u ∈ bytes ∨ ¬ bytes.Nodup ∨ ∃ b ∈ bytes, numbered 32 b = none := by
          rw [← eq_number_of_numbered address]
          rcases h with h | h | h | h
          · cases h
          · cases h
          · rw [readSide_eq_none h] at named; cases named
          · exact h
        simp only [readHearing_eq_none members]

end Counted

theorem readMapRequest_set (ub : Byte) (bytes : List Byte) : readMapRequest (ub :: 1 :: bytes) = readMapSet ub bytes := rfl

theorem readMapRequest_clear (ub : Byte) : readMapRequest [ub, 2] =
    match numbered 32 ub with
    | some u => .clear u
    | none => .outOfRange := rfl

theorem readMapRequest_longClear (ub : Byte) (h : bytes ≠ []) : readMapRequest (ub :: 2 :: bytes) = .badLength := by
  cases bytes with
  | nil => exact absurd rfl h
  | cons b bytes => rfl

theorem readMapRequest_short (h : bytes.length < 2) : readMapRequest bytes = .badLength := by
  match bytes with
  | [] | [_] => rfl
  | _ :: _ :: _ => simp at h

theorem readMapAction_eq_none {ab : Byte} (set : ab ≠ 1) (clear : ab ≠ 2) : readMapAction ab = none :=
  (if_neg (BitVec.toNat_ne_iff_ne.2 set)).trans (if_neg (BitVec.toNat_ne_iff_ne.2 clear))

theorem readMapRequest_noAction {ab : Byte} (ub : Byte) (bytes : List Byte) (set : ab ≠ 1) (clear : ab ≠ 2) :
    readMapRequest (ub :: ab :: bytes) = .outOfRange := by
  simp only [readMapRequest, readMapAction_eq_none set clear]

/-! ### The rows at their turn (log entry 3) -/

theorem isMap_of_action {a : MapAction} {ab : Byte} (kind : fr.isKind 11 = true) (body : fr.body = ub :: ab :: bytes)
    (h : readMapAction ab = some a ∨ readMapAction ab = none) : isMap a fr = true := by
  simp only [isMap, kind, body, Bool.true_and, Bool.or_eq_true, decide_eq_true_eq, Option.isNone_iff_eq_none]
  exact h

theorem isMap_of_short {a : MapAction} (kind : fr.isKind 11 = true) (h : fr.body.length < 2) : isMap a fr = true := by
  unfold isMap
  rw [kind]
  match body : fr.body with
  | [] | [_] => rfl
  | _ :: _ :: _ => simp [body] at h

/-- The row of an action. -/
def MapAction.row : MapAction → Instr
  | .set => .unitMapSet
  | .clear => .unitMapClear

theorem exec_map {a : MapAction} (turn : s.AtTurn fr rest) (own : isMap a fr = true) :
    exec a.row s = .next (executeMap fr (s.taking rest)).transmit := by
  rw [← serve_at_turn turn own executeMap]
  cases a <;> rfl

theorem executeMap_badLength (h : readMapRequest fr.body = .badLength) (s : State) :
    executeMap fr s = s.refuse fr.tag .badLength := by simp only [executeMap, h]

theorem executeMap_outOfRange (h : readMapRequest fr.body = .outOfRange) (s : State) :
    executeMap fr s = s.refuse fr.tag .outOfRange := by simp only [executeMap, h]

theorem executeMap_set {m : Mapping} (h : readMapRequest fr.body = .set u m) (s : State) :
    executeMap fr s = (s.mapUnit u m).mapDone fr.tag u := by simp only [executeMap, h]

theorem executeMap_noSuchUnit (h : readMapRequest fr.body = .clear u) (free : (s.unit u).mapping = none) :
    executeMap fr s = s.refuse fr.tag .noSuchUnit := by simp only [executeMap, h, free]

theorem executeMap_clear {m : Mapping} (h : readMapRequest fr.body = .clear u) (mapped : (s.unit u).mapping = some m) :
    executeMap fr s = (s.unmapUnit u m).mapDone fr.tag u := by simp only [executeMap, h, mapped]

end Sys2Proof.Machine
end

section
/-!
What the review of the working buttons leaves of an unmapped entry, and of the accessible mark of a crossing whose green
timer has not expired (R148, R156).
-/

namespace Sys2Proof.Machine

variable {s t w : State} {c d : CrossingId}

/-! ### Unmapped entries (R155, R157) -/

/-- Every unmapped entry is as it was: it has no levels to follow a crossing's. -/
def UnmappedStand (s t : State) : Prop := ∀ u, (s.unit u).mapping = none → t.unit u = s.unit u

namespace UnmappedStand

theorem refl (s : State) : UnmappedStand s s := fun _ _ => rfl

theorem trans (h : UnmappedStand s t) (k : UnmappedStand t w) : UnmappedStand s w := fun u free =>
  (k u (by rw [h u free]; exact free)).trans (h u free)

theorem after (k : UnmappedStand t w) (h : UnmappedStand s t) : UnmappedStand s w := h.trans k

theorem ofUnits (h : t.units = s.units) : UnmappedStand s t := fun u _ => unit_of_eq h u

end UnmappedStand

theorem markAccessible_unmapped (s : State) (c : CrossingId) (b : Bool) : UnmappedStand s (s.markAccessible c b) := by
  unfold State.markAccessible; split
  · exact .refl s
  · intro u free
    have elsewhere : (s.unit u).crossing ≠ some c := by simp [KerbUnit.crossing, free]
    exact (rewrite_get _ _ _).trans (if_neg elsewhere)

theorem admitCall_unmapped (s : State) (c : CrossingId) (call : CallRecord) (r : Record) (a : Admission) :
    UnmappedStand s (s.admitCall c call r a) := by
  have truncated (w : State) (k : Stage) : UnmappedStand w (w.raiseTruncated c k a.cut) := by
    cases a.cut <;> exact .ofUnits rfl
  unfold State.admitCall
  exact .after (truncated _ _) <| .after (.ofUnits rfl) <| .after (markAccessible_unmapped _ c _) <|
    .after (.ofUnits (changeCrossing_units _ c _)) (.ofUnits (removeCall_units s c _))

theorem groupTurn_unmapped (s : State) (g : GroupId) (c : CrossingId) : UnmappedStand s (s.groupTurn g c) := by
  unfold State.groupTurn; split
  · split
    · unfold State.considerInGroup; split
      · exact .ofUnits rfl
      · split
        · exact .ofUnits rfl
        · split
          · exact .after (admitCall_unmapped _ c _ _ _) (.ofUnits rfl)
          · exact .ofUnits rfl
    · exact .refl s
  · exact .refl s

theorem evaluateOn_unmapped (s : State) (c : CrossingId) (call : CallRecord) (r : Record) (route : Route) :
    UnmappedStand s (s.evaluateOn c call r route) := by
  cases route with
  | band =>
    change UnmappedStand s (s.evaluateBand c call r)
    unfold State.evaluateBand; split <;> [exact admitCall_unmapped s c call r _; exact .ofUnits rfl]
  | group g => exact foldl_related _ s .refl .trans fun s c => groupTurn_unmapped s g c
  | direct =>
    change UnmappedStand s (s.evaluateDirect c call r)
    unfold State.evaluateDirect; split <;> [exact admitCall_unmapped s c call r _; exact .ofUnits rfl]

theorem evaluate_unmapped (s : State) (c : CrossingId) : UnmappedStand s (s.evaluate c) := by
  unfold State.evaluate; split
  · split
    · exact .ofUnits rfl
    · exact evaluateOn_unmapped s c _ _ _
  · exact .refl s

theorem queued_units (s : State) (c : CrossingId) (o : Offer) : (s.queued c o).units = s.units := by
  unfold State.queued; split <;> rfl

theorem testFailRecall_unmapped (s : State) (c : CrossingId) : UnmappedStand s (s.testFailRecall c) := by
  unfold State.testFailRecall; dsimp only; split
  · rw [intoQueue_eq]
    exact .after (evaluate_unmapped _ c) (.ofUnits (queued_units s c _))
  · exact .refl s

theorem reviewWorking_unmapped (s : State) (c : CrossingId) : UnmappedStand s (s.reviewWorking c) := by
  unfold State.reviewWorking State.tellWorking; split
  · exact .refl s
  · exact .after (testFailRecall_unmapped _ c) (.ofUnits rfl)

/-! ### Accessible marks (R156) -/

/-- A crossing whose green timer has not expired keeps its accessible mark, and its green timer has not expired after. -/
def MarksStand (s t : State) : Prop := ∀ c, (s.crossing c).greenExpired = false →
  (t.crossing c).accessibleMark = (s.crossing c).accessibleMark ∧ (t.crossing c).greenExpired = false

namespace MarksStand

theorem refl (s : State) : MarksStand s s := fun _ green => ⟨rfl, green⟩

theorem trans (h : MarksStand s t) (k : MarksStand t w) : MarksStand s w := fun c green => by
  obtain ⟨mark, green'⟩ := h c green
  obtain ⟨mark', green''⟩ := k c green'
  exact ⟨mark'.trans mark, green''⟩

end MarksStand

/-- No stage starts at such a crossing: an evaluation of another call leaves it waiting (R81, R82). -/
theorem testFailRecall_marks (s : State) (c : CrossingId) : MarksStand s (s.testFailRecall c) := by
  unfold State.testFailRecall; dsimp only; split
  · intro d green
    rw [intoQueue_eq]
    have waits := (evaluate_evaluated (s.queued c recallOffer) c).waits d (.inl (by rw [queued_crossing]; exact green))
    refine ⟨(congrArg Crossing.accessibleMark waits.crossing :).trans ?_, waits.greenExpired.trans ?_⟩
    · rw [queued_crossing]
    · rw [queued_crossing]; exact green
  · exact .refl s

theorem reviewWorking_marks (s : State) (c : CrossingId) : MarksStand s (s.reviewWorking c) := by
  unfold State.reviewWorking State.tellWorking; split
  · exact .refl s
  · refine .trans (fun d green => ?_) (testFailRecall_marks _ c)
    rw [changeCrossing_get]; split <;> exact ⟨rfl, green⟩

/-! ### The crossings a map write concerns (R151) -/

/-- What each review leaves, the reviews of the crossings concerned leave together. -/
theorem reviewConcerned_related {R : State → State → Prop} (refl : ∀ s, R s s) (trans : ∀ {a b c}, R a b → R b c → R a c)
    (review : ∀ s c, R s (s.reviewWorking c)) (s : State) (old new : Option CrossingId) : R s (s.reviewConcerned old new) := by
  have first : R s (match old with | some c => s.reviewWorking c | none => s) := by
    cases old with
    | none => exact refl s
    | some c => exact review s c
  unfold State.reviewConcerned; dsimp only
  cases new with
  | none => exact first
  | some c =>
    dsimp only; split
    · exact first
    · exact trans first (review _ c)

theorem reviewConcerned_unmapped (s : State) (old new : Option CrossingId) : UnmappedStand s (s.reviewConcerned old new) :=
  reviewConcerned_related .refl .trans reviewWorking_unmapped s old new

theorem reviewConcerned_marks (s : State) (old new : Option CrossingId) : MarksStand s (s.reviewConcerned old new) :=
  reviewConcerned_related .refl .trans reviewWorking_marks s old new

theorem reviewConcerned_unitsKept (s : State) (old new : Option CrossingId) : UnitsKept s (s.reviewConcerned old new) :=
  reviewConcerned_related .refl .trans (fun s c => tellWorking_unitsKept s c _) s old new

theorem reviewConcerned_demand (s : State) (old new : Option CrossingId) : DemandWork s (s.reviewConcerned old new) :=
  reviewConcerned_related .refl .trans reviewWorking_demand s old new

end Sys2Proof.Machine
end

section
/-!
UNIT MAP WRITE: the entry set or cleared, its reply, and what it leaves (O51).
-/

namespace Sys2Proof.Machine

variable {s t w : State} {fr : Frame} {rest : List Frame} {u : UnitId} {m : Mapping} {e : KerbUnit}

/-! ### What a map write leaves of the rest (R151) -/

/-- A map write's work on the entry of `u`: the corridor, the port but for its notices, the crossings' records, the other
units' links and the units' counters stand, and a transaction in flight with the unit is void. -/
structure MapWork (u : UnitId) (s t : State) : Prop where
  rest : CorridorAndPort s t
  transmission : t.host.transmission = s.host.transmission
  links : ∀ v, v ≠ u → (t.unit v).link = (s.unit v).link
  counters : t.counters.units = s.counters.units
  void : ∀ x, t.kerb.transaction = some x → x.command.address = u → x.void = true

/-- Steady work that follows it, and leaves the units' counters and the kerb link master. -/
theorem MapWork.followed (h : MapWork u s t) (k : Steady t w) (counters : w.counters.units = t.counters.units)
    (kerb : w.kerb = t.kerb) : MapWork u s w where
  rest := h.rest.trans (.ofSteady k)
  transmission := k.transmission.trans h.transmission
  links v ne := (k.links v).trans (h.links v ne)
  counters := counters.trans h.counters
  void := by rw [kerb]; exact h.void

theorem MapWork.reviewed (h : MapWork u s t) (old new : Option CrossingId) : MapWork u s (t.reviewConcerned old new) :=
  h.followed (reviewConcerned_steady t old new) (reviewConcerned_unitsKept t old new).counters
    (reviewConcerned_demand t old new).kerb

/-- The unit's transaction in flight is void once its entry is rewritten. -/
theorem rewritten_void (k : KerbLink) (u : UnitId) (cleared : Bool) (x : Transaction)
    (line : (k.rewritten u cleared).transaction = some x) (named : x.command.address = u) : x.void = true := by
  obtain ⟨y, -, rfl⟩ := Option.map_eq_some_iff.1 line
  split
  · rfl
  · rename_i other
    rw [if_neg other] at named
    exact absurd named other

theorem leaveMuted_link (s : State) (u v : UnitId) : ((s.leaveMuted u).unit v).link = (s.unit v).link := by
  simp [State.leaveMuted, State.unit, KerbUnit.link]

theorem detachUnit_crossings (s : State) (u : UnitId) (cleared : Bool) : (s.detachUnit u cleared).crossings = s.crossings := by
  unfold State.detachUnit State.leaveMuted
  exact (loseSample_work s u false).queue.crossings

/-- The old entry's sample ended, its transaction made void, and another entry put in its place. -/
theorem replaced_work (s : State) (u : UnitId) (cleared : Bool) (e : KerbUnit) :
    MapWork u s ((s.detachUnit u cleared).changeUnit u fun _ => e) := by
  have lost := loseSample_steady s u false
  have work : CorridorAndPort (s.loseSample u false) ((s.detachUnit u cleared).changeUnit u fun _ => e) :=
    ⟨⟨rfl, rfl, rfl, fun _ => rfl, rfl, rfl, rfl⟩, ⟨rfl, rfl, rfl, rfl, rfl⟩, rfl⟩
  refine ⟨(CorridorAndPort.ofSteady lost).trans work, lost.transmission, fun v ne => ?_,
    congrArg Counters.units (loseSample_counters s u false), rewritten_void _ u cleared⟩
  rw [changeUnit_other _ _ ne.symm]
  exact (leaveMuted_link _ u v).trans (lost.links v)

/-! ### The reply (R151, R179) -/

/-- The answer to a map write, after its work. -/
theorem MapWork.answered (h : MapWork u (s.taking rest) w) (tag : Byte) (r : ReplyContent) :
    Answered s (w.respond tag r).transmit tag r ∧
    (∀ x, (w.respond tag r).transmit.kerb.transaction = some x → x.command.address = u → x.void = true) ∧
    (∀ v, v ≠ u → ((w.respond tag r).transmit.unit v).link = (s.unit v).link) ∧
    (w.respond tag r).transmit.counters.units = s.counters.units ∧ CorridorKept s (w.respond tag r).transmit ∧
    (w.respond tag r).transmit.host.requests = rest := by
  obtain ⟨running, clock, store, records, corridor, freeCount, pending⟩ := h.rest.corridor
  exact ⟨answered_respond h.transmission, h.void, h.links, h.counters,
    ⟨running, clock, store, records, corridor, freeCount, pending⟩,
    (transmit_portKept _).requests.trans h.rest.port.requests⟩

theorem mapDone_mapped (mapped : (s.unit u).mapping = some m) (tag : Byte) : s.mapDone tag u =
    s.respond tag (.done (.unitMap (number u :: 1 :: (s.unit u).entryItems m s.clock.now))) := by
  simp only [State.mapDone, mapped]; rfl

theorem mapDone_unmapped (free : (s.unit u).mapping = none) (tag : Byte) : s.mapDone tag u =
    s.respond tag (.done (.unitMap [number u, 0])) := by
  simp only [State.mapDone, free]; rfl

/-! ### An entry set (R151, R155, R159) -/

/-- The entry mapped afresh, with its levels, before the crossings concerned are told. -/
def State.mapping (s : State) (u : UnitId) (m : Mapping) : State :=
  (((s.detachUnit u false).changeUnit u fun _ => (s.unit u).mapped m (s.detachUnit u false).clock.now).relevel u).raiseMapped u m
    (s.unit u).reportedState (some .joining)

theorem mapUnit_eq (s : State) (u : UnitId) (m : Mapping) :
    s.mapUnit u m = (s.mapping u m).reviewConcerned (s.unit u).crossing (some m.crossing) := rfl

theorem mapping_work (s : State) (u : UnitId) (m : Mapping) : MapWork u s (s.mapping u m) :=
  ((replaced_work s u false _).followed (relevel_steady _ u) rfl rfl).followed (raise_steady _ _) rfl rfl

theorem mapUnit_work (s : State) (u : UnitId) (m : Mapping) : MapWork u s (s.mapUnit u m) := by
  rw [mapUnit_eq]; exact (mapping_work s u m).reviewed _ _

/-- A unit's levels once computed are those of R155. -/
theorem relevel_levelled (s : State) (u : UnitId) : (s.relevel u).LevelledAt u := fun m mapped => by
  have unit : (s.relevel u).unit u = relevelUnit s.crossings s.clock.quiet (s.unit u) := changeUnit_unit s u _
  rw [unit] at mapped ⊢
  rw [relevelUnit_mapping] at mapped
  simp only [relevelUnit, mapped]
  exact ⟨rfl, rfl⟩

theorem mapUnit_levelled (s : State) (u : UnitId) (m : Mapping) : (s.mapUnit u m).LevelledAt u :=
  (reviewConcerned_demand _ _ _).levels u ((raise_demand _ _).levels u (relevel_levelled _ u))

/-- But for its levels the entry set is the fresh one. -/
theorem mapUnit_unit (s : State) (u : UnitId) (m : Mapping) :
    ({ (s.mapUnit u m).unit u with
      audible := { ((s.mapUnit u m).unit u).audible with locatorLevel := 0, walkLevel := 0 } } : KerbUnit) =
      (s.unit u).mapped m s.clock.now := by
  rw [mapUnit_eq, (reviewConcerned_unitsKept (s.mapping u m) _ _).unit u]
  have unit : (s.mapping u m).unit u = relevelUnit (s.detachUnit u false).crossings (s.detachUnit u false).clock.quiet
      ((s.unit u).mapped m (s.detachUnit u false).clock.now) := by
    unfold State.mapping State.raiseMapped State.relevel
    rw [raise_unit, changeUnit_unit, changeUnit_unit]; rfl
  rw [unit, relevelUnit_levels, show (s.detachUnit u false).clock = s.clock from (loseSample_steady s u false).clock]
  rfl

/-- The levels of the entry set are those of the fallback level (R155). -/
theorem mapUnit_levels (s : State) (u : UnitId) (m : Mapping) :
    ((s.mapUnit u m).unit u).audible.locatorLevel = locatorLevelOf (s.crossing m.crossing).record s.clock.quiet 65 ∧
    ((s.mapUnit u m).unit u).audible.walkLevel = walkLevelOf (s.crossing m.crossing).record
      ((s.mapUnit u m).crossing m.crossing).accessibleMark s.clock.quiet 65 := by
  have own := mapUnit_unit s u m
  have corridor := (mapUnit_work s u m).rest.corridor
  have record : ((s.mapUnit u m).crossing m.crossing).record = (s.crossing m.crossing).record := by
    unfold Crossing.record; rw [corridor.records]
  have base : ((s.mapUnit u m).unit u).audible.base = 65 := by
    unfold Audible.base
    rw [show ((s.mapUnit u m).unit u).audible.estimate = none from (congrArg (fun e => e.audible.estimate) own :)]
  have levels := mapUnit_levelled s u m m (congrArg KerbUnit.mapping own :)
  rwa [record, base, corridor.clock] at levels

theorem mapUnit_marks (s : State) (u : UnitId) (m : Mapping) : MarksStand s (s.mapUnit u m) := by
  have crossings : (s.mapping u m).crossings = s.crossings := by
    simp only [State.mapping, State.raiseMapped, State.relevel, raise_crossings, changeUnit_crossings, detachUnit_crossings]
  rw [mapUnit_eq]
  refine .trans (fun c green => ?_) (reviewConcerned_marks (s.mapping u m) _ _)
  rw [crossing_of_eq crossings]
  exact ⟨rfl, green⟩

/-! ### An entry cleared (R151) -/

/-- The entry cleared, before the crossing concerned is told. -/
def State.unmapping (s : State) (u : UnitId) (m : Mapping) : State :=
  ((s.detachUnit u true).changeUnit u fun _ => .initial none).raiseMapped u m (some (s.unit u).state) none

theorem unmapUnit_eq (s : State) (u : UnitId) (m : Mapping) :
    s.unmapUnit u m = (s.unmapping u m).reviewConcerned (some m.crossing) none := rfl

theorem unmapUnit_work (s : State) (u : UnitId) (m : Mapping) : MapWork u s (s.unmapUnit u m) := by
  rw [unmapUnit_eq]
  exact MapWork.reviewed ((replaced_work s u true _).followed (raise_steady _ _) rfl rfl) _ _

theorem unmapUnit_unit (s : State) (u : UnitId) (m : Mapping) : (s.unmapUnit u m).unit u = .initial none := by
  have entry : (s.unmapping u m).unit u = .initial none := changeUnit_unit _ u _
  rw [unmapUnit_eq, reviewConcerned_unmapped _ _ _ u (by rw [entry]; rfl), entry]

/-! ### The rows at their turn -/

theorem eq_row {i : Instr} (h : i = .unitMapSet ∨ i = .unitMapClear) : ∃ a : MapAction, i = a.row :=
  h.elim (fun e => ⟨.set, e⟩) fun e => ⟨.clear, e⟩

section Row

variable (turn : s.AtTurn fr rest)
include turn

theorem exec_unitMapSet_maps (own : isMap .set fr = true) (asks : readMapRequest fr.body = .set u m) :
    let w := (s.taking rest).mapUnit u m
    exec .unitMapSet s =
      .next (w.respond fr.tag (.done (.unitMap (number u :: 1 :: (w.unit u).entryItems m s.clock.now)))).transmit := by
  intro w
  have mapped : (w.unit u).mapping = some m := (congrArg KerbUnit.mapping (mapUnit_unit (s.taking rest) u m) :)
  have clock : w.clock = s.clock := (mapUnit_work (s.taking rest) u m).rest.corridor.clock
  refine (exec_map turn own).trans ?_
  rw [executeMap_set asks, ← clock]
  exact congrArg (fun t : State => Host.Outcome.next t.transmit) (mapDone_mapped mapped fr.tag)

theorem exec_unitMapClear_unmaps (own : isMap .clear fr = true) (asks : readMapRequest fr.body = .clear u)
    (mapped : (s.unit u).mapping = some m) : exec .unitMapClear s =
      .next (((s.taking rest).unmapUnit u m).respond fr.tag (.done (.unitMap [number u, 0]))).transmit := by
  refine (exec_map turn own).trans ?_
  rw [executeMap_clear (s := s.taking rest) asks mapped]
  exact congrArg (fun t : State => Host.Outcome.next t.transmit)
    (mapDone_unmapped (congrArg KerbUnit.mapping (unmapUnit_unit (s.taking rest) u m) :) fr.tag)

/-- A row whose body cannot be executed answers its refusal and does nothing else. -/
theorem exec_map_refuses {a : MapAction} {reason : RefusalReason} (own : isMap a fr = true)
    (refuses : executeMap fr (s.taking rest) = (s.taking rest).refuse fr.tag reason) :
    exec a.row s = .next (s.answering rest fr.tag (.refused reason)) := by
  rw [exec_map turn own, refuses]; rfl

end Row

/-- Settles O51: a SET with its fields in range, and then every other body by what it asks for. -/
theorem unitMapWriteSetsAndClearsEntries : Obligations.UnitMapWriteSetsAndClearsEntries := by
  unfold Obligations.UnitMapWriteSetsAndClearsEntries
  refine ⟨fun fr rest s ub cb sb members u c side l turn kind body few address crossing sides named nodup fresh => ?_,
    fun fr rest s turn kind => ⟨fun ub body unnamed => ?_, fun ub u body address free => ?_,
      fun ub u m body address mapped => ?_, fun ub cb sb members body few wrong => ?_,
      fun ub l body => ⟨fun wrong => ?_, fun long many => ?_⟩, fun ub l body long => ?_, fun i row => ⟨fun short => ?_,
        fun ub ab l body set clear => ?_⟩⟩⟩
  · let m : Mapping := { crossing := c, side := side, hearing := ascending l }
    have asks : readMapRequest fr.body = .set u m := by
      rw [body, readMapRequest_set]
      exact readMapSet_set few address crossing (readSide_eq_some sides) (readHearing_eq_some.2 ⟨named, nodup, fresh⟩)
    have e := exec_unitMapSet_maps turn (isMap_of_action kind body (.inl rfl)) asks
    obtain ⟨locator, walk⟩ := mapUnit_levels (s.taking rest) u m
    have marks := mapUnit_marks (s.taking rest) u m c
    have answer := (mapUnit_work (s.taking rest) u m).answered fr.tag
    have own := mapUnit_unit (s.taking rest) u m
    generalize (s.taking rest).mapUnit u m = w at e locator walk marks answer own
    obtain ⟨answered, void, links, counters, corridor, requests⟩ :=
      answer (.done (.unitMap (number u :: 1 :: (w.unit u).entryItems m s.clock.now)))
    obtain ⟨mapping, state, misses, goods, press, extended, heldNow, heldTime, stuck, fault, -, next, -, sounding, action, last,
      audible⟩ := KerbUnit.mk.inj own
    obtain ⟨estimate, -, -, due, sample, mutes, -⟩ := Audible.mk.inj audible
    exact ⟨_, e, ⟨m, mapping, rfl, rfl, mem_ascending, ascending_pairwise l, answered⟩, state, misses, goods, press, extended,
      heldNow, heldTime, stuck, fault, next, sounding, action, last, estimate, sample, mutes, due, locator, walk,
      fun green => ⟨(marks green).1, walk.trans (by rw [show (w.crossing m.crossing).accessibleMark = _ from (marks green).1]; rfl)⟩,
      void, links, counters, corridor, requests⟩
  · have asks : readMapRequest fr.body = .outOfRange := by rw [body, readMapRequest_clear, unnamed]
    exact exec_map_refuses (a := .clear) turn (isMap_of_action kind body (.inl rfl)) (executeMap_outOfRange asks _)
  · have asks : readMapRequest fr.body = .clear u := by rw [body, readMapRequest_clear, address]
    exact exec_map_refuses (a := .clear) turn (isMap_of_action kind body (.inl rfl)) (executeMap_noSuchUnit asks free)
  · have asks : readMapRequest fr.body = .clear u := by rw [body, readMapRequest_clear, address]
    obtain ⟨answered, void, links, counters, corridor, requests⟩ :=
      (unmapUnit_work (s.taking rest) u m).answered fr.tag (.done (.unitMap [number u, 0]))
    exact ⟨_, exec_unitMapClear_unmaps turn (isMap_of_action kind body (.inl rfl)) asks mapped, unmapUnit_unit _ u m, answered,
      void, links, counters, corridor, requests⟩
  · have asks : readMapRequest fr.body = .outOfRange := by
      rw [body, readMapRequest_set, readMapSet_outOfRange few wrong]
    exact exec_map_refuses (a := .set) turn (isMap_of_action kind body (.inl rfl)) (executeMap_outOfRange asks _)
  · have asks : readMapRequest fr.body = .badLength := by
      rw [body, readMapRequest_set]
      rcases wrong with short | ⟨few, miscounted⟩
      · exact readMapSet_short ub short
      · match l with
        | [] | [_] | [_, _] => exact readMapSet_short ub (by simp)
        | cb :: sb :: nb :: members => exact readMapSet_miscounted few fun e => miscounted (by simp [e]; omega)
    exact exec_map_refuses (a := .set) turn (isMap_of_action kind body (.inl rfl)) (executeMap_badLength asks _)
  · have asks : readMapRequest fr.body = .outOfRange := by
      rw [body, readMapRequest_set]
      match l with
      | [] | [_] | [_, _] => simp at long
      | cb :: sb :: nb :: members => exact readMapSet_overfull many
    exact exec_map_refuses (a := .set) turn (isMap_of_action kind body (.inl rfl)) (executeMap_outOfRange asks _)
  · have asks : readMapRequest fr.body = .badLength := by rw [body, readMapRequest_longClear ub long]
    exact exec_map_refuses (a := .clear) turn (isMap_of_action kind body (.inl rfl)) (executeMap_badLength asks _)
  · obtain ⟨a, rfl⟩ := eq_row row
    exact exec_map_refuses turn (isMap_of_short kind short) (executeMap_badLength (readMapRequest_short short) _)
  · obtain ⟨a, rfl⟩ := eq_row row
    have asks : readMapRequest fr.body = .outOfRange := by rw [body, readMapRequest_noAction ub l set clear]
    exact exec_map_refuses turn (isMap_of_action kind body (.inr (readMapAction_eq_none set clear))) (executeMap_outOfRange asks _)

end Sys2Proof.Machine
end

section
/-!
What leaves a unit's tones as they were (O57): the estimate its levels are computed from, and the levels. `TonesStand s t`
says it of every unit, with the crossings and the quiet flag. One lemma for each shared operation of the audible level block,
the kerb link, the plan store and the host port.
-/

namespace Sys2Proof.Machine

/-- A unit's estimate and the levels computed from it (R155). -/
def KerbUnit.tone (k : KerbUnit) : KerbUnit :=
  { KerbUnit.initial k.mapping with
    audible := { Audible.initial with
      estimate := k.audible.estimate, stale := k.audible.stale
      locatorLevel := k.audible.locatorLevel, walkLevel := k.audible.walkLevel } }

/-- Every unit keeps its tone, and the crossings and the quiet flag are as they were. -/
structure TonesStand (s t : State) : Prop where
  tone : ∀ u, (t.unit u).tone = (s.unit u).tone
  crossings : t.crossings = s.crossings
  quiet : t.clock.quiet = s.clock.quiet

variable {s t w : State}

namespace TonesStand

theorem refl (s : State) : TonesStand s s := ⟨fun _ => rfl, rfl, rfl⟩

theorem trans (h : TonesStand s t) (k : TonesStand t w) : TonesStand s w :=
  ⟨fun u => (k.tone u).trans (h.tone u), k.crossings.trans h.crossings, k.quiet.trans h.quiet⟩

theorem after (k : TonesStand t w) (h : TonesStand s t) : TonesStand s w := h.trans k

theorem foldl {α : Type} {f : State → α → State} (l : List α) (s : State) (h : ∀ s a, TonesStand s (f s a)) :
    TonesStand s (l.foldl f s) := foldl_related l s refl trans h

/-- Work that leaves the units, the crossings and the quiet flag. -/
theorem same (units : t.units = s.units) (crossings : t.crossings = s.crossings) (quiet : t.clock.quiet = s.clock.quiet) :
    TonesStand s t := ⟨fun u => by rw [unit_of_eq units], crossings, quiet⟩

end TonesStand

variable (s)

/-! ### Units -/

theorem changeUnit_tones (u : UnitId) {f : KerbUnit → KerbUnit} (h : ∀ k, (f k).tone = k.tone) :
    TonesStand s (s.changeUnit u f) := by
  refine ⟨fun v => ?_, rfl, rfl⟩
  rw [changeUnit_get]; split
  · exact h _
  · rfl

theorem rewriteUnits_tones {f : UnitId → KerbUnit → KerbUnit} (h : ∀ u k, (f u k).tone = k.tone) :
    TonesStand s { s with units := rewrite s.units f } :=
  ⟨fun u => (congrArg KerbUnit.tone (rewrite_get s.units f u)).trans (h u _), rfl, rfl⟩

theorem raise_tones (n : NoticeBody) : TonesStand s (s.raise n) := .same rfl rfl rfl

theorem countUnit_tones (u : UnitId) (f : UnitCounters → UnitCounters) : TonesStand s (s.countUnit u f) :=
  .same rfl rfl rfl

theorem respond_tones (tag : Byte) (r : ReplyContent) : TonesStand s (s.respond tag r) := .same rfl rfl rfl

theorem transmit_tones : TonesStand s s.transmit := .same rfl rfl rfl

/-! ### Samples and mutes (R160 to R166) -/

theorem request_tones (u : UnitId) (a : SampleAction) : TonesStand s (s.request u a) :=
  .after (t := s.changeUnit u fun k => { k with pendingAction := some a }) (.same rfl rfl rfl)
    (changeUnit_tones s u fun _ => rfl)

theorem liftMutes_tones (u : UnitId) : TonesStand s (s.liftMutes u) := rewriteUnits_tones s fun _ _ => rfl

theorem endSample_tones (u : UnitId) (r : SampleReport) : TonesStand s (s.endSample u r) :=
  .after (changeUnit_tones _ u fun _ => rfl) (liftMutes_tones s u)

theorem loseSample_tones (u : UnitId) (cancel : Bool) : TonesStand s (s.loseSample u cancel) := by
  unfold State.loseSample; split
  · exact .refl s
  · split
    · exact .after (request_tones _ u _) (endSample_tones s u _)
    · exact endSample_tones s u _

theorem abandonSample_tones (u : UnitId) : TonesStand s (s.abandonSample u) :=
  .after (countUnit_tones _ u _) (.after (request_tones _ u _) (endSample_tones s u _))

theorem closeSampleEarly_tones (u : UnitId) (start : Time) : TonesStand s (s.closeSampleEarly u start) :=
  .after (request_tones _ u _) (.after (changeUnit_tones _ u fun _ => rfl) (liftMutes_tones s u))

theorem closeSample_tones (u : UnitId) : TonesStand s (s.closeSample u) := by
  unfold State.closeSample; split
  · split
    · exact .after (changeUnit_tones _ u fun _ => rfl) (liftMutes_tones s u)
    · exact .refl s
  · exact .refl s

theorem onsetAt_tones (v u : UnitId) : TonesStand s (s.onsetAt v u) := by
  unfold State.onsetAt; split
  · exact .refl s
  · split
    · split
      · exact abandonSample_tones s u
      · split
        · exact abandonSample_tones s u
        · exact closeSampleEarly_tones s u _
      · exact .refl s
    · exact .refl s

theorem soundUnit_tones (c : CrossingId) (u : UnitId) : TonesStand s (s.soundUnit c u) := by
  unfold State.soundUnit; dsimp only; split
  · split
    · exact .same rfl rfl rfl
    · exact .after (.foldl _ _ fun w v => onsetAt_tones w u v) <| .after (changeUnit_tones _ u fun _ => rfl)
        (.same rfl rfl rfl)
  · exact .refl s

theorem soundCrossing_tones (c : CrossingId) : TonesStand s (s.soundCrossing c) :=
  .foldl _ s fun s u => soundUnit_tones s c u

theorem grant_tones (u : UnitId) : TonesStand s (s.grant u) := by
  unfold State.grant
  exact .after (request_tones _ u _) <| .after (changeUnit_tones _ u fun _ => rfl)
    (rewriteUnits_tones s fun _ _ => by split <;> rfl)

theorem grantSamples_tones : TonesStand s s.grantSamples := by
  unfold State.grantSamples; split
  · refine .foldl _ s fun s u => ?_
    unfold State.considerGrant; split
    · exact grant_tones s u
    · exact .refl s
  · exact .refl s

/-! ### The kerb link (R136 to R147) -/

theorem good_tone (k : KerbUnit) : k.good.tone = k.tone := by unfold KerbUnit.good; split <;> rfl

theorem miss_tone (k : KerbUnit) (now : Time) : (k.miss now).tone = k.tone := by
  unfold KerbUnit.miss; split
  · split <;> rfl
  · rfl
  · split <;> rfl
  · unfold KerbUnit.reviveLater; split <;> rfl

theorem poll_tones : TonesStand s s.poll := by
  unfold State.poll; split
  · exact .refl s
  · split
    · exact .same rfl rfl rfl
    · rename_i u _
      split
      · exact .refl s
      · rename_i c _
        exact .trans (t := s.changeUnit u fun k => { k with lastCommand := some (s.buildCommand u c), revivalDue := false })
          (changeUnit_tones s u fun _ => rfl) (.same rfl rfl rfl)

theorem lateBytes_tones : TonesStand s s.lateBytes := by
  unfold State.lateBytes; split
  · exact .same rfl rfl rfl
  · exact .refl s

theorem endTransaction_tones (e : Option UnitId) : TonesStand s (s.endTransaction e) := .same rfl rfl rfl

theorem reportUnit_tones (u : UnitId) (m : Mapping) (before : UnitState) (cause : UnitCause) :
    TonesStand s (s.reportUnit u m before cause) := by
  unfold State.reportUnit; dsimp only; split
  · exact .refl s
  · split
    · exact .after (loseSample_tones _ u _) (raise_tones s _)
    · exact raise_tones s _

theorem missed_tones (u : UnitId) (m : Mapping) (bad : Bool) : TonesStand s (s.missed u m bad) :=
  .after (reportUnit_tones _ u m _ _) <| .after (changeUnit_tones _ u fun k => miss_tone k _) (countUnit_tones s u _)

theorem judgeStuck_tones (u : UnitId) (m : Mapping) (r : KerbReply) : TonesStand s (s.judgeStuck u m r) := by
  unfold State.judgeStuck; dsimp only; split
  · exact changeUnit_tones s u fun _ => rfl
  · exact .after (raise_tones _ _) <| .after (countUnit_tones _ u _) (changeUnit_tones s u fun _ => rfl)

theorem judgeAudio_tones (u : UnitId) (m : Mapping) (r : KerbReply) : TonesStand s (s.judgeAudio u m r) := by
  unfold State.judgeAudio; split
  · exact .refl s
  · exact .after (raise_tones _ _) (changeUnit_tones s u fun _ => rfl)

theorem delivered_tones (u : UnitId) (a : SampleAction) : TonesStand s (s.delivered u a) := by
  unfold State.delivered; split
  · exact changeUnit_tones s u fun _ => rfl
  · exact .refl s

theorem deliver_tones (u : UnitId) : TonesStand s (s.deliver u) := by
  unfold State.deliver; split
  · split
    · split
      · exact .after (delivered_tones _ u _) (changeUnit_tones s u fun _ => rfl)
      · exact .refl s
    · exact .refl s
  · exact .refl s

theorem raiseStale_tones (u : UnitId) (stale : Bool) : TonesStand s (s.raiseStale u stale) := by
  unfold State.raiseStale; dsimp only; split
  · exact raise_tones s _
  · exact .refl s

theorem reviveUnit_tones (u : UnitId) : TonesStand s (s.reviveUnit u) := by
  unfold State.reviveUnit; dsimp only; split
  · split
    · exact changeUnit_tones s u fun _ => rfl
    · exact .refl s
  · exact .refl s

theorem detachUnit_tones (u : UnitId) (cleared : Bool) : TonesStand s (s.detachUnit u cleared) :=
  .trans (t := (s.loseSample u false).leaveMuted u)
    (.after (rewriteUnits_tones _ fun _ _ => rfl) (loseSample_tones s u false)) (.same rfl rfl rfl)

/-! ### The plan store and the host port -/

theorem nextRecord_tones (x : WriteRun) (slot : Nat) : TonesStand s (s.nextRecord x slot) := by
  unfold State.nextRecord; split
  · exact .same rfl rfl rfl
  · split <;> exact .same rfl rfl rfl

theorem slotWriteDone_tones : TonesStand s s.slotWriteDone := by
  unfold State.slotWriteDone; split
  · exact .refl s
  · exact .after (nextRecord_tones _ _ _) (.same rfl rfl rfl)

theorem executePlanWrite_tones (fr : Frame) : TonesStand s (executePlanWrite fr s) := by
  unfold executePlanWrite; split
  · split
    · exact respond_tones s _ _
    · split
      · exact respond_tones s _ _
      · split
        · exact respond_tones s _ _
        · split
          · exact respond_tones s _ _
          · exact nextRecord_tones s _ _
  · exact respond_tones s _ _

theorem executePlanSelect_tones (fr : Frame) : TonesStand s (executePlanSelect fr s) := by
  unfold executePlanSelect State.select
  repeat' split
  all_goals exact .same rfl rfl rfl

theorem executePlanRead_tones (fr : Frame) : TonesStand s (executePlanRead fr s) := by
  unfold executePlanRead
  repeat' split
  all_goals exact .same rfl rfl rfl

theorem executeStatus_tones (fr : Frame) : TonesStand s (executeStatus fr s) := by
  unfold executeStatus; split <;> exact .same rfl rfl rfl

theorem executeCrossingStatus_tones (fr : Frame) : TonesStand s (executeCrossingStatus fr s) := by
  unfold executeCrossingStatus
  repeat' split
  all_goals exact .same rfl rfl rfl

theorem executeUnitStatus_tones (fr : Frame) : TonesStand s (executeUnitStatus fr s) := by
  unfold executeUnitStatus
  repeat' split
  all_goals exact .same rfl rfl rfl

theorem executeCounters_tones (fr : Frame) : TonesStand s (executeCounters fr s) := by
  unfold executeCounters State.readCounters
  repeat' split
  all_goals exact .same rfl rfl rfl

theorem executeFilterWrite_tones (fr : Frame) : TonesStand s (executeFilterWrite fr s) := by
  unfold executeFilterWrite; dsimp only
  repeat' split
  all_goals exact .same rfl rfl rfl

theorem executeRestart_tones (fr : Frame) : TonesStand s (executeRestart fr s) := by
  unfold executeRestart; split <;> exact .same rfl rfl rfl

theorem abandonFrame_tones : TonesStand s s.abandonFrame := by
  unfold State.abandonFrame; split <;> exact .same rfl rfl rfl

theorem receiveFrame_tones (bytes : List Byte) : TonesStand s (s.receiveFrame bytes) := by
  unfold State.receiveFrame State.enqueue
  repeat' split
  all_goals exact .same rfl rfl rfl

theorem endTransmission_tones : TonesStand s s.endTransmission := by
  unfold State.endTransmission; split <;> exact .same rfl rfl rfl

end Sys2Proof.Machine
end

section
/-!
The levels of every unit under every step (O57): the law stands where tones and crossings stand, a computation of the levels
brings it back, and every command is made of such work.
-/

namespace Sys2Proof.Machine

variable {s t : State} {c : CrossingId} {u : UnitId} {m : Mapping}

/-! ### The law of the levels (R155, R157) -/

/-- The law, unit by unit. -/
theorem levelLaw_iff : s.LevelLaw ↔ ∀ u, s.LevelledAt u := by
  refine forall_congr' fun u => ?_
  cases mapped : (s.unit u).mapping with
  | none => exact iff_of_true (by simp only [relevelUnit, mapped]) fun m e => by rw [mapped] at e; cases e
  | some m =>
    have relevelled : relevelUnit s.crossings s.clock.quiet (s.unit u) = { s.unit u with
        audible := (s.unit u).audible.relevel (s.crossing m.crossing).record (s.crossing m.crossing).accessibleMark
          s.clock.quiet } := by simp only [relevelUnit, mapped]; rfl
    rw [relevelled]
    refine ⟨fun own m' e => ?_, fun levels => ?_⟩
    · obtain rfl := Option.some.inj (mapped.symm.trans e)
      exact ⟨(congrArg (·.audible.locatorLevel) own).symm, (congrArg (·.audible.walkLevel) own).symm⟩
    · obtain ⟨locator, walk⟩ := levels m mapped
      rw [Audible.relevel, ← locator, ← walk]

theorem base_of_tone {k k' : KerbUnit} (h : k'.tone = k.tone) : k'.audible.base = k.audible.base := by
  have estimate : k'.audible.estimate = k.audible.estimate := (congrArg (·.audible.estimate) h :)
  have stale : k'.audible.stale = k.audible.stale := (congrArg (·.audible.stale) h :)
  unfold Audible.base
  rw [estimate, stale]

/-- Levels once computed do not change by being computed again. -/
theorem relevelUnit_relevelUnit (crossings : Vector Crossing 8) (quiet : Bool) (k : KerbUnit) :
    relevelUnit crossings quiet (relevelUnit crossings quiet k) = relevelUnit crossings quiet k := by
  unfold relevelUnit
  cases mapped : k.mapping with
  | none => simp only [mapped]
  | some m => rfl

theorem relevelAll_levelLaw (s : State) : s.relevelAll.LevelLaw := fun u => by
  have unit : s.relevelAll.unit u = relevelUnit s.crossings s.clock.quiet (s.unit u) := rewrite_get _ _ _
  rw [unit]
  exact relevelUnit_relevelUnit _ _ _

/-- The levels of a unit are computed once its entry has changed. -/
theorem relevel_changed (law : s.LevelLaw) (u : UnitId) (f : KerbUnit → KerbUnit) : ((s.changeUnit u f).relevel u).LevelLaw := by
  refine levelLaw_iff.2 fun v => ?_
  by_cases e : v = u
  · rw [e]; exact relevel_levelled _ u
  · have unit : ((s.changeUnit u f).relevel u).unit v = s.unit v :=
      (changeUnit_other _ _ (Ne.symm e)).trans (changeUnit_other s _ (Ne.symm e))
    intro m mapped
    rw [unit] at mapped ⊢
    exact levelLaw_iff.1 law v m mapped

/-- An entry that is no longer mapped has no levels to follow. -/
theorem cleared_levelLaw (law : s.LevelLaw) (u : UnitId) : (s.changeUnit u fun _ => .initial none).LevelLaw := fun v => by
  rw [changeUnit_get]; split
  · rfl
  · exact law v

theorem TonesStand.levelLaw (k : TonesStand s t) (law : s.LevelLaw) : t.LevelLaw := by
  refine levelLaw_iff.2 fun u m mapped => ?_
  have tone := k.tone u
  have mapping : (t.unit u).mapping = (s.unit u).mapping := (congrArg KerbUnit.mapping tone :)
  have locator : (t.unit u).audible.locatorLevel = (s.unit u).audible.locatorLevel := (congrArg (·.audible.locatorLevel) tone :)
  have walk : (t.unit u).audible.walkLevel = (s.unit u).audible.walkLevel := (congrArg (·.audible.walkLevel) tone :)
  rw [locator, walk, base_of_tone tone, crossing_of_eq k.crossings, k.quiet]
  exact levelLaw_iff.1 law u m (mapping ▸ mapped)

/-- Admission and demand compute the levels of a crossing's units with its mark (R156, R157). -/
theorem DemandWork.levelLaw (k : DemandWork s t) (law : s.LevelLaw) : t.LevelLaw :=
  levelLaw_iff.2 fun u => k.levels u (levelLaw_iff.1 law u)

namespace State.LevelLaw

/-! ### Crossings and calls -/

theorem raise (law : s.LevelLaw) (n : NoticeBody) : (s.raise n).LevelLaw := (raise_tones s n).levelLaw law

theorem withCalls (law : s.LevelLaw) (l : List CallRecord) : ({ s with calls := l } : State).LevelLaw := law

theorem withDue (law : s.LevelLaw) (l : List Due) : ({ s with due := l } : State).LevelLaw := law

theorem withHost (law : s.LevelLaw) (p : HostPort) : ({ s with host := p } : State).LevelLaw := law

theorem respond (law : s.LevelLaw) (tag : Byte) (r : ReplyContent) : (s.respond tag r).LevelLaw := law

/-- A controller changed but for its record and its mark. -/
theorem changeCrossing (law : s.LevelLaw) (c : CrossingId) {f : Crossing → Crossing}
    (h : ∀ x, (f x).record = x.record ∧ (f x).accessibleMark = x.accessibleMark) : (s.changeCrossing c f).LevelLaw :=
  (changeCrossing_demand s c h).levelLaw law

theorem testFailRecall (law : s.LevelLaw) (c : CrossingId) : (s.testFailRecall c).LevelLaw :=
  (testFailRecall_demand s c).levelLaw law

theorem evaluateAll (law : s.LevelLaw) : s.evaluateAll.LevelLaw :=
  foldl_keeps allCrossings s law fun s c => (evaluate_demand s c).levelLaw

theorem evaluateGroup (law : s.LevelLaw) (g : GroupId) : (s.evaluateGroup g).LevelLaw :=
  foldl_keeps _ s law fun s c => (groupTurn_demand s g c).levelLaw

theorem evaluateAfterEnd (law : s.LevelLaw) (g : Option GroupId) : (s.evaluateAfterEnd g).LevelLaw := by
  cases g with
  | none => exact law
  | some g => exact law.evaluateGroup g

theorem reviewWorking (law : s.LevelLaw) (c : CrossingId) : (s.reviewWorking c).LevelLaw :=
  (reviewWorking_demand s c).levelLaw law

/-! ### Changes of crossing state (chapter 6) -/

theorem reportState (law : s.LevelLaw) (c : CrossingId) (cause : Cause) : (s.reportState c cause).LevelLaw := law.raise _

theorem loseService (law : s.LevelLaw) (c : CrossingId) : (s.loseService c).LevelLaw :=
  changeCrossing ((removeCall_demand s c _).levelLaw law) c fun _ => ⟨rfl, rfl⟩

theorem enterStartup (law : s.LevelLaw) (c : CrossingId) (cause : Cause) : (s.enterStartup c cause).LevelLaw :=
  testFailRecall (reportState (changeCrossing law c (f := Crossing.startingUp) fun _ => ⟨rfl, rfl⟩) c cause) c

theorem enterUntimed (law : s.LevelLaw) (c : CrossingId) (st : CrossingState) (cause : Cause) :
    (s.enterUntimed c st cause).LevelLaw := by
  have entered : (s.changeCrossing c fun x => { x.enter st none with pendingChange := none }).LevelLaw :=
    law.changeCrossing c fun _ => ⟨rfl, rfl⟩
  unfold State.enterUntimed; dsimp only; split
  · exact (entered.loseService c).reportState c cause
  · exact entered.reportState c cause

theorem enterUnconfigured (law : s.LevelLaw) (c : CrossingId) (cause : Cause) : (s.enterUnconfigured c cause).LevelLaw := by
  have entered := law.enterUntimed c .unconfigured cause
  unfold State.enterUnconfigured; dsimp only; split
  · exact entered.enterStartup c cause
  · exact entered

/-- The mark goes with the stage, and the levels follow it (R114, R156). -/
theorem discardStage (law : s.LevelLaw) (c : CrossingId) : (s.discardStage c).LevelLaw :=
  (markAccessible_demand _ c _).levelLaw (changeCrossing law c fun _ => ⟨rfl, rfl⟩)

theorem uncount (law : s.LevelLaw) (g : Option GroupId) : (s.uncount g).LevelLaw := by
  cases g with
  | none => exact law
  | some g => exact (changeGroup_demand s g _).levelLaw law

theorem enterFaultFlash (law : s.LevelLaw) (c : CrossingId) (cause : Cause) : (s.enterFaultFlash c cause).LevelLaw := by
  rw [enterFaultFlash_eq]
  refine evaluateAfterEnd (reportState (changeCrossing (loseService (uncount (discardStage law c) _) c) c ?_) c cause) _
  exact fun _ => ⟨rfl, rfl⟩

theorem enterTarget (law : s.LevelLaw) (c : CrossingId) (tg : Target) (cause : Cause) : (s.enterTarget c tg cause).LevelLaw := by
  cases tg with
  | cmdFlash => exact law.enterUntimed c _ cause
  | unconfigured => exact law.enterUnconfigured c cause
  | faultFlash => exact law.enterFaultFlash c cause
  | dark => exact law.enterUntimed c _ cause

theorem setPending (law : s.LevelLaw) (c : CrossingId) (tg : Target) (cause : Cause) : (s.setPending c tg cause).LevelLaw := by
  have set : (s.changeCrossing c fun x => { x with pendingChange := some { target := tg, cause := cause } }).LevelLaw :=
    law.changeCrossing c fun _ => ⟨rfl, rfl⟩
  have held : ((if (s.crossing c).inService then
      (s.changeCrossing c fun x => { x with pendingChange := some { target := tg, cause := cause } }).loseService c
      else s.changeCrossing c fun x => { x with pendingChange := some { target := tg, cause := cause } }).reportState c
        cause).LevelLaw := by
    split
    · exact (set.loseService c).reportState c cause
    · exact set.reportState c cause
  unfold State.setPending; dsimp only; split
  · split
    · exact reportState (changeCrossing held c (f := Crossing.beginClosing) fun _ => ⟨rfl, rfl⟩) c cause
    · exact held
  · exact law

theorem changeService (law : s.LevelLaw) (c : CrossingId) (tg : Target) (cause : Cause) :
    (s.changeService c tg cause).LevelLaw := by
  rcases changeService_cases s c tg cause with e | e | e <;> rw [e]
  · exact law.enterTarget c tg cause
  · exact law.setPending c tg cause
  · exact law

theorem faultEvent (law : s.LevelLaw) (c : CrossingId) (lamp : Lamp) (cls : FaultClass) :
    (s.faultEvent c lamp cls).LevelLaw := by
  have joined : (s.changeCrossing c fun x => { x with faults := x.faults.insert cls }).LevelLaw :=
    law.changeCrossing c fun _ => ⟨rfl, rfl⟩
  have acted : ((s.changeCrossing c fun x => { x with faults := x.faults.insert cls }).actOnFault c cls).LevelLaw := by
    rcases actOnFault_cases (s.changeCrossing c fun x => { x with faults := x.faults.insert cls }) c cls with
      e | e | e | e <;> rw [e]
    · exact joined
    · exact joined.enterFaultFlash c _
    · exact joined.changeService c _ _
    · exact joined.enterUntimed c _ _
  rw [faultEvent_eq]; split
  · exact raise ((countCrossing_demand _ c _).levelLaw acted) _
  · exact acted

theorem restoreCrossing (law : s.LevelLaw) (c : CrossingId) : (s.restoreCrossing c).LevelLaw := by
  have cleared : (s.changeCrossing c fun x => { x with faults := {}, recallTimer := none }).LevelLaw :=
    law.changeCrossing c fun _ => ⟨rfl, rfl⟩
  unfold State.restoreCrossing; dsimp only; split
  · exact cleared.enterStartup c _
  · exact cleared.enterUntimed c _ _

/-! ### The crossing sequence -/

theorem placeLink (law : s.LevelLaw) (c : CrossingId) (k : Stage) : (s.placeLink c k).LevelLaw := by
  unfold State.placeLink; split
  · exact law
  · split
    · exact law
    · split
      · exact law
      · split
        · exact (countCrossing_demand _ c _).levelLaw ((offer_demand s _ _).levelLaw law)
        · exact (countCrossing_demand s c _).levelLaw law

theorem beginWalk (law : s.LevelLaw) (c : CrossingId) (k : Stage) : (s.beginWalk c k).LevelLaw := by
  have walking : ((s.changeCrossing c fun x => x.enter .walk (some k.walk)).placeLink c k).LevelLaw :=
    placeLink (changeCrossing law c (f := fun x => x.enter .walk (some k.walk)) fun _ => ⟨rfl, rfl⟩) c k
  unfold State.beginWalk
  exact (soundCrossing_tones _ c).levelLaw ((countCrossing_demand _ c _).levelLaw (raise walking _))

theorem startRecall (law : s.LevelLaw) (c : CrossingId) (now : Time) : (s.changeCrossing c fun x => x.startRecall now).LevelLaw :=
  law.changeCrossing c fun x => by obtain ⟨n, e⟩ := startRecall_eq x now; rw [e]; exact ⟨rfl, rfl⟩

theorem enterGreen (law : s.LevelLaw) (c : CrossingId) : (s.enterGreen c).LevelLaw :=
  testFailRecall (changeCrossing law c (f := Crossing.enterGreen) fun _ => ⟨rfl, rfl⟩) c

theorem endStage (law : s.LevelLaw) (c : CrossingId) (k : Stage) : (s.endStage c k).LevelLaw := by
  have ended := (((law.discardStage c).uncount k.group).startRecall c ((s.discardStage c).uncount k.group).clock.now).raise
    (.stageEnd c k.walk k.clearance k.upgraded (saturate (k.elapsed ((s.discardStage c).uncount k.group).clock.now)))
  unfold State.endStage
  refine evaluateAfterEnd ?_ _
  split
  · exact ended.enterGreen c
  · exact ended.enterTarget c _ _

theorem completeStartup (law : s.LevelLaw) (c : CrossingId) : (s.completeStartup c).LevelLaw := by
  have green : (s.changeCrossing c fun x => x.enterGreen.startRecall s.clock.now).LevelLaw :=
    law.changeCrossing c fun x => by obtain ⟨n, e⟩ := startRecall_eq x.enterGreen s.clock.now; rw [e]; exact ⟨rfl, rfl⟩
  exact (green.reportState c _).testFailRecall c

theorem endClosing (law : s.LevelLaw) (c : CrossingId) : (s.endClosing c).LevelLaw := by
  unfold State.endClosing; split
  · exact law.enterTarget c _ _
  · exact law

theorem follow (law : s.LevelLaw) (c : CrossingId) (st : CrossingState) (n : Nat) : (s.follow c st n).LevelLaw :=
  testFailRecall (changeCrossing law c (f := fun x => x.enter st (some n)) fun _ => ⟨rfl, rfl⟩) c

theorem endInterval (law : s.LevelLaw) (c : CrossingId) : (s.endInterval c).LevelLaw := by
  unfold State.endInterval; dsimp only; split
  · split
    case h_1 => exact law.follow c _ _
    case h_2 => exact law.completeStartup c
    case h_3 =>
      split
      · exact law.endClosing c
      · split
        · exact law.follow c _ _
        · exact law
    case h_4 =>
      split
      · exact law.beginWalk c _
      · exact law
    case h_5 | h_6 =>
      split
      · exact law.follow c _ _
      · exact law
    case h_7 =>
      split
      · exact law.endStage c _
      · exact law
    all_goals exact law
  · exact law

/-! ### Timers -/

theorem expireGreen (law : s.LevelLaw) (c : CrossingId) : (s.expireGreen c).LevelLaw := by
  unfold State.expireGreen; split
  · exact (evaluate_demand _ c).levelLaw (changeCrossing law c fun _ => ⟨rfl, rfl⟩)
  · exact law

theorem expireRecall (law : s.LevelLaw) (c : CrossingId) : (s.expireRecall c).LevelLaw := by
  unfold State.expireRecall; split
  · split
    · exact (offer_demand _ c _).levelLaw (changeCrossing law c fun _ => ⟨rfl, rfl⟩)
    · exact law
  · exact law

theorem arriveNotBefore (law : s.LevelLaw) (c : CrossingId) : (s.arriveNotBefore c).LevelLaw := by
  unfold State.arriveNotBefore; split
  · split
    · exact (evaluate_demand _ c).levelLaw (withCalls law _)
    · exact law
  · exact law

theorem changeFlashHalf (law : s.LevelLaw) (c : CrossingId) : (s.changeFlashHalf c).LevelLaw := by
  unfold State.changeFlashHalf; split
  · exact law.changeCrossing c fun _ => ⟨rfl, rfl⟩
  · exact law

theorem expireSpacing (law : s.LevelLaw) (g : GroupId) : (s.expireSpacing g).LevelLaw := by
  unfold State.expireSpacing; split
  · split
    · exact evaluateGroup ((changeGroup_demand s g _).levelLaw law) g
    · exact law
  · exact law

theorem closePairing (law : s.LevelLaw) (g : GroupId) : (s.closePairing g).LevelLaw := by
  unfold State.closePairing; split
  · split
    · exact evaluateGroup ((changeGroup_demand s g _).levelLaw law) g
    · exact law
  · exact law

theorem bandEndEvent (law : s.LevelLaw) (c : CrossingId) : (s.bandEndEvent c).LevelLaw := by
  unfold State.bandEndEvent; split
  · exact (evaluate_demand s c).levelLaw law
  · exact law

/-! ### The corridor clock (chapter 1) -/

/-- The clock's times, mode and counts; the quiet flag stands. -/
theorem withClock (law : s.LevelLaw) {k : Clock} (quiet : k.quiet = s.clock.quiet) : ({ s with clock := k } : State).LevelLaw :=
  (TonesStand.same (s := s) (t := { s with clock := k }) rfl rfl quiet).levelLaw law

/-- A change of the quiet flag computes every unit's levels (R20, R157). -/
theorem reviewQuiet (law : s.LevelLaw) : s.reviewQuiet.LevelLaw := by
  unfold State.reviewQuiet; dsimp only; split
  · exact law
  · exact relevelAll_levelLaw _

theorem advanceSecond (law : s.LevelLaw) : s.advanceSecond.LevelLaw := by
  unfold State.advanceSecond; split
  · dsimp only; split
    · exact law.withClock rfl
    · exact reviewQuiet (withClock law rfl)
  · exact law

theorem expireWatchdog (law : s.LevelLaw) : s.expireWatchdog.LevelLaw := by
  have dropped : (s.dropToFree .watchdog).LevelLaw := (TonesStand.same (s := s) rfl rfl rfl).levelLaw law
  unfold State.expireWatchdog; split
  · exact dropped.evaluateAll
  · exact law

/-- An adoption computes every unit's levels as its last work (R41, R157). -/
theorem planBoundary (law : s.LevelLaw) : s.planBoundary.2.LevelLaw := by
  unfold State.planBoundary; split
  · exact law
  · split
    · exact law
    · dsimp only; split
      · exact relevelAll_levelLaw _
      · split
        · exact relevelAll_levelLaw _
        · exact (TonesStand.same (s := s) rfl rfl rfl).levelLaw law

theorem clockBoundary (law : s.LevelLaw) (o : PlanOutcome) : (s.clockBoundary o).2.LevelLaw := by
  unfold State.clockBoundary; split
  · unfold State.correct; dsimp only; split
    · refine law.withClock ?_
      unfold Clock.countZeroStep
      repeat' split
      all_goals rfl
    · exact (TonesStand.same (s := s) rfl rfl rfl).levelLaw law
  · exact law

theorem boundary (law : s.LevelLaw) : s.boundary.LevelLaw := by
  have reviewed (before : Vector Group 4) (s : State) (g : GroupId) (law : s.LevelLaw) : (s.reviewGroup before g).LevelLaw := by
    unfold State.reviewGroup; split
    · exact law
    · exact law.evaluateGroup g
  have planned : s.unheld.planBoundary.2.LevelLaw := (law.withClock (k := s.unheld.clock) rfl).planBoundary
  have stepped := planned.clockBoundary s.unheld.planBoundary.1
  rw [boundary_eq]
  have due (b : Bool) : ((s.unheld.planBoundary.2.clockBoundary s.unheld.planBoundary.1).2.withDueFor b).LevelLaw := by
    cases b <;> exact stepped
  exact (foldl_keeps allGroups _ (due _) (reviewed s.groups)).evaluateAll

theorem timeStep (law : s.LevelLaw) : s.timeStep.LevelLaw := (law.withDue _).evaluateAll

theorem setTime (law : s.LevelLaw) (n : Nat) : (s.setTime n).LevelLaw := (TonesStand.same (s := s) rfl rfl rfl).levelLaw law

theorem enterCoordinated (law : s.LevelLaw) (n : Nat) : (s.enterCoordinated n).LevelLaw := by
  have set : ({ s.setTime n with clock := { (s.setTime n).clock with mode := .coordinated, correction := 0, zeroSteps := 0 } } :
    State).LevelLaw := (law.setTime n).withClock rfl
  exact (set.raise (.modeChange .coordinated .sync)).timeStep

theorem setCorridorTime (law : s.LevelLaw) (n : Nat) : (s.setCorridorTime n).LevelLaw := by
  unfold State.setCorridorTime
  exact (law.setTime n).timeStep

theorem takeReference (law : s.LevelLaw) (n : Nat) : (s.takeReference n).2.LevelLaw := by
  unfold State.takeReference; split
  · split
    · exact law
    · split
      · exact law
      · split
        · dsimp only; exact law.enterCoordinated n
        · dsimp only; exact law.setCorridorTime n
  · dsimp only; split <;> exact law.withClock rfl

theorem executeSync (law : s.LevelLaw) (fr : Frame) : (executeSync fr s).LevelLaw := by
  have timed (n : Nat) : (s.takeTimeOfDay n).LevelLaw :=
    reviewQuiet ((TonesStand.same (s := s) rfl rfl rfl).levelLaw law)
  unfold Machine.executeSync; split
  · split
    · exact respond (takeReference (timed _) _) _ _
    · exact law.respond _ _
  · exact law.respond _ _

/-! ### Requests to the call queue and the crossings -/

theorem executeCall (law : s.LevelLaw) (fr : Frame) : (executeCall fr s).LevelLaw := by
  unfold Machine.executeCall; split
  · split
    · unfold State.call; split
      · exact respond ((offer_demand s _ _).levelLaw law) _ _
      · exact law.respond _ _
    · exact law.respond _ _
  · exact law.respond _ _

theorem executeCancel (law : s.LevelLaw) (fr : Frame) : (executeCancel fr s).LevelLaw := by
  unfold Machine.executeCancel; split
  · split
    · rename_i c _
      have withdrawn : (s.withdrawRemote c).LevelLaw := law.withCalls _
      unfold State.cancel; split
      · exact law.respond _ _
      · split
        · dsimp only; split
          · exact respond (testFailRecall ((removeCall_demand _ c _).levelLaw withdrawn) c) _ _
          · exact withdrawn.respond _ _
        · exact law.respond _ _
    · exact law.respond _ _
  · exact law.respond _ _

theorem executeControl (law : s.LevelLaw) (fr : Frame) : (executeControl fr s).LevelLaw := by
  unfold Machine.executeControl; split
  · split
    · unfold State.control; split
      · exact (law.enterTarget _ _ _).respond _ _
      · exact (law.setPending _ _ _).respond _ _
      · exact (law.restoreCrossing _).respond _ _
      · exact law.respond _ _
    · exact law.respond _ _
  · exact law.respond _ _

/-! ### The kerb link and the unit map -/

theorem takeSample (law : s.LevelLaw) (u : UnitId) (start : Time) (level : Nat) (short early : Bool) :
    (s.takeSample u start level short early).LevelLaw := by
  have taken : (s.sampleTaken u start level short early).LevelLaw :=
    (countUnit_tones _ u _).levelLaw (relevel_changed law u _)
  rcases takeSample_cases s u start level short early with e | ⟨n, e⟩ <;> rw [e]
  · exact taken
  · exact taken.raise n

theorem becomeStale (law : s.LevelLaw) (u : UnitId) : (s.becomeStale u).LevelLaw := by
  unfold State.becomeStale; split
  · exact (raiseStale_tones _ u true).levelLaw (relevel_changed law u _)
  · exact law

theorem sampleReply (law : s.LevelLaw) (u : UnitId) (x : Transaction) (r : KerbReply) : (s.sampleReply u x r).LevelLaw := by
  have lost (cancel : Bool) : (s.loseSample u cancel).LevelLaw := (loseSample_tones s u cancel).levelLaw law
  unfold State.sampleReply; split
  · exact law
  · split
    · exact law
    · split
      · exact lost true
      · exact law
    · split
      · exact lost true
      · split
        · split
          · exact law.takeSample u _ _ _ _
          · exact lost false
        · exact law

theorem accountPresses (law : s.LevelLaw) (u : UnitId) (m : Mapping) (found : KerbUnit) (r : KerbReply) :
    (s.accountPresses u m found r).LevelLaw := by
  have counted : (s.changeUnit u fun k => { k with pressBaseline := some r.presses, extendedBaseline := some r.extended }).LevelLaw :=
    (changeUnit_tones s u (f := fun k => { k with pressBaseline := some r.presses, extendedBaseline := some r.extended })
      fun _ => rfl).levelLaw law
  unfold State.accountPresses; dsimp only; split
  · exact (handOver_demand _ _ _ _ _).levelLaw counted
  · exact counted

theorem goodReply (law : s.LevelLaw) (u : UnitId) (m : Mapping) (x : Transaction) (r : KerbReply) :
    (s.goodReply u m x r).LevelLaw := by
  have heard : (s.heard u m x r).LevelLaw := by
    have judged := TonesStand.after (judgeAudio_tones _ u m r) <| .after (judgeStuck_tones _ u m r) <|
      .after (reportUnit_tones _ u m (s.unit u).state (goodCause (s.unit u).state)) (changeUnit_tones s u good_tone)
    have pressed := (judged.levelLaw law).accountPresses u m (s.unit u) r
    have delivered := (deliver_tones _ u).levelLaw (pressed.sampleReply u x r)
    unfold State.heard; dsimp only; split
    · exact (changeUnit_tones _ u (f := fun k => { k with sounding := false }) fun _ => rfl).levelLaw delivered
    · exact delivered
  rw [goodReply_eq]; split
  · exact heard
  · exact heard.reviewWorking _

theorem missUnit (law : s.LevelLaw) (u : UnitId) (bad : Bool) : (s.missUnit u bad).LevelLaw := by
  cases mapped : (s.unit u).mapping with
  | none =>
    unfold State.missUnit; dsimp only
    rw [countUnit_unit, mapped]
    exact (countUnit_tones s u _).levelLaw law
  | some m =>
    have missed : (s.missed u m bad).LevelLaw := (missed_tones s u m bad).levelLaw law
    rw [missUnit_eq mapped]; split
    · exact missed
    · exact missed.reviewWorking _

theorem mapUnit (law : s.LevelLaw) (u : UnitId) (m : Mapping) : (s.mapUnit u m).LevelLaw :=
  (reviewConcerned_demand _ _ _).levelLaw (raise (relevel_changed ((detachUnit_tones s u false).levelLaw law) u _) _)

theorem unmapUnit (law : s.LevelLaw) (u : UnitId) (m : Mapping) : (s.unmapUnit u m).LevelLaw :=
  (reviewConcerned_demand _ _ _).levelLaw (raise (cleared_levelLaw ((detachUnit_tones s u true).levelLaw law) u) _)

theorem executeMap (law : s.LevelLaw) (fr : Frame) : (executeMap fr s).LevelLaw := by
  unfold Machine.executeMap; split
  · exact law.respond _ _
  · exact law.respond _ _
  · exact (law.mapUnit _ _).respond _ _
  · split
    · exact law.respond _ _
    · exact (law.unmapUnit _ _).respond _ _

theorem endInMiss (law : s.LevelLaw) (x : Transaction) (bad counted : Bool) : (s.endInMiss x bad counted).LevelLaw := by
  unfold State.endInMiss; dsimp only; split
  · exact (endTransaction_tones s _).levelLaw law
  · exact (endTransaction_tones _ _).levelLaw (law.missUnit _ bad)

theorem receiveGood (law : s.LevelLaw) (frame : List Byte) : (s.receiveGood frame).LevelLaw := by
  unfold State.receiveGood; split
  · exact law
  · dsimp only; split
    · split
      · exact (endTransaction_tones s _).levelLaw law
      · split
        · exact (endTransaction_tones s _).levelLaw law
        · exact (endTransaction_tones _ _).levelLaw (law.goodReply _ _ _ _)
    · exact law

theorem receiveBad (law : s.LevelLaw) (frame : List Byte) : (s.receiveBad frame).LevelLaw := by
  unfold State.receiveBad; split
  · exact law
  · split
    · exact law
    · exact law.endInMiss _ _ _

theorem closeWindow (law : s.LevelLaw) (x : WindowContent) : (s.closeWindow x).LevelLaw := by
  unfold State.closeWindow; split
  · exact law
  · exact law.endInMiss _ _ _

/-! ### Announced events, the decisecond event and the start-up -/

theorem runDue (law : s.LevelLaw) (d : Due) : (runDue d s).LevelLaw := by
  cases d with
  | secondAdvance => exact law.advanceSecond
  | cycleBoundary | boundaryDue => exact law.boundary
  | watchdog => exact law.expireWatchdog
  | intervalEnd c => exact law.endInterval c
  | flashHalf c => exact law.changeFlashHalf c
  | mismatch c lamp cls => exact law.faultEvent c lamp cls
  | conflict c => exact law.faultEvent c _ _
  | greenExpiry c => exact law.expireGreen c
  | bandEnd c => exact law.bandEndEvent c
  | notBefore c => exact law.arriveNotBefore c
  | recallExpiry c => exact law.expireRecall c
  | spacing g => exact law.expireSpacing g
  | pairing g => exact law.closePairing g
  | revival u => exact (reviveUnit_tones s u).levelLaw law
  | windowClose u => exact (closeSample_tones s u).levelLaw law
  | stale u => exact law.becomeStale u

theorem take (law : s.LevelLaw) (d : Due) : (s.take d (Machine.runDue d)).LevelLaw := by
  unfold State.take; split
  · exact (law.withDue _).runDue d
  · exact law

/-- A decisecond moves no record, no mark, no tone and not the quiet flag. -/
theorem advance (law : s.LevelLaw) (inputs : ProvingInputs) : (s.advance inputs).LevelLaw := by
  refine levelLaw_iff.2 fun u m mapped => ?_
  rw [advance_unit] at mapped ⊢
  rw [advance_crossing]
  exact levelLaw_iff.1 law u m mapped

theorem tick (law : s.LevelLaw) (inputs : ProvingInputs) : (s.tick inputs).LevelLaw := by
  have taken : (s.due.foldl State.settleOne s).LevelLaw := foldl_keeps s.due s law fun w d law =>
    (transmit_tones _).levelLaw (law.take d)
  have settled : s.settle.LevelLaw := taken
  exact (grantSamples_tones _).levelLaw (withDue (settled.advance inputs) _)

theorem startUp (law : s.LevelLaw) : s.startUp.LevelLaw := by
  have recalled (w : State) : (allCrossings.foldl State.testFailRecall w.relevelAll).LevelLaw :=
    foldl_keeps allCrossings _ (relevelAll_levelLaw w) fun _ c law => law.testFailRecall c
  cases run : s.running with
  | true => rwa [State.startUp, if_pos run]
  | false =>
    cases e : s.store.checked.readoption with
    | none => rw [startUp_empty run e]; exact recalled _
    | some adopted => rw [startUp_under run e]; exact recalled _

end State.LevelLaw

/-- After a reset no crossing has a record, and every level is silent (R169). -/
theorem AfterReset.levelLaw {k : Counters} {f : Vector FilterEntry 16} (h : AfterReset s t k f) : t.LevelLaw :=
  levelLaw_iff.2 fun u m _ => by
    rw [h.units, h.crossings]; exact ⟨rfl, rfl⟩

namespace State.LevelLaw

/-! ### Every command -/

theorem serve (law : s.LevelLaw) (is : Frame → Bool) {f : Frame → State → State}
    (hf : ∀ fr {s : State}, s.LevelLaw → (f fr s).LevelLaw) : (s.serve is f).LevelLaw := by
  unfold State.serve; split
  · split
    · exact hf _ (law.withHost _)
    · exact law
  · exact law

theorem live (law : s.LevelLaw) {f : State → State} (hf : ∀ {s : State}, s.LevelLaw → (f s).LevelLaw) : (s.live f).LevelLaw := by
  unfold State.live; split
  · exact (transmit_tones _).levelLaw (hf law)
  · exact law

/-- Every command keeps the levels: by the values a reset leaves, or by its work. -/
theorem exec {i : Instr} (law : s.LevelLaw) (e : Machine.exec i s = .next t) : t.LevelLaw := by
  have standing {f : State → State} (hf : ∀ s, TonesStand s (f s)) : (s.live f).LevelLaw := law.live (hf _).levelLaw
  have request {is : Frame → Bool} {f : Frame → State → State} (hf : ∀ fr {s : State}, s.LevelLaw → (f fr s).LevelLaw) :
      (s.live fun s => s.serve is f).LevelLaw := law.live fun k => k.serve is hf
  have answered {is : Frame → Bool} {f : Frame → State → State} (hf : ∀ s fr, TonesStand s (f fr s)) :
      (s.live fun s => s.serve is f).LevelLaw := request fun fr _ => (hf _ fr).levelLaw
  have wf : wellFormed i = true := by
    by_contra bad
    rw [exec_fault (by simpa using bad)] at e
    cases e
  cases hd : takenBy i with
  | some d =>
    rw [exec_takes hd] at e
    obtain rfl := Host.Outcome.next.inj e
    exact law.live fun k => k.take d
  | none =>
    have next {w : State} (k : Machine.exec i s = .next w) (kept : w.LevelLaw) : t.LevelLaw :=
      Host.Outcome.next.inj (k.symm.trans e) ▸ kept
    cases i with
    | coldStart => exact next rfl (shutDown_afterReset s _ _).levelLaw
    | startUpComplete => exact next rfl ((transmit_tones _).levelLaw law.startUp)
    | restartBegin =>
      refine next rfl ?_
      split
      · exact (shutDown_afterReset s _ _).levelLaw
      · exact law
    | decisecondEvent inputs => exact next rfl (law.live fun k => k.tick inputs)
    | mismatchTimerLimit c lamp =>
      refine next rfl (law.live fun {s} k => ?_)
      split
      · exact k.take (.mismatch c lamp _)
      · exact k
    | sync => exact next rfl (request fun fr _ k => k.executeSync fr)
    | call => exact next rfl (request fun fr _ k => k.executeCall fr)
    | callCancel => exact next rfl (request fun fr _ k => k.executeCancel fr)
    | serviceOff | dark | restore => exact next rfl (request fun fr _ k => k.executeControl fr)
    | unitMapSet | unitMapClear => exact next rfl (request fun fr _ k => k.executeMap fr)
    | planWrite => exact next rfl (answered executePlanWrite_tones)
    | slotWriteDone => exact next rfl (standing slotWriteDone_tones)
    | planSelect => exact next rfl (answered executePlanSelect_tones)
    | planRead => exact next rfl (answered executePlanRead_tones)
    | unitStatus => exact next rfl (answered executeUnitStatus_tones)
    | counters => exact next rfl (answered executeCounters_tones)
    | unknownKind => exact next rfl (answered fun s fr => respond_tones s fr.tag _)
    | status => exact next rfl (answered executeStatus_tones)
    | crossingStatus => exact next rfl (answered executeCrossingStatus_tones)
    | filterWrite => exact next rfl (answered executeFilterWrite_tones)
    | restart => exact next rfl (answered executeRestart_tones)
    | pollCommand => exact next rfl (standing poll_tones)
    | replyWindowOpen => exact next rfl (standing (f := State.openWindow) fun _ => .same rfl rfl rfl)
    | lateBytes => exact next rfl (standing lateBytes_tones)
    | hostFrameStart => exact next rfl (standing (f := State.startFrame) fun _ => .same rfl rfl rfl)
    | frameGapTimeout => exact next rfl (standing abandonFrame_tones)
    | transmitEnd => exact next rfl (standing endTransmission_tones)
    | hostFrameReceived bytes => exact next (if_pos wf) (standing (receiveFrame_tones · bytes))
    | frameAbandon cause => exact next (if_pos wf) (standing abandonFrame_tones)
    | replyWindowClose x => exact next rfl (law.live fun k => k.closeWindow x)
    | goodReply frame => exact next (if_pos wf) (law.live fun k => k.receiveGood frame)
    | badReply frame => exact next (if_pos wf) (law.live fun k => k.receiveBad frame)
    | _ => cases hd

theorem step (law : s.LevelLaw) (e : Machine.step s = .next t) : t.LevelLaw := by
  unfold Machine.step at e
  split at e
  · rename_i i rest _
    exact State.LevelLaw.exec (s := { s with pending := rest }) law e
  · obtain rfl := Host.Outcome.next.inj e; exact law

end State.LevelLaw

/-- Settles O57. -/
theorem everyStepKeepsTheLevels : Obligations.EveryStepKeepsTheLevels := by
  unfold Obligations.EveryStepKeepsTheLevels
  refine ⟨fun s t law e => law.step e, fun s => levelLaw_iff.trans (forall₂_congr fun u m => imp_congr_right fun mapped => ?_)⟩
  simp only
  cases (s.crossing m.crossing).record with
  | none => rfl
  | some r => rfl

end Sys2Proof.Machine
end

section
/-!
The audible level block at its own events (O52): the window of a sample and the stale test (R164, R167), the movement of the
estimate (R154), the order of the due units and the grant (R159, R160).
-/

namespace Sys2Proof.Machine

variable {s : State} {u v : UnitId} {m : Mapping}

/-! ### The window and the stale test (R164, R167) -/

theorem closeSample_measuring {k : Sample} {start : Time} (sample : (s.unit u).audible.sample = some k)
    (measuring : k.phase = .measuring start) (closes : 20 ≤ since s.clock.now start) :
    s.closeSample u = s.closeSampleWindow u start := by
  obtain ⟨phase, early, muted⟩ := k
  obtain rfl : phase = .measuring start := measuring
  simp only [State.closeSample, State.sampleOf, sample, if_pos closes]

theorem closeSampleWindow_unit (s : State) (u v : UnitId) (start : Time) :
    (s.closeSampleWindow u start).unit v = { s.unit v with
      audible := { (s.unit v).audible with
        muteSet := (s.unit v).audible.muteSet.filter fun w => decide (w ≠ u)
        sample := if v = u then (s.unit u).audible.sample.map fun k => { k with phase := .closed start false, earlyEnd := false }
          else (s.unit v).audible.sample } } := by
  unfold State.closeSampleWindow
  by_cases here : v = u
  · subst here
    rw [changeAudible_unit, liftMutes_unit, if_pos rfl]
  · rw [changeAudible_other _ _ here, liftMutes_unit, if_neg here]

/-- Two changes of one entry are the one change that has their result. -/
theorem changeUnit_changeUnit {f g h : KerbUnit → KerbUnit} (e : g (f (s.unit u)) = h (s.unit u)) :
    (s.changeUnit u f).changeUnit u g = s.changeUnit u h := by
  have entries : change (change s.units u f) u g = change s.units u h := by
    have e : g (f s.units[u]) = h s.units[u] := e
    simp only [change, Fin.getElem_fin, Vector.getElem_set_self, Vector.set_set] at e ⊢
    rw [e]
  exact congrArg (fun units => ({ s with units := units } : State)) entries

theorem isStale_of_aged {e : Nat} {h : Header} {start : Time} (estimate : (s.unit u).audible.estimate = some e)
    (fresh : (s.unit u).audible.stale = false) (taken : (s.unit u).audible.lastStart = some start)
    (header : s.store.headerInForce = some h) (aged : 3 * h.sampleInterval ≤ since s.clock.now start) : s.isStale u = true := by
  have selected : s.store.inForce.isSome = true := by
    unfold PlanStore.headerInForce at header
    cases inForce : s.store.inForce <;> simp [inForce] at header ⊢
  have interval : s.sampleInterval = h.sampleInterval := by simp only [State.sampleInterval, header]
  simp only [State.isStale, selected, estimate, fresh, taken, interval, aged, decide_true]
  rfl

theorem raiseStale_mapped {e : Nat} (mapped : (s.unit u).mapping = some m) (estimate : (s.unit u).audible.estimate = some e)
    (stale : Bool) : s.raiseStale u stale = s.raise (.ambientStale u m.crossing m.side stale e
      ((s.unit u).audible.lastStart.map (reportedSince s.clock.now))) := by
  simp only [State.raiseStale, mapped, estimate]

/-- A unit's flag set, and its levels those of the fallback level (R155, R167). -/
theorem relevel_stale (mapped : (s.unit u).mapping = some m) :
    (s.changeAudible u fun a => { a with stale := true }).relevel u = s.changeAudible u fun a => { a with
      stale := true
      locatorLevel := locatorLevelOf (s.crossing m.crossing).record s.clock.quiet 65
      walkLevel := walkLevelOf (s.crossing m.crossing).record (s.crossing m.crossing).accessibleMark s.clock.quiet 65 } := by
  have base : ({ (s.unit u).audible with stale := true } : Audible).base = 65 := by
    unfold Audible.base
    cases (s.unit u).audible.estimate <;> rfl
  refine changeUnit_changeUnit ?_
  simp only [relevelUnit, mapped, Audible.relevel, base]
  rfl

theorem becomeStale_aged {e : Nat} {start : Time} (mapped : (s.unit u).mapping = some m)
    (estimate : (s.unit u).audible.estimate = some e) (taken : (s.unit u).audible.lastStart = some start)
    (aged : s.isStale u = true) :
    s.becomeStale u = (s.changeAudible u fun a => { a with
      stale := true
      locatorLevel := locatorLevelOf (s.crossing m.crossing).record s.clock.quiet 65
      walkLevel := walkLevelOf (s.crossing m.crossing).record (s.crossing m.crossing).accessibleMark s.clock.quiet 65 }).raise
        (.ambientStale u m.crossing m.side true e (some (min (since s.clock.now start) 65535))) := by
  unfold State.becomeStale
  rw [if_pos aged, relevel_stale mapped, raiseStale_mapped (m := m) (e := e)]
  · rw [changeAudible_unit, taken]; rfl
  · rw [changeAudible_unit]; exact mapped
  · rw [changeAudible_unit]; exact estimate

/-! ### The movement of the estimate (R154) -/

theorem nextEstimate_restart {a : Audible} (n : Nat) (h : a.estimate = none ∨ a.stale = true) : nextEstimate a n = 10 * n := by
  unfold nextEstimate
  rcases h with unset | stale
  · rw [unset]
  · cases a.estimate with
    | none => rfl
    | some e => exact if_pos stale

theorem nextEstimate_fresh {a : Audible} {e : Nat} (n : Nat) (estimate : a.estimate = some e) (fresh : a.stale = false) :
    nextEstimate a n = if e < 10 * n then e + (10 * n - e + 3) / 4 else e - (e - 10 * n + 15) / 16 := by
  simp only [nextEstimate, estimate, fresh, ceilDiv]
  rfl

/-! ### The due units in their order (R160) -/

/-- The time a unit has been due. -/
def State.dueAge (s : State) (u : UnitId) : Nat := since s.clock.now (s.unit u).audible.dueTime

/-- The order of R160 by the time a unit has been due: the longer first, equal times by address. -/
def EarlierDue (age : UnitId → Nat) (u v : UnitId) : Prop := age v < age u ∨ (age u = age v ∧ u < v)

theorem since_right_inj {now t t' : Time} (h : since now t = since now t') : t = t' := by
  unfold since at h; bv_omega

theorem placeDue_eq_orderedInsert (age : UnitId → Nat) (u : UnitId) (l : List UnitId) :
    placeDue age u l = l.orderedInsert (fun u v => age v < age u) u := by
  induction l with
  | nil => rfl
  | cons v rest ih => simp only [placeDue, List.orderedInsert, ih]

theorem placeDue_perm (age : UnitId → Nat) (u : UnitId) (l : List UnitId) : (placeDue age u l).Perm (u :: l) := by
  rw [placeDue_eq_orderedInsert]
  exact List.perm_orderedInsert _ _ _

/-- A unit of a higher address than every other goes to its place in the order. -/
theorem placeDue_pairwise {age : UnitId → Nat} {l : List UnitId} (h : l.Pairwise (EarlierDue age)) (above : ∀ v ∈ l, v < u) :
    (placeDue age u l).Pairwise (EarlierDue age) := by
  induction l with
  | nil => exact List.pairwise_singleton _ _
  | cons v rest ih =>
    obtain ⟨ahead, others⟩ := List.pairwise_cons.1 h
    unfold placeDue; split
    · rename_i longer
      refine List.pairwise_cons.2 ⟨fun w hw => .inl ?_, h⟩
      rcases List.mem_cons.1 hw with rfl | hw
      · exact longer
      · rcases ahead w hw with k | ⟨k, -⟩ <;> omega
    · rename_i notLonger
      refine List.pairwise_cons.2 ⟨fun w hw => ?_, ih others fun w hw => above w (List.mem_cons_of_mem _ hw)⟩
      rcases List.mem_cons.1 ((placeDue_perm age u rest).subset hw) with rfl | hw
      · have lower := above v List.mem_cons_self
        exact (Nat.lt_or_eq_of_le (Nat.le_of_not_lt notLonger)).imp id fun same => ⟨same.symm, lower⟩
      · exact ahead w hw

theorem foldl_placeDue_perm (age : UnitId → Nat) (l acc : List UnitId) :
    (l.foldl (fun acc u => placeDue age u acc) acc).Perm (l ++ acc) := by
  induction l generalizing acc with
  | nil => exact .refl _
  | cons u rest ih =>
    exact (ih _).trans (((placeDue_perm age u acc).append_left rest).trans List.perm_middle)

theorem foldl_placeDue_pairwise {age : UnitId → Nat} {l acc : List UnitId} (ascending : l.Pairwise (· < ·))
    (above : ∀ u ∈ l, ∀ v ∈ acc, v < u) (h : acc.Pairwise (EarlierDue age)) :
    (l.foldl (fun acc u => placeDue age u acc) acc).Pairwise (EarlierDue age) := by
  induction l generalizing acc with
  | nil => exact h
  | cons u rest ih =>
    obtain ⟨lowest, ascending⟩ := List.pairwise_cons.1 ascending
    refine ih ascending (fun w hw v hv => ?_) (placeDue_pairwise h (above u List.mem_cons_self))
    rcases List.mem_cons.1 ((placeDue_perm age u acc).subset hv) with rfl | hv
    · exact lowest w hw
    · exact above w (List.mem_cons_of_mem _ hw) v hv

theorem allUnits_pairwise_lt : allUnits.Pairwise (· < ·) := by decide

theorem dueUnits_perm (s : State) : s.dueUnits.Perm (allUnits.filter s.sampleDue) := by
  have placed := foldl_placeDue_perm s.dueAge (allUnits.filter s.sampleDue) []
  rwa [List.append_nil] at placed

theorem dueUnits_nodup (s : State) : s.dueUnits.Nodup := (dueUnits_perm s).nodup_iff.2 (allUnits_nodup.filter _)

theorem sampleDue_iff : s.sampleDue u = true ↔ (s.unit u).mapping.isSome = true ∧ (s.unit u).audible.sample = none ∧
    reached s.clock.now (s.unit u).audible.dueTime = true := by
  simp only [State.sampleDue, Bool.and_eq_true, Option.isNone_iff_eq_none, and_assoc]

theorem mem_dueUnits : u ∈ s.dueUnits ↔ s.sampleDue u = true := by
  rw [(dueUnits_perm s).mem_iff, List.mem_filter]
  exact and_iff_right (mem_allUnits u)

theorem dueUnits_pairwise (s : State) : s.dueUnits.Pairwise (EarlierDue s.dueAge) :=
  foldl_placeDue_pairwise (allUnits_pairwise_lt.filter _) (fun _ _ v hv => by cases hv) .nil

theorem dueUnits_singleton (h : ∀ v, s.sampleDue v = true ↔ v = u) : s.dueUnits = [u] :=
  List.perm_singleton.1 <| (List.perm_ext_iff_of_nodup (dueUnits_nodup s) (List.nodup_singleton u)).2 fun v => by
    rw [mem_dueUnits, h, List.mem_singleton]

/-! ### The grant (R160) -/

theorem neighbourhood_mapped (mapped : (s.unit u).mapping = some m) :
    s.neighbourhood u = u :: m.hearing.filter fun v => (s.unit v).mapping.isSome := by
  simp only [State.neighbourhood, mapped]

theorem mayGrant_iff : s.mayGrant u = true ↔ (s.unit u).state = .online ∧ ∀ v ∈ s.neighbourhood u,
    (s.unit v).sounding = false ∧ (s.unit v).audible.sample = none ∧ (s.unit v).audible.muteSet = [] := by
  simp only [State.mayGrant, Bool.and_eq_true, decide_eq_true_eq, List.all_eq_true, Bool.not_eq_true',
    Option.isNone_iff_eq_none, List.isEmpty_iff, and_assoc]

/-- A sample's mutes set: it joins the mute set of every unit of the list (R160). -/
def State.mute (s : State) (near : List UnitId) (u : UnitId) : State :=
  { s with
    units := rewrite s.units fun v k =>
      if v ∈ near then { k with audible := { k.audible with muteSet := k.audible.muteSet ++ [u] } } else k }

theorem grant_eq (s : State) (u : UnitId) : s.grant u = (((s.mute (s.neighbourhood u) u).changeAudible u fun a =>
    { a with sample := some { phase := .requested, earlyEnd := false, muted := s.neighbourhood u } }).request u .start) := rfl

theorem mute_muteSet (s : State) (near : List UnitId) (u v : UnitId) : ((s.mute near u).unit v).audible.muteSet =
    if v ∈ near then (s.unit v).audible.muteSet ++ [u] else (s.unit v).audible.muteSet := by
  have unit : (s.mute near u).unit v = if v ∈ near then
      { s.unit v with audible := { (s.unit v).audible with muteSet := (s.unit v).audible.muteSet ++ [u] } } else s.unit v :=
    rewrite_get _ _ _
  rw [unit]
  split <;> rfl

theorem grant_muteSet (s : State) (u v : UnitId) : ((s.grant u).unit v).audible.muteSet =
    if v ∈ s.neighbourhood u then (s.unit v).audible.muteSet ++ [u] else (s.unit v).audible.muteSet := by
  rw [grant_eq, ← mute_muteSet]
  by_cases here : v = u
  · rw [here, request_unit, changeAudible_unit]
  · rw [request_other _ _ here, changeAudible_other _ _ here]

theorem grant_sample (s : State) (u : UnitId) : ((s.grant u).unit u).audible.sample =
    some { phase := .requested, earlyEnd := false, muted := s.neighbourhood u } := by
  rw [grant_eq, request_unit, changeAudible_unit]

theorem grant_pendingAction (s : State) (u : UnitId) : ((s.grant u).unit u).pendingAction = some .start := by
  rw [grant_eq, request_unit]

theorem grantSamples_unselected (h : s.store.inForce = none) : s.grantSamples = s := by
  simp only [State.grantSamples, h]
  rfl

theorem grantSamples_single (selected : s.store.inForce.isSome = true) (only : ∀ v, s.sampleDue v = true ↔ v = u) :
    s.grantSamples = s.considerGrant u := by
  unfold State.grantSamples
  rw [if_pos selected, dueUnits_singleton only]
  rfl

/-! ### A unit one decisecond on -/

theorem tick_sample_none (k : KerbUnit) : k.tick.audible.sample = none ↔ k.audible.sample = none := Option.map_eq_none_iff

theorem ticking_sampleDue (s : State) (inputs : ProvingInputs) (u : UnitId) :
    (s.ticking inputs).sampleDue u = true ↔ (s.unit u).mapping.isSome = true ∧ (s.unit u).audible.sample = none ∧
      reached (s.clock.now + 1) (s.unit u).audible.dueTime = true := by
  rw [sampleDue_iff, ticking_unit, tick_sample_none]
  rfl

theorem ticking_neighbourhood (s : State) (inputs : ProvingInputs) (mapped : (s.unit u).mapping = some m) :
    (s.ticking inputs).neighbourhood u = u :: m.hearing.filter fun v => (s.unit v).mapping.isSome := by
  have ticked : ((s.ticking inputs).unit u).mapping = some m := by rw [ticking_unit]; exact mapped
  rw [neighbourhood_mapped ticked]
  simp only [ticking_unit]
  rfl

theorem ticking_mayGrant (s : State) (inputs : ProvingInputs) (u : UnitId) : (s.ticking inputs).mayGrant u = true ↔
    (s.unit u).state = .online ∧ ∀ v ∈ (s.ticking inputs).neighbourhood u, (s.unit v).sounding = false ∧
      (s.unit v).audible.sample = none ∧ (s.unit v).audible.muteSet = [] := by
  simp only [mayGrant_iff, ticking_unit, tick_sample_none]
  rfl

/-! ### The statement -/

theorem exec_windowClose {k : Sample} {start : Time} (due : s.IsDue (.windowClose u))
    (sample : (s.unit u).audible.sample = some k) (measuring : k.phase = .measuring start)
    (closes : 20 ≤ since s.clock.now start) :
    exec (.sampleWindowClose u) s = .next ((s.without (.windowClose u)).closeSampleWindow u start).transmit := by
  rw [exec_takes (d := .windowClose u) rfl, take_due due]
  exact congrArg (Host.Outcome.next ∘ State.transmit) (closeSample_measuring (s := s.without _) sample measuring closes)

theorem exec_stale (due : s.IsDue (.stale u)) :
    exec (.ambientStale u) s = .next ((s.without (.stale u)).becomeStale u).transmit := by
  rw [exec_takes (d := .stale u) rfl, take_due due]
  rfl

/-- A decisecond event with one due unit considers it (R160). -/
theorem exec_decisecond_single {inputs : ProvingInputs} (run : s.running = true) (empty : s.due = [])
    (selected : s.store.inForce.isSome = true) (mapped : (s.unit u).mapping = some m)
    (idle : (s.unit u).audible.sample = none) (come : reached (s.clock.now + 1) (s.unit u).audible.dueTime = true)
    (others : ∀ v, v ≠ u → (s.unit v).mapping = none ∨ (s.unit v).audible.sample.isSome = true ∨
      reached (s.clock.now + 1) (s.unit v).audible.dueTime = false) :
    exec (.decisecondEvent inputs) s = .next ((s.ticking inputs).considerGrant u).transmit := by
  have only (v : UnitId) : (s.ticking inputs).sampleDue v = true ↔ v = u := by
    rw [ticking_sampleDue]
    refine ⟨fun ⟨isMapped, noSample, hasCome⟩ => ?_, fun here => ?_⟩
    · by_contra other
      rcases others v other with k | k | k
      · rw [k] at isMapped; cases isMapped
      · rw [noSample] at k; cases k
      · rw [k] at hasCome; cases hasCome
    · rw [here]
      exact ⟨by rw [mapped]; rfl, idle, come⟩
  rw [exec_decisecond run empty, grantSamples_single (s := s.ticking inputs) selected only]

/-- Settles O52. -/
theorem samplesCloseAndEstimatesMove : Obligations.SamplesCloseAndEstimatesMove := by
  unfold Obligations.SamplesCloseAndEstimatesMove
  refine ⟨⟨?closed, ?stale⟩, ?moves, ?ordered, ?granted, ?none⟩
  case closed =>
    intro s u k start due sample measuring closes
    refine ⟨_, exec_windowClose due sample measuring closes, fun v => ?_⟩
    have unit := closeSampleWindow_unit (s.without (.windowClose u)) u v start
    rw [without_unit, without_unit, sample] at unit
    exact ⟨(congrArg KerbUnit.link unit :), (congrArg KerbUnit.pendingAction unit :), (congrArg KerbUnit.sounding unit :),
      (congrArg KerbUnit.audible unit :)⟩
  case stale =>
    intro s u m e h start due mapped estimate fresh taken header aged
    rw [exec_stale due, becomeStale_aged (s := s.without (.stale u)) mapped estimate taken
      (isStale_of_aged (s := s.without (.stale u)) estimate fresh taken header aged)]
    rfl
  case moves =>
    refine fun a n => ⟨nextEstimate_restart n, fun e estimate fresh => ?_⟩
    rw [nextEstimate_fresh n estimate fresh]
    split <;> omega
  case ordered =>
    exact fun s => ⟨dueUnits_nodup s, fun u => mem_dueUnits.trans sampleDue_iff, (dueUnits_pairwise s).imp fun before =>
      before.imp id fun ⟨same, lower⟩ => ⟨since_right_inj same, lower⟩⟩
  case granted =>
    intro s inputs u m run empty selected mapped idle come others
    have near := ticking_neighbourhood s inputs mapped
    have may := ticking_mayGrant s inputs u
    rw [near] at may
    refine ⟨_, exec_decisecond_single run empty selected mapped idle come others, fun free => ?_, fun refused => ?_⟩
    · rw [State.considerGrant, if_pos (may.2 free), transmit_unit, grant_sample, grant_pendingAction, near]
      refine ⟨rfl, rfl, fun v isNear => ?_, fun v far => ?_⟩
      · rw [transmit_unit, grant_muteSet, near, if_pos isNear, ticking_unit]
        exact congrArg (· ++ [u]) (free.2 v isNear).2.2
      · rw [transmit_unit, grant_muteSet, near, if_neg far, ticking_unit]
        rfl
    · rw [State.considerGrant, if_neg (mt may.1 refused)]
      refine ⟨?_, ?_, fun v => ?_⟩
      · rw [transmit_unit, ticking_unit]; exact (tick_sample_none _).2 idle
      · rw [transmit_unit, ticking_unit]; rfl
      · rw [transmit_unit, ticking_unit]; rfl
  case none =>
    intro s inputs run empty unselected
    refine ⟨_, exec_decisecond run empty inputs, fun u => ?_⟩
    rw [grantSamples_unselected (s := s.ticking inputs) unselected, transmit_unit, ticking_unit]
    exact ⟨rfl, rfl, (tick_sample_none _).2⟩

end Sys2Proof.Machine
end

section
/-!
The laws of the counter bank (O10): what a block holds after it has been cleared, and the COUNTERS request at its turn.
-/

namespace Sys2Proof.Machine

variable {s : State} {fr : Frame} {rest : List Frame} {kb nb cb : Byte} {b b' : BlockName}

/-! ### A block cleared (R174) -/

/-- A block cleared holds 0 in every counter. -/
theorem clear_snapshot_self (k : Counters) (b : BlockName) : ∀ n ∈ (k.clear b).snapshot b, n = 0 := by
  cases b <;> simp [Counters.snapshot, Counters.clear, CrossingCounters.values, UnitCounters.values, CorridorCounters.values]

/-- Clearing one block leaves every other as it stands. -/
theorem clear_snapshot_other (k : Counters) (h : b' ≠ b) : (k.clear b).snapshot b' = k.snapshot b' := by
  cases b with
  | crossing c =>
    cases b' with
    | crossing d => exact congrArg CrossingCounters.values (change_get_ne _ _ fun e => h (congrArg _ e.symm))
    | unit _ | corridor => rfl
  | unit u =>
    cases b' with
    | unit v => exact congrArg UnitCounters.values (change_get_ne _ _ fun e => h (congrArg _ e.symm))
    | crossing _ | corridor => rfl
  | corridor =>
    cases b' with
    | corridor => exact absurd rfl h
    | crossing _ | unit _ => rfl

/-! ### The request (R173) -/

/-- A COUNTERS request at its turn is executed on the queue's rest. -/
theorem exec_counters (turn : s.AtTurn fr rest) (kind : fr.isKind 12 = true) :
    exec .counters s = .next (executeCounters fr (s.taking rest)).transmit :=
  congrArg Host.Outcome.next (serve_at_turn turn kind executeCounters)

/-- Whether a block names an unmapped unit does not stand on the request queue. -/
@[simp] theorem taking_lacksUnit (s : State) (l : List Frame) (b : BlockName) : (s.taking l).lacksUnit b = s.lacksUnit b := by
  cases b <;> rfl

theorem executeCounters_outOfRange (body : fr.body = [kb, nb, cb]) (h : readBlock kb nb = none ∨ readYesNo cb = none)
    (s : State) : executeCounters fr s = s.refuse fr.tag .outOfRange := by
  unfold executeCounters
  rw [body]
  rcases h with block | flag
  · simp only [block]
  · simp only [flag]; split <;> trivial

theorem executeCounters_inRange {clear : Bool} (body : fr.body = [kb, nb, cb]) (block : readBlock kb nb = some b)
    (flag : readYesNo cb = some clear) (s : State) : executeCounters fr s = s.readCounters fr.tag b clear := by
  unfold executeCounters
  simp only [body, block, flag]

/-- Settles O10. -/
theorem countersReadAndClear : Obligations.CountersReadAndClear := by
  unfold Obligations.CountersReadAndClear
  intro fr rest s kb nb cb turn kind body
  rw [exec_counters turn kind]
  refine ⟨fun bad => ?_, fun b clear block flag lacks => ?_, fun b clear block flag has => ⟨?_, ?_, ?_⟩⟩
  · rw [executeCounters_outOfRange body bad]; rfl
  · rw [executeCounters_inRange body block flag, State.readCounters, taking_lacksUnit, lacks]; rfl
  · rw [executeCounters_inRange body block flag, State.readCounters, taking_lacksUnit, has]; rfl
  · exact clear_snapshot_self s.counters b
  · exact fun b' other => clear_snapshot_other s.counters other

end Sys2Proof.Machine
end

section
/-!
The bounds of the counters and of the two queues under the shared operations (O59). `KeepsBounds s t` says that the bounds of
`s` are bounds of `t`. Every counter is raised by `satAdd` or set to a reported time, and so none passes 65535 (R170); the
queues grow in `raise` and `enqueue` alone, which test for room first (R178, R183).
-/

namespace Sys2Proof.Machine

/-! ### Counters raised (R170) -/

@[simp] theorem satAdd_le (a k : Nat) : satAdd a k ≤ 65535 := Nat.min_le_right _ _

@[simp] theorem reportedSince_le (now t : Time) : reportedSince now t ≤ 65535 := Nat.min_le_right _ _

/-- No counter of the crossing block stands above 65535. -/
def CrossingCounters.Saturated (n : CrossingCounters) : Prop := ∀ x ∈ n.values, x ≤ 65535

/-- No counter of the unit block stands above 65535. -/
def UnitCounters.Saturated (n : UnitCounters) : Prop := ∀ x ∈ n.values, x ≤ 65535

/-- No counter of the corridor block stands above 65535. -/
def CorridorCounters.Saturated (n : CorridorCounters) : Prop := ∀ x ∈ n.values, x ≤ 65535

theorem Counters.saturated_iff {k : Counters} : k.Saturated ↔
    (∀ c : CrossingId, (k.crossings[c]).Saturated) ∧ (∀ u : UnitId, (k.units[u]).Saturated) ∧ k.corridor.Saturated := .rfl

@[simp] theorem CrossingCounters.saturated_iff {n : CrossingCounters} : n.Saturated ↔
    n.callsRegistered ≤ 65535 ∧ n.presses ≤ 65535 ∧ n.extendedPresses ≤ 65535 ∧ n.stages ≤ 65535 ∧
    n.accessibleStages ≤ 65535 ∧ n.upgrades ≤ 65535 ∧ n.truncatedStages ≤ 65535 ∧ n.recallStages ≤ 65535 ∧
    n.linkedPlaced ≤ 65535 ∧ n.linkedDropped ≤ 65535 ∧ n.faults ≤ 65535 ∧ n.wait0 ≤ 65535 ∧ n.wait150 ≤ 65535 ∧
    n.wait300 ≤ 65535 ∧ n.wait450 ≤ 65535 ∧ n.wait600 ≤ 65535 ∧ n.wait900 ≤ 65535 ∧ n.maxWait ≤ 65535 := by
  simp [CrossingCounters.Saturated, CrossingCounters.values]

@[simp] theorem UnitCounters.saturated_iff {n : UnitCounters} : n.Saturated ↔
    n.pollsMissed ≤ 65535 ∧ n.badReplies ≤ 65535 ∧ n.stuckEvents ≤ 65535 ∧ n.samplesTaken ≤ 65535 ∧
    n.samplesAbandoned ≤ 65535 := by
  simp [UnitCounters.Saturated, UnitCounters.values]

@[simp] theorem CorridorCounters.saturated_iff {n : CorridorCounters} : n.Saturated ↔
    n.framesBad ≤ 65535 ∧ n.framesDropped ≤ 65535 ∧ n.noticesLost ≤ 65535 ∧ n.syncAccepted ≤ 65535 ∧
    n.correctionsApplied ≤ 65535 ∧ n.planAdoptions ≤ 65535 := by
  simp [CorridorCounters.Saturated, CorridorCounters.values]

/-- An admission raises its counters (R97). -/
theorem CrossingCounters.Saturated.admitted {n : CrossingCounters} (h : n.Saturated) (k : Stage) :
    (n.admitted k).Saturated := by
  simp_all [CrossingCounters.admitted]

/-- A wait filed raises one bin, and the longest wait is a reported time (R171). -/
theorem CrossingCounters.Saturated.fileWait {n : CrossingCounters} (h : n.Saturated) {wait : Nat} (bound : wait ≤ 65535) :
    (n.fileWait wait).Saturated := by
  unfold CrossingCounters.fileWait
  split_ifs <;> simp_all

/-- A block cleared leaves every counter in its bound (R174). -/
theorem clear_saturated {k : Counters} (h : k.Saturated) (b : BlockName) : (k.clear b).Saturated := by
  obtain ⟨crossings, units, corridor⟩ := Counters.saturated_iff.1 h
  have snapshot (b' : BlockName) : ∀ n ∈ (k.clear b).snapshot b', n ≤ 65535 := by
    intro n mem
    by_cases own : b' = b
    · subst own; rw [clear_snapshot_self k b' n mem]; exact Nat.zero_le _
    · rw [clear_snapshot_other k own] at mem
      cases b' with
      | crossing c => exact crossings c n mem
      | unit u => exact units u n mem
      | corridor => exact corridor n mem
  exact Counters.saturated_iff.2 ⟨fun c => snapshot (.crossing c), fun u => snapshot (.unit u), snapshot .corridor⟩

/-! ### The bounds together -/

/-- The two queues and every counter are in their bounds. -/
def State.Bounded (s : State) : Prop := s.QueueLaw ∧ s.counters.Saturated

/-- What is in its bounds before the work is in them after it. -/
def KeepsBounds (s t : State) : Prop := s.Bounded → t.Bounded

variable {s t w : State}

namespace KeepsBounds

theorem refl (s : State) : KeepsBounds s s := id

theorem trans (h : KeepsBounds s t) (k : KeepsBounds t w) : KeepsBounds s w := k ∘ h

theorem after (k : KeepsBounds t w) (h : KeepsBounds s t) : KeepsBounds s w := h.trans k

theorem foldl {α : Type} {f : State → α → State} (l : List α) (s : State) (h : ∀ s a, KeepsBounds s (f s a)) :
    KeepsBounds s (l.foldl f s) := foldl_related l s refl trans h

/-- Work that leaves the counters and lengthens neither queue. -/
theorem ofQueues (requests : t.host.requests.length ≤ s.host.requests.length)
    (notices : t.host.notices.length ≤ s.host.notices.length) (counters : t.counters = s.counters) : KeepsBounds s t :=
  fun ⟨⟨four, most⟩, saturated⟩ => ⟨⟨requests.trans four, notices.trans most⟩, counters ▸ saturated⟩

/-- Work that leaves both queues and the counters. -/
theorem same (requests : t.host.requests = s.host.requests) (notices : t.host.notices = s.host.notices)
    (counters : t.counters = s.counters) : KeepsBounds s t := ofQueues (by rw [requests]) (by rw [notices]) counters

/-- Work that leaves both queues: the counters are left to show. -/
theorem ofCounters (requests : t.host.requests = s.host.requests) (notices : t.host.notices = s.host.notices)
    (counters : s.counters.Saturated → t.counters.Saturated) : KeepsBounds s t :=
  fun ⟨queues, saturated⟩ => ⟨by rwa [State.QueueLaw, requests, notices], counters saturated⟩

end KeepsBounds

variable (s)

/-! ### Updates -/

theorem countCrossing_bounds (c : CrossingId) {f : CrossingCounters → CrossingCounters}
    (h : ∀ {n : CrossingCounters}, n.Saturated → (f n).Saturated) : KeepsBounds s (s.countCrossing c f) := by
  refine .ofCounters rfl rfl fun saturated => ?_
  obtain ⟨crossings, units, corridor⟩ := Counters.saturated_iff.1 saturated
  refine Counters.saturated_iff.2 ⟨fun d => ?_, units, corridor⟩
  have e : (s.countCrossing c f).counters.crossings[d] =
      if c = d then f s.counters.crossings[d] else s.counters.crossings[d] := change_get _ _ _ _
  rw [e]; split
  · exact h (crossings d)
  · exact crossings d

theorem countUnit_bounds (u : UnitId) {f : UnitCounters → UnitCounters}
    (h : ∀ {n : UnitCounters}, n.Saturated → (f n).Saturated) : KeepsBounds s (s.countUnit u f) := by
  refine .ofCounters rfl rfl fun saturated => ?_
  obtain ⟨crossings, units, corridor⟩ := Counters.saturated_iff.1 saturated
  refine Counters.saturated_iff.2 ⟨crossings, fun v => ?_, corridor⟩
  have e : (s.countUnit u f).counters.units[v] =
      if u = v then f s.counters.units[v] else s.counters.units[v] := change_get _ _ _ _
  rw [e]; split
  · exact h (units v)
  · exact units v

theorem countCorridor_bounds {f : CorridorCounters → CorridorCounters}
    (h : ∀ {n : CorridorCounters}, n.Saturated → (f n).Saturated) : KeepsBounds s (s.countCorridor f) := by
  refine .ofCounters rfl rfl fun saturated => ?_
  obtain ⟨crossings, units, corridor⟩ := Counters.saturated_iff.1 saturated
  exact Counters.saturated_iff.2 ⟨crossings, units, h corridor⟩

/-- A notice joins the queue only where it finds room (R183). -/
theorem raise_notices_le (p : HostPort) (n : Notice) (h : p.notices.length ≤ 32) : (p.raise n).notices.length ≤ 32 := by
  unfold HostPort.raise; split
  · split
    · rename_i room; simpa using room
    · exact h
  · exact h

theorem raise_bounds (n : NoticeBody) : KeepsBounds s (s.raise n) := by
  rintro ⟨⟨requests, notices⟩, saturated⟩
  have lost := countCorridor_bounds s (f := fun k =>
    { k with noticesLost := satAdd k.noticesLost (if s.host.loses n then 1 else 0) }) fun h => by simp_all
  exact ⟨⟨by rwa [raise_host_requests], raise_notices_le _ _ notices⟩, (lost ⟨⟨requests, notices⟩, saturated⟩).2⟩

/-- The transmitter takes from the notice queue and leaves the requests (R181). -/
theorem transmit_notices_le (p : HostPort) : p.transmit.notices.length ≤ p.notices.length := by
  unfold HostPort.transmit; split
  · exact le_rfl
  · split
    · exact le_rfl
    · split
      · rename_i queue; simp [queue]
      · exact le_rfl

theorem transmit_bounds : KeepsBounds s s.transmit :=
  .ofQueues (by rw [(transmit_portKept s).requests]) (transmit_notices_le s.host) rfl

theorem respond_bounds (tag : Byte) (r : ReplyContent) : KeepsBounds s (s.respond tag r) := .same rfl rfl rfl

theorem changeCrossing_bounds (c : CrossingId) (f : Crossing → Crossing) : KeepsBounds s (s.changeCrossing c f) := .same rfl rfl rfl

theorem changeGroup_bounds (g : GroupId) (f : Group → Group) : KeepsBounds s (s.changeGroup g f) := .same rfl rfl rfl

theorem changeUnit_bounds (u : UnitId) (f : KerbUnit → KerbUnit) : KeepsBounds s (s.changeUnit u f) := .same rfl rfl rfl

theorem withCalls_bounds (l : List CallRecord) : KeepsBounds s { s with calls := l } := .same rfl rfl rfl

theorem withClock_bounds (k : Clock) : KeepsBounds s { s with clock := k } := .same rfl rfl rfl

theorem withDue_bounds (l : List Due) : KeepsBounds s { s with due := l } := .same rfl rfl rfl

/-! ### The audible level block -/

theorem relevel_bounds (u : UnitId) : KeepsBounds s (s.relevel u) := .same rfl rfl rfl

theorem relevelAll_bounds : KeepsBounds s s.relevelAll := .same rfl rfl rfl

theorem markAccessible_bounds (c : CrossingId) (b : Bool) : KeepsBounds s (s.markAccessible c b) := by
  unfold State.markAccessible; split <;> exact .same rfl rfl rfl

theorem loseSample_bounds (u : UnitId) (cancel : Bool) : KeepsBounds s (s.loseSample u cancel) := by
  unfold State.loseSample; split
  · exact .refl s
  · split <;> exact .same rfl rfl rfl

theorem abandonSample_bounds (u : UnitId) : KeepsBounds s (s.abandonSample u) :=
  .after (countUnit_bounds _ u fun h => by simp_all) (.same (s := s) rfl rfl rfl)

theorem onset_bounds (u : UnitId) : KeepsBounds s (s.onset u) := by
  refine .foldl _ s fun s v => ?_
  unfold State.onsetAt; split
  · exact .refl s
  · split
    · split
      · exact abandonSample_bounds s v
      · split
        · exact abandonSample_bounds s v
        · exact .same rfl rfl rfl
      · exact .refl s
    · exact .refl s

theorem soundCrossing_bounds (c : CrossingId) : KeepsBounds s (s.soundCrossing c) := by
  refine .foldl _ s fun s u => ?_
  unfold State.soundUnit; dsimp only; split
  · split
    · exact .same rfl rfl rfl
    · exact .after (onset_bounds _ u) (.same rfl rfl rfl)
  · exact .refl s

theorem grantSamples_bounds : KeepsBounds s s.grantSamples := by
  unfold State.grantSamples; split
  · refine .foldl _ s fun s u => ?_
    unfold State.considerGrant State.grant; split <;> exact .same rfl rfl rfl
  · exact .refl s

/-! ### Admission and evaluations (R81 to R97) -/

theorem removeCall_bounds (c : CrossingId) (r : RemovalReason) : KeepsBounds s (s.removeCall c r) := by
  unfold State.removeCall; split
  · exact .refl s
  · exact .after (raise_bounds _ _) (.same rfl rfl rfl)

theorem await_bounds (c : CrossingId) (r : Route) (x : WaitReason) : KeepsBounds s (s.await c r x) := .same rfl rfl rfl

theorem raiseTruncated_bounds (c : CrossingId) (k : Stage) (cut : Option Cut) : KeepsBounds s (s.raiseTruncated c k cut) := by
  cases cut
  · exact .refl s
  · exact raise_bounds s _

theorem admitCall_bounds (c : CrossingId) (call : CallRecord) (r : Record) (a : Admission) :
    KeepsBounds s (s.admitCall c call r a) := by
  unfold State.admitCall
  exact .after (raiseTruncated_bounds _ _ _ _) <| .after (raise_bounds _ _) <|
    .after (countCrossing_bounds _ _ fun h => h.admitted _) <| .after (markAccessible_bounds _ _ _) <|
      .after (changeCrossing_bounds _ c _) (removeCall_bounds s c _)

theorem evaluateBand_bounds (c : CrossingId) (call : CallRecord) (r : Record) : KeepsBounds s (s.evaluateBand c call r) := by
  unfold State.evaluateBand; split
  · exact admitCall_bounds s c call r _
  · exact await_bounds s c _ _

theorem evaluateDirect_bounds (c : CrossingId) (call : CallRecord) (r : Record) : KeepsBounds s (s.evaluateDirect c call r) := by
  unfold State.evaluateDirect; split
  · exact admitCall_bounds s c call r _
  · exact await_bounds s c _ _

theorem considerInGroup_bounds (g : GroupId) (c : CrossingId) (call : CallRecord) (r : Record) :
    KeepsBounds s (s.considerInGroup g c call r) := by
  unfold State.considerInGroup; split
  · exact await_bounds s c _ _
  · split
    · exact await_bounds s c _ _
    · split
      · exact .after (admitCall_bounds _ c call r _) (changeGroup_bounds s g _)
      · exact await_bounds s c _ _

theorem evaluateGroup_bounds (g : GroupId) : KeepsBounds s (s.evaluateGroup g) := by
  refine .foldl _ s fun s c => ?_
  unfold State.groupTurn; split
  · split
    · exact considerInGroup_bounds s g c _ _
    · exact .refl s
  · exact .refl s

theorem evaluateOn_bounds (c : CrossingId) (call : CallRecord) (r : Record) (route : Route) :
    KeepsBounds s (s.evaluateOn c call r route) := by
  cases route with
  | band => exact evaluateBand_bounds s c call r
  | group g => exact evaluateGroup_bounds s g
  | direct => exact evaluateDirect_bounds s c call r

theorem evaluate_bounds (c : CrossingId) : KeepsBounds s (s.evaluate c) := by
  unfold State.evaluate; split
  · split
    · exact await_bounds s c _ _
    · exact evaluateOn_bounds s c _ _ _
  · exact .refl s

theorem evaluateAll_bounds : KeepsBounds s s.evaluateAll := .foldl _ s fun s c => evaluate_bounds s c

theorem uncount_bounds (g : Option GroupId) : KeepsBounds s (s.uncount g) := by
  cases g <;> exact .same rfl rfl rfl

theorem evaluateAfterEnd_bounds (g : Option GroupId) : KeepsBounds s (s.evaluateAfterEnd g) := by
  cases g with
  | none => exact .refl s
  | some g => exact evaluateGroup_bounds s g

/-! ### Offers (R47 to R60) -/

theorem queued_bounds (c : CrossingId) (o : Offer) : KeepsBounds s (s.queued c o) := by
  unfold State.queued; split
  · exact .same rfl rfl rfl
  · exact .after (raise_bounds _ _) <| .after (countCrossing_bounds _ c fun h => by simp_all) (withCalls_bounds s _)

theorem intoQueue_bounds (c : CrossingId) (o : Offer) : KeepsBounds s (s.intoQueue c o).2 := by
  rw [intoQueue_eq]
  exact .after (evaluate_bounds _ c) (queued_bounds s c o)

theorem upgradeStage_bounds (c : CrossingId) (k : Stage) (x r : Nat) : KeepsBounds s (s.upgradeStage c k x r) := by
  unfold State.upgradeStage
  exact .after (markAccessible_bounds _ _ _) <| .after (raise_bounds _ _) <|
    .after (countCrossing_bounds _ _ fun h => by simp_all) (changeCrossing_bounds s c _)

theorem tryUpgrade_bounds (c : CrossingId) (o : Offer) : KeepsBounds s (s.tryUpgrade c o).2 := by
  unfold State.tryUpgrade; dsimp only; split
  · exact .refl s
  · split
    · exact .refl s
    · exact upgradeStage_bounds s c _ _ _
    · split
      · exact intoQueue_bounds s c o
      · exact .refl s

theorem offer_bounds (c : CrossingId) (o : Offer) : KeepsBounds s (s.offer c o).2 := by
  unfold State.offer; dsimp only; split
  · exact intoQueue_bounds s c o
  · split
    · split
      · exact tryUpgrade_bounds s c o
      · exact .refl s
    · exact .refl s

theorem handOver_bounds (c : CrossingId) (side : Side) (p x : Nat) : KeepsBounds s (s.handOver c side p x) :=
  .after (offer_bounds _ c _) (countCrossing_bounds s c fun h => by simp_all)

theorem testFailRecall_bounds (c : CrossingId) : KeepsBounds s (s.testFailRecall c) := by
  unfold State.testFailRecall; dsimp only; split
  · exact intoQueue_bounds s c _
  · exact .refl s

theorem placeLink_bounds (c : CrossingId) (k : Stage) : KeepsBounds s (s.placeLink c k) := by
  unfold State.placeLink; split
  · exact .refl s
  · split
    · exact .refl s
    · split
      · exact .refl s
      · split
        · exact .after (countCrossing_bounds _ c fun h => by simp_all) (offer_bounds s _ _)
        · exact countCrossing_bounds s c fun h => by simp_all

theorem reviewWorking_bounds (c : CrossingId) : KeepsBounds s (s.reviewWorking c) := by
  unfold State.reviewWorking State.tellWorking; split
  · exact .refl s
  · exact .after (testFailRecall_bounds _ c) (changeCrossing_bounds s c _)

/-! ### Changes of crossing state (R102, R109 to R114) -/

theorem reportState_bounds (c : CrossingId) (cause : Cause) : KeepsBounds s (s.reportState c cause) := raise_bounds s _

theorem loseService_bounds (c : CrossingId) : KeepsBounds s (s.loseService c) :=
  .after (changeCrossing_bounds _ c _) (removeCall_bounds s c _)

theorem enterStartup_bounds (c : CrossingId) (cause : Cause) : KeepsBounds s (s.enterStartup c cause) := by
  unfold State.enterStartup
  exact .after (testFailRecall_bounds _ c) (.after (reportState_bounds _ c _) (changeCrossing_bounds s c _))

theorem enterUntimed_bounds (c : CrossingId) (st : CrossingState) (cause : Cause) :
    KeepsBounds s (s.enterUntimed c st cause) := by
  unfold State.enterUntimed; dsimp only; split
  · exact .after (reportState_bounds _ c _) (.after (loseService_bounds _ c) (changeCrossing_bounds s c _))
  · exact .after (reportState_bounds _ c _) (changeCrossing_bounds s c _)

theorem enterUnconfigured_bounds (c : CrossingId) (cause : Cause) : KeepsBounds s (s.enterUnconfigured c cause) := by
  unfold State.enterUnconfigured; dsimp only; split
  · exact .after (enterStartup_bounds _ c _) (enterUntimed_bounds s c _ _)
  · exact enterUntimed_bounds s c _ _

theorem discardStage_bounds (c : CrossingId) : KeepsBounds s (s.discardStage c) :=
  .after (markAccessible_bounds _ c _) (changeCrossing_bounds s c _)

theorem enterFaultFlash_bounds (c : CrossingId) (cause : Cause) : KeepsBounds s (s.enterFaultFlash c cause) := by
  unfold State.enterFaultFlash
  exact .after (evaluateAfterEnd_bounds _ _) <| .after (reportState_bounds _ _ _) <| .after (changeCrossing_bounds _ c _) <|
    .after (loseService_bounds _ _) <| .after (uncount_bounds _ _) (discardStage_bounds s c)

theorem enterTarget_bounds (c : CrossingId) (tg : Target) (cause : Cause) : KeepsBounds s (s.enterTarget c tg cause) := by
  cases tg with
  | cmdFlash | dark => exact enterUntimed_bounds s c _ _
  | unconfigured => exact enterUnconfigured_bounds s c _
  | faultFlash => exact enterFaultFlash_bounds s c _

theorem setPending_bounds (c : CrossingId) (tg : Target) (cause : Cause) : KeepsBounds s (s.setPending c tg cause) := by
  let held := s.changeCrossing c fun x => { x with pendingChange := some { target := tg, cause := cause } }
  have left : KeepsBounds s ((if (s.crossing c).inService then held.loseService c else held).reportState c cause) := by
    refine .after (reportState_bounds _ c _) ?_
    split
    · exact .after (loseService_bounds _ c) (changeCrossing_bounds s c _)
    · exact changeCrossing_bounds s c _
  unfold State.setPending; dsimp only; split
  · split
    · exact .after (reportState_bounds _ c _) (.after (changeCrossing_bounds _ c _) left)
    · exact left
  · exact .refl s

theorem changeService_bounds (c : CrossingId) (tg : Target) (cause : Cause) : KeepsBounds s (s.changeService c tg cause) := by
  rcases changeService_cases s c tg cause with e | e | e <;> rw [e]
  · exact enterTarget_bounds s c tg cause
  · exact setPending_bounds s c tg cause
  · exact .refl s

theorem actOnFault_bounds (c : CrossingId) (cls : FaultClass) : KeepsBounds s (s.actOnFault c cls) := by
  rcases actOnFault_cases s c cls with e | e | e | e <;> rw [e]
  · exact .refl s
  · exact enterFaultFlash_bounds s c _
  · exact changeService_bounds s c _ _
  · exact enterUntimed_bounds s c _ _

theorem faultEvent_bounds (c : CrossingId) (lamp : Lamp) (cls : FaultClass) : KeepsBounds s (s.faultEvent c lamp cls) := by
  have acted := (changeCrossing_bounds s c fun x => { x with faults := x.faults.insert cls }).trans (actOnFault_bounds _ c cls)
  rw [faultEvent_eq]; split
  · exact .after (raise_bounds _ _) (.after (countCrossing_bounds _ c fun h => by simp_all) acted)
  · exact acted

theorem settleAdoption_bounds (c : CrossingId) : KeepsBounds s (s.settleAdoption c) := by
  unfold State.settleAdoption; dsimp only; split
  · exact changeService_bounds s c _ _
  · split
    · exact enterStartup_bounds s c _
    · split
      · exact .after (testFailRecall_bounds _ c) (.after (reportState_bounds _ c _) (changeCrossing_bounds s c _))
      · exact .refl s

theorem restoreCrossing_bounds (c : CrossingId) : KeepsBounds s (s.restoreCrossing c) := by
  unfold State.restoreCrossing; dsimp only; split
  · exact .after (enterStartup_bounds _ c _) (changeCrossing_bounds s c _)
  · exact .after (enterUntimed_bounds _ c _ _) (changeCrossing_bounds s c _)

/-! ### The crossing sequence (R100 to R111) -/

theorem beginWalk_bounds (c : CrossingId) (k : Stage) : KeepsBounds s (s.beginWalk c k) := by
  unfold State.beginWalk
  exact .after (soundCrossing_bounds _ c) <| .after (countCrossing_bounds _ c fun h => h.fileWait (reportedSince_le _ _)) <|
    .after (raise_bounds _ _) <| .after (placeLink_bounds _ c k) (changeCrossing_bounds s c _)

theorem enterGreen_bounds (c : CrossingId) : KeepsBounds s (s.enterGreen c) :=
  .after (testFailRecall_bounds _ c) (changeCrossing_bounds s c _)

theorem endStage_bounds (c : CrossingId) (k : Stage) : KeepsBounds s (s.endStage c k) := by
  let off := (s.discardStage c).uncount k.group
  have ended := (discardStage_bounds s c).trans <| (uncount_bounds _ k.group).trans <|
    (changeCrossing_bounds off c fun x => x.startRecall off.clock.now).trans <|
      raise_bounds _ (.stageEnd c k.walk k.clearance k.upgraded (saturate (k.elapsed off.clock.now)))
  unfold State.endStage
  refine .after (evaluateAfterEnd_bounds _ _) ?_
  split
  · exact .after (enterGreen_bounds _ c) ended
  · exact .after (enterTarget_bounds _ c _ _) ended

theorem completeStartup_bounds (c : CrossingId) : KeepsBounds s (s.completeStartup c) := by
  unfold State.completeStartup
  exact .after (testFailRecall_bounds _ c) (.after (reportState_bounds _ c _) (changeCrossing_bounds s c _))

theorem endClosing_bounds (c : CrossingId) : KeepsBounds s (s.endClosing c) := by
  unfold State.endClosing; split
  · exact enterTarget_bounds s c _ _
  · exact .refl s

theorem follow_bounds (c : CrossingId) (st : CrossingState) (n : Nat) : KeepsBounds s (s.follow c st n) :=
  .after (testFailRecall_bounds _ c) (changeCrossing_bounds s c _)

theorem endInterval_bounds (c : CrossingId) : KeepsBounds s (s.endInterval c) := by
  unfold State.endInterval; dsimp only; split
  · split
    case h_1 => exact follow_bounds s c _ _
    case h_2 => exact completeStartup_bounds s c
    case h_3 =>
      split
      · exact endClosing_bounds s c
      · split
        · exact follow_bounds s c _ _
        · exact .refl s
    case h_4 =>
      split
      · exact beginWalk_bounds s c _
      · exact .refl s
    case h_5 | h_6 =>
      split
      · exact follow_bounds s c _ _
      · exact .refl s
    case h_7 =>
      split
      · exact endStage_bounds s c _
      · exact .refl s
    all_goals exact .refl s
  · exact .refl s

theorem expireGreen_bounds (c : CrossingId) : KeepsBounds s (s.expireGreen c) := by
  unfold State.expireGreen; split
  · exact .after (evaluate_bounds _ c) (changeCrossing_bounds s c _)
  · exact .refl s

theorem expireRecall_bounds (c : CrossingId) : KeepsBounds s (s.expireRecall c) := by
  unfold State.expireRecall; split
  · split
    · exact .after (offer_bounds _ c _) (changeCrossing_bounds s c _)
    · exact .refl s
  · exact .refl s

theorem arriveNotBefore_bounds (c : CrossingId) : KeepsBounds s (s.arriveNotBefore c) := by
  unfold State.arriveNotBefore; split
  · split
    · exact .after (evaluate_bounds _ c) (withCalls_bounds s _)
    · exact .refl s
  · exact .refl s

theorem changeFlashHalf_bounds (c : CrossingId) : KeepsBounds s (s.changeFlashHalf c) := by
  unfold State.changeFlashHalf; split <;> exact .same rfl rfl rfl

theorem expireSpacing_bounds (g : GroupId) : KeepsBounds s (s.expireSpacing g) := by
  unfold State.expireSpacing; split
  · split
    · exact .after (evaluateGroup_bounds _ g) (changeGroup_bounds s g _)
    · exact .refl s
  · exact .refl s

theorem closePairing_bounds (g : GroupId) : KeepsBounds s (s.closePairing g) := by
  unfold State.closePairing; split
  · split
    · exact .after (evaluateGroup_bounds _ g) (changeGroup_bounds s g _)
    · exact .refl s
  · exact .refl s

end Sys2Proof.Machine
end

section
/-!
The bounds of the counters and of the two queues under every step (O59): the corridor's events, the requests, the kerb link,
the decisecond event, a reset and the start-up.
-/

namespace Sys2Proof.Machine

variable {s t : State}

variable (s)

/-! ### The corridor clock and the plan (chapter 1) -/

theorem reviewQuiet_bounds : KeepsBounds s s.reviewQuiet :=
  .same (by rw [reviewQuiet_host]) (by rw [reviewQuiet_host]) (reviewQuiet_counters s)

theorem advanceSecond_bounds : KeepsBounds s s.advanceSecond := by
  unfold State.advanceSecond; dsimp only; split
  · split
    · exact withClock_bounds s _
    · exact .after (reviewQuiet_bounds _) (withClock_bounds s _)
  · exact .refl s

theorem dropToFree_bounds (cause : ModeCause) : KeepsBounds s (s.dropToFree cause) :=
  .after (raise_bounds _ _) (withClock_bounds s _)

theorem expireWatchdog_bounds : KeepsBounds s s.expireWatchdog := by
  unfold State.expireWatchdog; split
  · exact .after (evaluateAll_bounds _) (dropToFree_bounds s _)
  · exact .refl s

theorem bandEndEvent_bounds (c : CrossingId) : KeepsBounds s (s.bandEndEvent c) := by
  unfold State.bandEndEvent; split
  · exact evaluate_bounds s c
  · exact .refl s

/-- PLAN_ADOPTED is counted as it is sent (R42). -/
theorem announceAdoption_bounds (sel : Selection) (h : Header) (b b' : Bool) : KeepsBounds s (s.announceAdoption sel h b b') :=
  .after (raise_bounds _ _) (countCorridor_bounds s fun h => by simp_all)

theorem adopt_bounds (sel : Selection) (h : Header) : KeepsBounds s (s.adopt sel h) := by
  have announced : KeepsBounds s (s.adopting sel h) := by
    have sent := (KeepsBounds.same (s := s) (t := s.install sel h) rfl rfl rfl).trans
      (announceAdoption_bounds _ sel h (decide (s.clock.cycle ≠ some h.cycle)) s.store.deferral)
    unfold State.adopting State.dropIfDisallowed; split
    · exact .after (dropToFree_bounds _ _) sent
    · exact sent
  rw [adopt_eq]
  exact .after (relevelAll_bounds _) <| .after (reviewQuiet_bounds _) <|
    .after (.foldl _ _ fun w c => settleAdoption_bounds w c) announced

theorem deferAdoption_bounds (sel : Selection) (f : Failing) : KeepsBounds s (s.deferAdoption sel f) :=
  .after (raise_bounds _ _) (.same rfl rfl rfl)

theorem planBoundary_bounds : KeepsBounds s s.planBoundary.2 := by
  unfold State.planBoundary; split
  · exact .refl s
  · split
    · exact .refl s
    · dsimp only; split
      · exact adopt_bounds s _ _
      · split
        · exact adopt_bounds s _ _
        · exact deferAdoption_bounds s _ _

/-- A step other than 0 is counted as it is applied (R15). -/
theorem applyStep_bounds (d : Int) : KeepsBounds s (s.applyStep d) :=
  .after (raise_bounds _ _) (.after (countCorridor_bounds _ fun h => by simp_all) (withClock_bounds s _))

theorem clockBoundary_bounds (o : PlanOutcome) : KeepsBounds s (s.clockBoundary o).2 := by
  unfold State.clockBoundary State.correct; dsimp only; split
  · split
    · exact withClock_bounds s _
    · exact applyStep_bounds s _
  · exact .refl s

theorem evaluateBoundary_bounds (before : Vector Group 4) (b : Bool) : KeepsBounds s (s.evaluateBoundary before b) := by
  have reviewed (w : State) (g : GroupId) : KeepsBounds w (State.reviewGroup before w g) := by
    unfold State.reviewGroup; split
    · exact .refl w
    · exact evaluateGroup_bounds w g
  have dropped : KeepsBounds s (s.withDueFor b) := by cases b <;> exact .same rfl rfl rfl
  exact .after (evaluateAll_bounds _) (.after (.foldl _ _ reviewed) dropped)

theorem boundary_bounds : KeepsBounds s s.boundary := by
  rw [boundary_eq]
  exact .after (evaluateBoundary_bounds _ _ _) <| .after (clockBoundary_bounds _ _) <|
    .after (planBoundary_bounds _) (withClock_bounds s _)

/-! ### SYNC (R8 to R11) -/

theorem timeStep_bounds : KeepsBounds s s.timeStep := .after (evaluateAll_bounds _) (withDue_bounds s _)

theorem setTime_bounds (n : Nat) : KeepsBounds s (s.setTime n) := .same rfl rfl rfl

theorem enterCoordinated_bounds (n : Nat) : KeepsBounds s (s.enterCoordinated n) := by
  unfold State.enterCoordinated
  exact .after (timeStep_bounds _) <| .after (raise_bounds _ _) <| .after (withClock_bounds _ _) (setTime_bounds s n)

theorem setCorridorTime_bounds (n : Nat) : KeepsBounds s (s.setCorridorTime n) :=
  .after (timeStep_bounds _) (setTime_bounds s n)

theorem takeReference_bounds (n : Nat) : KeepsBounds s (s.takeReference n).2 := by
  unfold State.takeReference; split
  · split
    · exact .refl s
    · split
      · exact .refl s
      · split
        · dsimp only; exact enterCoordinated_bounds s n
        · dsimp only; exact setCorridorTime_bounds s n
  · dsimp only; split <;> exact withClock_bounds s _

/-- Every accepted SYNC is counted (R8). -/
theorem takeTimeOfDay_bounds (n : Nat) : KeepsBounds s (s.takeTimeOfDay n) :=
  .after (reviewQuiet_bounds _) (.after (countCorridor_bounds _ fun h => by simp_all) (withClock_bounds s _))

theorem executeSync_bounds (fr : Frame) : KeepsBounds s (executeSync fr s) := by
  unfold executeSync; split
  · split
    · unfold State.acceptSync
      exact .after (respond_bounds _ _ _) (.after (takeReference_bounds _ _) (takeTimeOfDay_bounds s _))
    · exact respond_bounds s _ _
  · exact respond_bounds s _ _

/-! ### Requests to the plan store and reports -/

theorem nextRecord_bounds (x : WriteRun) (slot : Nat) : KeepsBounds s (s.nextRecord x slot) := by
  unfold State.nextRecord; split
  · exact .same rfl rfl rfl
  · split <;> exact .same rfl rfl rfl

theorem slotWriteDone_bounds : KeepsBounds s s.slotWriteDone := by
  unfold State.slotWriteDone; split
  · exact .refl s
  · exact .after (nextRecord_bounds _ _ _) (.same rfl rfl rfl)

theorem executePlanWrite_bounds (fr : Frame) : KeepsBounds s (executePlanWrite fr s) := by
  unfold executePlanWrite; split
  · split
    · exact respond_bounds s _ _
    · split
      · exact respond_bounds s _ _
      · split
        · exact respond_bounds s _ _
        · split
          · exact respond_bounds s _ _
          · exact nextRecord_bounds s _ _
  · exact respond_bounds s _ _

theorem executePlanSelect_bounds (fr : Frame) : KeepsBounds s (executePlanSelect fr s) := by
  unfold executePlanSelect; split
  · split
    · exact respond_bounds s _ _
    · unfold State.select; split
      · exact respond_bounds s _ _
      · split <;> exact .same rfl rfl rfl
  · exact respond_bounds s _ _

theorem executePlanRead_bounds (fr : Frame) : KeepsBounds s (executePlanRead fr s) := by
  unfold executePlanRead; split
  · split
    · exact respond_bounds s _ _
    · split <;> exact respond_bounds s _ _
  · exact respond_bounds s _ _

theorem executeStatus_bounds (fr : Frame) : KeepsBounds s (executeStatus fr s) := by
  unfold executeStatus; split <;> exact .same rfl rfl rfl

theorem executeCrossingStatus_bounds (fr : Frame) : KeepsBounds s (executeCrossingStatus fr s) := by
  unfold executeCrossingStatus; split
  · split <;> exact respond_bounds s _ _
  · exact respond_bounds s _ _

theorem executeUnitStatus_bounds (fr : Frame) : KeepsBounds s (executeUnitStatus fr s) := by
  unfold executeUnitStatus; split
  · split
    · exact respond_bounds s _ _
    · split <;> exact respond_bounds s _ _
  · exact respond_bounds s _ _

theorem readCounters_bounds (tag : Byte) (b : BlockName) (clear : Bool) : KeepsBounds s (s.readCounters tag b clear) := by
  unfold State.readCounters; split
  · exact respond_bounds s _ _
  · refine .after (respond_bounds _ _ _) (.ofCounters rfl rfl fun saturated => ?_)
    cases clear with
    | true => exact clear_saturated saturated b
    | false => exact saturated

theorem executeCounters_bounds (fr : Frame) : KeepsBounds s (executeCounters fr s) := by
  unfold executeCounters; split
  · split
    · exact readCounters_bounds s _ _ _
    · exact respond_bounds s _ _
  · exact respond_bounds s _ _

/-! ### The host port's own events (R176 to R187) -/

theorem executeFilterWrite_bounds (fr : Frame) : KeepsBounds s (executeFilterWrite fr s) := by
  unfold executeFilterWrite; split
  · split
    · dsimp only; split <;> exact .same rfl rfl rfl
    · exact respond_bounds s _ _
  · exact respond_bounds s _ _

theorem executeRestart_bounds (fr : Frame) : KeepsBounds s (executeRestart fr s) := by
  unfold executeRestart; split <;> exact .same rfl rfl rfl

/-- A good frame joins the request queue only where it finds room; otherwise it is dropped and counted (R178). -/
theorem enqueue_bounds (fr : Frame) : KeepsBounds s (s.enqueue fr) := by
  unfold State.enqueue; split
  · rename_i room
    rintro ⟨⟨-, notices⟩, saturated⟩
    exact ⟨⟨by simpa using room, notices⟩, saturated⟩
  · exact countCorridor_bounds s fun h => by simp_all

theorem countBad_bounds : KeepsBounds s s.countBad :=
  countCorridor_bounds s fun h => by simp_all

theorem hunt_bounds : KeepsBounds s s.hunt := .same rfl rfl rfl

theorem receiveFrame_bounds (bytes : List Byte) : KeepsBounds s (s.receiveFrame bytes) := by
  unfold State.receiveFrame; split
  · exact .refl s
  · split
    · exact .after (enqueue_bounds _ _) (hunt_bounds s)
    · exact .after (countBad_bounds _) (hunt_bounds s)

theorem abandonFrame_bounds : KeepsBounds s s.abandonFrame := by
  unfold State.abandonFrame; split
  · exact .refl s
  · exact .after (countBad_bounds _) (hunt_bounds s)

theorem endTransmission_bounds : KeepsBounds s s.endTransmission := by
  unfold State.endTransmission; split <;> exact .same rfl rfl rfl

/-! ### Requests to the call queue and the crossings -/

theorem executeCall_bounds (fr : Frame) : KeepsBounds s (executeCall fr s) := by
  unfold executeCall; split
  · split
    · unfold State.call; split
      · exact .after (respond_bounds _ _ _) (offer_bounds s _ _)
      · exact respond_bounds s _ _
    · exact respond_bounds s _ _
  · exact respond_bounds s _ _

theorem withdrawRemote_bounds (c : CrossingId) : KeepsBounds s (s.withdrawRemote c) := withCalls_bounds s _

theorem executeCancel_bounds (fr : Frame) : KeepsBounds s (executeCancel fr s) := by
  unfold executeCancel; split
  · split
    · unfold State.cancel; split
      · exact respond_bounds s _ _
      · split
        · dsimp only; split
          · exact .after (respond_bounds _ _ _) <| .after (testFailRecall_bounds _ _) <|
              .after (removeCall_bounds _ _ _) (withdrawRemote_bounds s _)
          · exact .after (respond_bounds _ _ _) (withdrawRemote_bounds s _)
        · exact respond_bounds s _ _
    · exact respond_bounds s _ _
  · exact respond_bounds s _ _

theorem executeControl_bounds (fr : Frame) : KeepsBounds s (executeControl fr s) := by
  unfold executeControl; split
  · split
    · unfold State.control; split
      · exact .after (respond_bounds _ _ _) (enterTarget_bounds s _ _ _)
      · exact .after (respond_bounds _ _ _) (setPending_bounds s _ _ _)
      · exact .after (respond_bounds _ _ _) (restoreCrossing_bounds s _)
      · exact respond_bounds s _ _
    · exact respond_bounds s _ _
  · exact respond_bounds s _ _

/-! ### The kerb link (chapter 8) -/

theorem poll_bounds : KeepsBounds s s.poll := by
  unfold State.poll; split
  · exact .refl s
  · split
    · exact .same rfl rfl rfl
    · split <;> exact .same rfl rfl rfl

/-- Late bytes count as a bad reply (R136). -/
theorem lateBytes_bounds : KeepsBounds s s.lateBytes := by
  unfold State.lateBytes; split
  · rename_i u _ _
    exact .after (.same rfl rfl rfl) (countUnit_bounds s u (f := fun n => { n with badReplies := satAdd n.badReplies 1 })
      fun h => by simp_all)
  · exact .refl s

theorem endTransaction_bounds (e : Option UnitId) : KeepsBounds s (s.endTransaction e) := .same rfl rfl rfl

theorem reportUnit_bounds (u : UnitId) (m : Mapping) (before : UnitState) (cause : UnitCause) :
    KeepsBounds s (s.reportUnit u m before cause) := by
  unfold State.reportUnit; dsimp only; split
  · exact .refl s
  · split
    · exact .after (loseSample_bounds _ u _) (raise_bounds s _)
    · exact raise_bounds s _

theorem raiseStale_bounds (u : UnitId) (stale : Bool) : KeepsBounds s (s.raiseStale u stale) := by
  unfold State.raiseStale; dsimp only; split
  · exact raise_bounds s _
  · exact .refl s

theorem sampleTaken_bounds (u : UnitId) (start : Time) (level : Nat) (short early : Bool) :
    KeepsBounds s (s.sampleTaken u start level short early) :=
  .after (countUnit_bounds _ u fun h => by simp_all) (.same (s := s) rfl rfl rfl)

theorem takeSample_bounds (u : UnitId) (start : Time) (level : Nat) (short early : Bool) :
    KeepsBounds s (s.takeSample u start level short early) := by
  have taken := sampleTaken_bounds s u start level short early
  rcases takeSample_cases s u start level short early with e | ⟨n, e⟩ <;> rw [e]
  · exact taken
  · exact .after (raise_bounds _ n) taken

theorem sampleReply_bounds (u : UnitId) (x : Transaction) (r : KerbReply) : KeepsBounds s (s.sampleReply u x r) := by
  unfold State.sampleReply; split
  · exact .refl s
  · split
    · exact .refl s
    · split
      · exact loseSample_bounds s u _
      · exact .refl s
    · split
      · exact loseSample_bounds s u _
      · split
        · split
          · exact takeSample_bounds s u _ _ _ _
          · exact loseSample_bounds s u _
        · exact .refl s

theorem deliver_bounds (u : UnitId) : KeepsBounds s (s.deliver u) := by
  unfold State.deliver; split
  · split
    · split
      · unfold State.delivered; split <;> exact .same rfl rfl rfl
      · exact .refl s
    · exact .refl s
  · exact .refl s

/-- A button judged stuck is counted (R146). -/
theorem judgeStuck_bounds (u : UnitId) (m : Mapping) (r : KerbReply) : KeepsBounds s (s.judgeStuck u m r) := by
  unfold State.judgeStuck; dsimp only; split
  · exact changeUnit_bounds s u _
  · exact .after (raise_bounds _ _) (.after (countUnit_bounds _ u fun h => by simp_all) (changeUnit_bounds s u _))

theorem judgeAudio_bounds (u : UnitId) (m : Mapping) (r : KerbReply) : KeepsBounds s (s.judgeAudio u m r) := by
  unfold State.judgeAudio; split
  · exact .refl s
  · exact .after (raise_bounds _ _) (changeUnit_bounds s u _)

theorem accountPresses_bounds (u : UnitId) (m : Mapping) (found : KerbUnit) (r : KerbReply) :
    KeepsBounds s (s.accountPresses u m found r) := by
  unfold State.accountPresses; dsimp only; split
  · exact .after (handOver_bounds _ _ _ _ _) (changeUnit_bounds s u _)
  · exact changeUnit_bounds s u _

theorem goodReply_bounds (u : UnitId) (m : Mapping) (x : Transaction) (r : KerbReply) : KeepsBounds s (s.goodReply u m x r) := by
  have heard : KeepsBounds s (s.heard u m x r) := by
    have delivered := (changeUnit_bounds s u KerbUnit.good).trans <|
      (reportUnit_bounds _ u m (s.unit u).state (goodCause (s.unit u).state)).trans <|
      (judgeStuck_bounds _ u m r).trans <| (judgeAudio_bounds _ u m r).trans <|
      (accountPresses_bounds _ u m (s.unit u) r).trans <| (sampleReply_bounds _ u x r).trans (deliver_bounds _ u)
    unfold State.heard; dsimp only; split
    · exact .after (changeUnit_bounds _ u _) delivered
    · exact delivered
  rw [goodReply_eq]; split
  · exact heard
  · exact .after (reviewWorking_bounds _ _) heard

/-- A miss is counted by its class (R136). -/
theorem countMiss_bounds (u : UnitId) (bad : Bool) : KeepsBounds s (s.countUnit u fun n =>
    { n with pollsMissed := satAdd n.pollsMissed 1, badReplies := satAdd n.badReplies (if bad then 1 else 0) }) :=
  countUnit_bounds s u fun h => by simp_all

theorem missUnit_bounds (u : UnitId) (bad : Bool) : KeepsBounds s (s.missUnit u bad) := by
  have counted := countMiss_bounds s u bad
  cases mapped : (s.unit u).mapping with
  | none =>
    unfold State.missUnit; dsimp only
    rw [countUnit_unit, mapped]
    exact counted
  | some m =>
    have missed : KeepsBounds s (s.missed u m bad) := counted.trans <|
      (changeUnit_bounds _ u fun e => e.miss s.clock.now).trans (reportUnit_bounds _ u m (s.unit u).state .miss)
    rw [missUnit_eq mapped]; split
    · exact missed
    · exact .after (reviewWorking_bounds _ _) missed

theorem endInMiss_bounds (x : Transaction) (bad counted : Bool) : KeepsBounds s (s.endInMiss x bad counted) := by
  unfold State.endInMiss; dsimp only; split
  · exact endTransaction_bounds s _
  · exact .after (endTransaction_bounds _ _) (missUnit_bounds s _ bad)

theorem receiveGood_bounds (frame : List Byte) : KeepsBounds s (s.receiveGood frame) := by
  unfold State.receiveGood; split
  · exact .refl s
  · dsimp only; split
    · split
      · exact endTransaction_bounds s _
      · split
        · exact endTransaction_bounds s _
        · exact .after (endTransaction_bounds _ _) (goodReply_bounds s _ _ _ _)
    · exact .refl s

theorem receiveBad_bounds (frame : List Byte) : KeepsBounds s (s.receiveBad frame) := by
  unfold State.receiveBad; split
  · exact .refl s
  · split
    · exact .refl s
    · exact endInMiss_bounds s _ _ _

theorem closeWindow_bounds (x : WindowContent) : KeepsBounds s (s.closeWindow x) := by
  unfold State.closeWindow; split
  · exact .refl s
  · exact endInMiss_bounds s _ _ _

theorem reviveUnit_bounds (u : UnitId) : KeepsBounds s (s.reviveUnit u) := by
  unfold State.reviveUnit; dsimp only; split
  · split <;> exact .same rfl rfl rfl
  · exact .refl s

theorem closeSample_bounds (u : UnitId) : KeepsBounds s (s.closeSample u) := by
  unfold State.closeSample; split
  · split <;> exact .same rfl rfl rfl
  · exact .refl s

theorem becomeStale_bounds (u : UnitId) : KeepsBounds s (s.becomeStale u) := by
  unfold State.becomeStale; split
  · exact .after (raiseStale_bounds _ u _) (.same rfl rfl rfl)
  · exact .refl s

/-! ### The unit map (R151) -/

theorem reviewConcerned_bounds (old new : Option CrossingId) : KeepsBounds s (s.reviewConcerned old new) := by
  have first : KeepsBounds s (match old with | some c => s.reviewWorking c | none => s) := by
    cases old with
    | none => exact .refl s
    | some c => exact reviewWorking_bounds s c
  unfold State.reviewConcerned; dsimp only
  cases new with
  | none => exact first
  | some d =>
    dsimp only; split
    · exact first
    · exact .after (reviewWorking_bounds _ d) first

theorem detachUnit_bounds (u : UnitId) (cleared : Bool) : KeepsBounds s (s.detachUnit u cleared) :=
  .trans (loseSample_bounds s u false) (.same rfl rfl rfl)

theorem mapUnit_bounds (u : UnitId) (m : Mapping) : KeepsBounds s (s.mapUnit u m) := by
  unfold State.mapUnit
  exact .after (reviewConcerned_bounds _ _ _) <| .after (raise_bounds _ _) <| .after (relevel_bounds _ u) <|
    .after (changeUnit_bounds _ u _) (detachUnit_bounds s u false)

theorem unmapUnit_bounds (u : UnitId) (m : Mapping) : KeepsBounds s (s.unmapUnit u m) := by
  unfold State.unmapUnit
  exact .after (reviewConcerned_bounds _ _ _) <| .after (raise_bounds _ _) <|
    .after (changeUnit_bounds _ u _) (detachUnit_bounds s u true)

theorem executeMap_bounds (fr : Frame) : KeepsBounds s (executeMap fr s) := by
  unfold executeMap; split
  · exact respond_bounds s _ _
  · exact respond_bounds s _ _
  · exact .after (respond_bounds _ _ _) (mapUnit_bounds s _ _)
  · split
    · exact respond_bounds s _ _
    · exact .after (respond_bounds _ _ _) (unmapUnit_bounds s _ _)

/-! ### Announced events, the decisecond event and the start-up -/

theorem runDue_bounds (d : Due) : KeepsBounds s (runDue d s) := by
  cases d with
  | secondAdvance => exact advanceSecond_bounds s
  | cycleBoundary | boundaryDue => exact boundary_bounds s
  | watchdog => exact expireWatchdog_bounds s
  | intervalEnd c => exact endInterval_bounds s c
  | flashHalf c => exact changeFlashHalf_bounds s c
  | mismatch c lamp cls => exact faultEvent_bounds s c lamp cls
  | conflict c => exact faultEvent_bounds s c _ _
  | greenExpiry c => exact expireGreen_bounds s c
  | bandEnd c => exact bandEndEvent_bounds s c
  | notBefore c => exact arriveNotBefore_bounds s c
  | recallExpiry c => exact expireRecall_bounds s c
  | spacing g => exact expireSpacing_bounds s g
  | pairing g => exact closePairing_bounds s g
  | revival u => exact reviveUnit_bounds s u
  | windowClose u => exact closeSample_bounds s u
  | stale u => exact becomeStale_bounds s u

theorem take_bounds (d : Due) : KeepsBounds s (s.take d (runDue d)) := by
  unfold State.take; split
  · exact .after (runDue_bounds _ d) (withDue_bounds s _)
  · exact .refl s

theorem settle_bounds : KeepsBounds s s.settle :=
  .after (withDue_bounds _ []) <| .foldl s.due s fun w d => .after (transmit_bounds _) (take_bounds w d)

theorem advance_bounds (inputs : ProvingInputs) : KeepsBounds s (s.advance inputs) := .same rfl rfl rfl

theorem tick_bounds (inputs : ProvingInputs) : KeepsBounds s (s.tick inputs) :=
  .after (grantSamples_bounds _) <| .after (withDue_bounds _ _) <| .after (advance_bounds _ inputs) (settle_bounds s)

theorem startUp_bounds : KeepsBounds s s.startUp := by
  have recalled (w : State) : KeepsBounds w (allCrossings.foldl State.testFailRecall w.relevelAll) :=
    .after (.foldl _ _ fun w c => testFailRecall_bounds w c) (relevelAll_bounds w)
  cases run : s.running with
  | true => rw [State.startUp, if_pos run]; exact .refl s
  | false =>
    cases e : s.store.checked.readoption with
    | none => rw [startUp_empty run e]; exact .after (recalled _) (.same rfl rfl rfl)
    | some adopted => rw [startUp_under run e]; exact .after (recalled _) (.same rfl rfl rfl)

variable {s}

/-- A reset empties both queues, and keeps or clears the counters (R175, R188). -/
theorem AfterReset.bounded {k : Counters} {f : Vector FilterEntry 16} (h : AfterReset s t k f) (saturated : k.Saturated) :
    t.Bounded := by
  refine ⟨?_, h.counters ▸ saturated⟩
  rw [State.QueueLaw, h.host]
  exact ⟨Nat.zero_le 4, Nat.zero_le 32⟩

/-! ### Every command -/

variable (s)

/-- A request that begins execution leaves the queue (R179). -/
theorem serve_bounds (is : Frame → Bool) {f : Frame → State → State} (h : ∀ s fr, KeepsBounds s (f fr s)) :
    KeepsBounds s (s.serve is f) := by
  unfold State.serve; split
  · split
    · rename_i queue _
      exact .after (h _ _) (.ofQueues (by simp [queue]) le_rfl rfl)
    · exact .refl s
  · exact .refl s

theorem live_bounds {f : State → State} (h : ∀ s, KeepsBounds s (f s)) : KeepsBounds s (s.live f) := by
  unfold State.live; split
  · exact .after (transmit_bounds _) (h s)
  · exact .refl s

variable {s}

/-- Every command keeps the bounds: by the values a reset leaves, or by its work. -/
theorem exec_bounds {i : Instr} (e : exec i s = .next t) : KeepsBounds s t := by
  have request {is : Frame → Bool} {f : Frame → State → State} (h : ∀ s fr, KeepsBounds s (f fr s)) :
      KeepsBounds s (s.live fun s => s.serve is f) := live_bounds s fun s => serve_bounds s is h
  have wf : wellFormed i = true := by
    by_contra bad
    rw [exec_fault (by simpa using bad)] at e
    cases e
  cases hd : takenBy i with
  | some d =>
    rw [exec_takes hd] at e
    obtain rfl := Host.Outcome.next.inj e
    exact live_bounds s fun s => take_bounds s d
  | none =>
    have next {w : State} (k : exec i s = .next w) (kept : KeepsBounds s w) : KeepsBounds s t :=
      Host.Outcome.next.inj (k.symm.trans e) ▸ kept
    cases i with
    | coldStart => exact next rfl fun _ => (shutDown_afterReset s _ _).bounded initial_saturated
    | startUpComplete => exact next rfl (.after (transmit_bounds _) (startUp_bounds s))
    | restartBegin =>
      refine next rfl ?_
      split
      · exact fun bounded => (shutDown_afterReset s _ _).bounded bounded.2
      · exact .refl s
    | decisecondEvent inputs => exact next rfl (live_bounds s fun s => tick_bounds s inputs)
    | mismatchTimerLimit c lamp =>
      refine next rfl (live_bounds s fun s => ?_)
      split
      · exact take_bounds s (.mismatch c lamp _)
      · exact .refl s
    | sync => exact next rfl (request executeSync_bounds)
    | planWrite => exact next rfl (request executePlanWrite_bounds)
    | slotWriteDone => exact next rfl (live_bounds s slotWriteDone_bounds)
    | planSelect => exact next rfl (request executePlanSelect_bounds)
    | planRead => exact next rfl (request executePlanRead_bounds)
    | call => exact next rfl (request executeCall_bounds)
    | callCancel => exact next rfl (request executeCancel_bounds)
    | serviceOff | dark | restore => exact next rfl (request executeControl_bounds)
    | unitMapSet | unitMapClear => exact next rfl (request executeMap_bounds)
    | unitStatus => exact next rfl (request executeUnitStatus_bounds)
    | counters => exact next rfl (request executeCounters_bounds)
    | unknownKind => exact next rfl (request fun s fr => respond_bounds s fr.tag _)
    | status => exact next rfl (request executeStatus_bounds)
    | crossingStatus => exact next rfl (request executeCrossingStatus_bounds)
    | filterWrite => exact next rfl (request executeFilterWrite_bounds)
    | restart => exact next rfl (request executeRestart_bounds)
    | pollCommand => exact next rfl (live_bounds s poll_bounds)
    | replyWindowOpen => exact next rfl (live_bounds s (f := State.openWindow) fun _ => .same rfl rfl rfl)
    | replyWindowClose x => exact next rfl (live_bounds s fun s => closeWindow_bounds s x)
    | lateBytes => exact next rfl (live_bounds s lateBytes_bounds)
    | hostFrameStart => exact next rfl (live_bounds s (f := State.startFrame) fun _ => .same rfl rfl rfl)
    | frameGapTimeout => exact next rfl (live_bounds s abandonFrame_bounds)
    | transmitEnd => exact next rfl (live_bounds s endTransmission_bounds)
    | goodReply frame => exact next (if_pos wf) (live_bounds s fun s => receiveGood_bounds s frame)
    | badReply frame => exact next (if_pos wf) (live_bounds s fun s => receiveBad_bounds s frame)
    | hostFrameReceived bytes => exact next (if_pos wf) (live_bounds s fun s => receiveFrame_bounds s bytes)
    | frameAbandon cause => exact next (if_pos wf) (live_bounds s abandonFrame_bounds)
    | _ => cases hd

theorem step_bounds (e : step s = .next t) : KeepsBounds s t := by
  unfold step at e
  split at e
  · rename_i rest _
    exact .after (exec_bounds e) (.same (t := { s with pending := rest }) rfl rfl rfl)
  · obtain rfl := Host.Outcome.next.inj e; exact .refl s

/-- Settles O59. -/
theorem everyStepKeepsTheBounds : Obligations.EveryStepKeepsTheBounds := by
  unfold Obligations.EveryStepKeepsTheBounds
  exact fun s t queues saturated e => step_bounds e ⟨queues, saturated⟩

end Sys2Proof.Machine
end

section
/-!
The receiver of the host link (O6): what a start byte, a whole frame and an abandoned frame do (R176 to R178).
-/

namespace Sys2Proof.Machine

variable {s : State} {bytes : List Byte}

/-! ### A whole frame (R177, R178) -/

/-- Bytes in HUNT are discarded. -/
theorem receiveFrame_hunt (hunt : s.host.receiver = .hunt) (bytes : List Byte) : s.receiveFrame bytes = s := by
  simp only [State.receiveFrame, hunt]

theorem receiveFrame_collecting (collecting : s.host.receiver = .collecting) (bytes : List Byte) :
    s.receiveFrame bytes = if hostCheckGood bytes then s.hunt.enqueue (readHostFrame bytes) else s.hunt.countBad := by
  simp only [State.receiveFrame, collecting]

theorem receiveFrame_bad (collecting : s.host.receiver = .collecting) (bad : hostCheckGood bytes = false) :
    s.receiveFrame bytes = s.hunt.countBad := by rw [receiveFrame_collecting collecting, bad]; rfl

/-- A good frame finds room at fewer than four waiting requests. -/
theorem receiveFrame_queued (collecting : s.host.receiver = .collecting) (good : hostCheckGood bytes = true)
    (room : s.host.requests.length < 4) : s.receiveFrame bytes =
      { s with host := { s.host with receiver := .hunt, requests := s.host.requests ++ [readHostFrame bytes] } } := by
  rw [receiveFrame_collecting collecting, if_pos good]
  exact if_pos room

/-- A good frame at four waiting requests is dropped. -/
theorem receiveFrame_dropped (collecting : s.host.receiver = .collecting) (good : hostCheckGood bytes = true)
    (full : 4 ≤ s.host.requests.length) : s.receiveFrame bytes =
      s.hunt.countCorridor fun n => { n with framesDropped := satAdd n.framesDropped 1 } := by
  rw [receiveFrame_collecting collecting, if_pos good]
  exact if_neg (Nat.not_lt.2 full)

theorem exec_hostFrameReceived (run : s.running = true) (whole : wholeHostFrame bytes = true) :
    exec (.hostFrameReceived bytes) s = .next (s.receiveFrame bytes).transmit :=
  (if_pos whole).trans (congrArg Host.Outcome.next (live_running run _))

/-! ### An abandoned frame (R176) -/

theorem abandonFrame_hunt (hunt : s.host.receiver = .hunt) : s.abandonFrame = s := by
  simp only [State.abandonFrame, hunt]

theorem abandonFrame_collecting (collecting : s.host.receiver = .collecting) : s.abandonFrame = s.hunt.countBad := by
  simp only [State.abandonFrame, collecting]

/-- The gap's end, a missing stop bit and a length above 240 abandon the frame alike. -/
theorem exec_abandonsFrame {i : Instr} (run : s.running = true) (event : i = .frameGapTimeout ∨
      i = .frameAbandon .missingStopBit ∨ ∃ v : Byte, 240 < v.toNat ∧ i = .frameAbandon (.lengthByte v)) :
    exec i s = .next s.abandonFrame.transmit := by
  have abandoned : execFrameGapTimeout s = .next s.abandonFrame.transmit :=
    congrArg Host.Outcome.next (live_running run _)
  rcases event with rfl | rfl | ⟨v, above, rfl⟩
  · exact abandoned
  · exact abandoned
  · exact (if_pos (decide_eq_true above)).trans abandoned

/-- Settles O6, by the receiver's state, the frame's check and the room in the request queue. -/
theorem receiverCollectsQueuesDropsAndCounts : Obligations.ReceiverCollectsQueuesDropsAndCounts := by
  unfold Obligations.ReceiverCollectsQueuesDropsAndCounts
  refine ⟨fun s run => congrArg Host.Outcome.next (live_running run _), fun bytes s run whole => ?_, fun i s event run => ?_⟩
  · rw [exec_hostFrameReceived run whole]
    refine ⟨fun hunt => ?_, fun collecting bad => ?_, fun collecting good room => ?_, fun collecting good full => ?_⟩
    · rw [receiveFrame_hunt hunt]
    · rw [receiveFrame_bad collecting bad]; rfl
    · rw [receiveFrame_queued collecting good room]; rfl
    · rw [receiveFrame_dropped collecting good full]; rfl
  · rw [exec_abandonsFrame run event]
    refine ⟨fun hunt => ?_, fun collecting => ?_⟩
    · rw [abandonFrame_hunt hunt]
    · rw [abandonFrame_collecting collecting]; rfl

end Sys2Proof.Machine
end

section
/-!
The transmitter of the host link (O4): its look for a frame, and the end of a frame on the line (R181).
-/

namespace Sys2Proof.Machine

variable {s : State}

/-! ### The look for a frame -/

theorem transmit_busy (busy : s.host.transmission.isSome = true) : s.transmit = s := by
  obtain ⟨x, line⟩ := Option.isSome_iff_exists.1 busy
  simp only [State.transmit, HostPort.transmit, line]

theorem transmit_reply {r : Reply} (idle : s.host.transmission = none) (reply : s.host.reply = some r) : s.transmit =
    { s with host := { s.host with reply := none, transmission := some (.of (.reply r)) } } := by
  simp only [State.transmit, HostPort.transmit, idle, reply]

theorem transmit_notice {n : Notice} {rest : List Notice} (idle : s.host.transmission = none) (empty : s.host.reply = none)
    (queue : s.host.notices = n :: rest) : s.transmit =
      { s with host := { s.host with notices := rest, transmission := some (.of (.notice n)) } } := by
  simp only [State.transmit, HostPort.transmit, idle, empty, queue]

theorem transmit_rests (idle : s.host.transmission = none) (empty : s.host.reply = none) (queue : s.host.notices = []) :
    s.transmit = s := by
  simp only [State.transmit, HostPort.transmit, idle, empty, queue]

/-! ### The end of a frame -/

/-- But for the end of the RESTART reply, the line is idle and the transmitter looks for its next frame. -/
theorem exec_transmitEnd (run : s.running = true) (going : s.host.restarting = false) :
    exec .transmitEnd s = .next (State.transmit { s with host := { s.host with transmission := none } }) := by
  have ended : s.endTransmission = { s with host := { s.host with transmission := none } } := if_neg (by simp [going])
  rw [← ended]
  exact congrArg Host.Outcome.next (live_running run _)

/-- Settles O4, by what waits for the transmitter. -/
theorem transmitterTakesReplyThenNotice : Obligations.TransmitterTakesReplyThenNotice := by
  unfold Obligations.TransmitterTakesReplyThenNotice
  refine ⟨fun s => ⟨transmit_busy, fun r => transmit_reply, fun n rest => transmit_notice, transmit_rests⟩,
    fun s run going => ?_⟩
  rw [exec_transmitEnd run going]
  cases reply : s.host.reply with
  | some r => exact congrArg Host.Outcome.next (transmit_reply rfl reply)
  | none =>
    cases queue : s.host.notices with
    | cons n rest => exact congrArg Host.Outcome.next (transmit_notice rfl reply queue)
    | nil => exact congrArg Host.Outcome.next (transmit_rests rfl reply queue)

end Sys2Proof.Machine
end

section
/-!
Notices raised (O5): the families and kinds of the notices, the entries of the report filter, and the three fates of a notice
(R182 to R184).
-/

namespace Sys2Proof.Machine

variable {s : State}

/-! ### Families and kinds (section 11.6) -/

theorem notice_kind_bounds (n : NoticeBody) : 192 ≤ n.kind ∧ n.kind ≤ 208 := by
  cases n <;> simp [NoticeBody.kind]

theorem notice_crossing_eq_none (n : NoticeBody) : n.crossing = none ↔ n.family = .corridor := by
  cases n <;> simp [NoticeBody.crossing, NoticeBody.family]

/-- The kinds of a family stand together. -/
theorem notice_family_of_kind (n : NoticeBody) : n.family =
    if n.kind ≤ 193 then .demand else if n.kind ≤ 199 then .service else if n.kind ≤ 203 then .corridor
      else if n.kind ≤ 207 then .units else .fault := by
  cases n <;> rfl

theorem family_number_eq_zero (f : Family) : f.number = 0 ↔ f = .fault := by cases f <;> decide

/-! ### The filter (R182, R184) -/

/-- A family byte names a notice's family. -/
theorem byte_eq_number {b : Byte} {f : Family} (filtered : f ≠ .fault) : b.toNat = f.number ↔
    (b = 1 ∧ f = .demand) ∨ (b = 2 ∧ f = .service) ∨ (b = 3 ∧ f = .corridor) ∨ (b = 4 ∧ f = .units) := by
  cases f with
  | fault => exact absurd rfl filtered
  | demand => simpa [Family.number] using BitVec.toNat_inj (x := b) (y := 1)
  | service => simpa [Family.number] using BitVec.toNat_inj (x := b) (y := 2)
  | corridor => simpa [Family.number] using BitVec.toNat_inj (x := b) (y := 3)
  | units => simpa [Family.number] using BitVec.toNat_inj (x := b) (y := 4)

/-- The four conditions on an entry that matches a notice. -/
theorem covers_iff (e : FilterEntry) (n : NoticeBody) : e.covers n = true ↔
    e.valid = true ∧ (e.family.toNat = 5 ∨ e.family.toNat = n.family.number) ∧
    (e.kind.toNat = 0 ∨ e.kind.toNat = n.kind) ∧
    (e.crossings = 0 ∨ ∃ c, n.crossing = some c ∧ e.crossings.getLsbD c.val = true) := by
  unfold FilterEntry.covers
  cases n.crossing <;> simp [and_assoc]

theorem accepts_iff (p : HostPort) (n : NoticeBody) :
    p.accepts n = true ↔ n.family = .fault ∨ ∃ i : Fin 16, (p.filter[i]).covers n = true := by
  have entries : p.filter.toList.any (·.covers n) = true ↔ ∃ i : Fin 16, (p.filter[i]).covers n = true := by
    simp only [List.any_eq_true, Vector.mem_toList_iff, Vector.mem_iff_getElem]
    exact ⟨fun ⟨_, ⟨i, lt, at_i⟩, covers⟩ => ⟨⟨i, lt⟩, by subst at_i; exact covers⟩,
      fun ⟨i, covers⟩ => ⟨_, ⟨i.val, i.isLt, rfl⟩, covers⟩⟩
  rw [HostPort.accepts, Bool.or_eq_true, decide_eq_true_eq, entries]

/-! ### The fates of a notice (R182, R183) -/

/-- A counter in its bound raised by nothing stays. -/
theorem satAdd_zero {a : Nat} (bound : a ≤ 65535) : satAdd a 0 = a := Nat.min_eq_left bound

section Raise

variable {n : NoticeBody}

/-- A notice that is not lost leaves the counters. -/
theorem raise_kept (bound : s.counters.corridor.noticesLost ≤ 65535) (kept : s.host.loses n = false) : s.raise n =
    { s with host := s.host.raise { timeOfDay := s.clock.timeOfDay, phase := s.clock.phase, body := n } } := by
  simp only [State.raise, kept, Bool.false_eq_true, if_false, satAdd_zero bound]

theorem raise_filteredOut (bound : s.counters.corridor.noticesLost ≤ 65535) (out : s.host.accepts n = false) :
    s.raise n = s := by
  rw [raise_kept bound (by simp [HostPort.loses, out])]
  simp only [HostPort.raise, out, Bool.false_eq_true, if_false]

theorem raise_queued (bound : s.counters.corridor.noticesLost ≤ 65535) (accepted : s.host.accepts n = true)
    (room : s.host.notices.length < 32) : s.raise n = { s with host := { s.host with
      notices := s.host.notices ++ [{ timeOfDay := s.clock.timeOfDay, phase := s.clock.phase, body := n }] } } := by
  rw [raise_kept bound (by simp [HostPort.loses, room])]
  simp only [HostPort.raise, accepted, if_true, room]

theorem raise_lost (accepted : s.host.accepts n = true) (full : 32 ≤ s.host.notices.length) : s.raise n = { s with
    host := { s.host with noticesLost := true }
    counters := { s.counters with corridor := { s.counters.corridor with
      noticesLost := satAdd s.counters.corridor.noticesLost 1 } } } := by
  simp only [State.raise, HostPort.loses, HostPort.raise, accepted, full, Nat.not_lt.2 full, decide_true, Bool.and_self,
    if_true, if_false]

end Raise

/-- Settles O5. -/
theorem raisedNoticeIsFilteredQueuedOrLost : Obligations.RaisedNoticeIsFilteredQueuedOrLost := by
  unfold Obligations.RaisedNoticeIsFilteredQueuedOrLost
  refine ⟨accepts_iff, fun e n other => ?_, fun n => ?_, fun s n bound => ⟨fun fault => (accepts_iff _ _).2 (.inl fault),
    raise_filteredOut bound, raise_queued bound, raise_lost⟩⟩
  · have any_family : e.family.toNat = 5 ↔ e.family = 5 := BitVec.toNat_inj (y := 5)
    have any_kind : e.kind.toNat = 0 ↔ e.kind = 0 := BitVec.toNat_inj (y := 0)
    rw [covers_iff, byte_eq_number other, any_family, any_kind]
  · obtain ⟨least, most⟩ := notice_kind_bounds n
    exact ⟨least, most, notice_crossing_eq_none n, notice_family_of_kind n⟩

end Sys2Proof.Machine
end

section
/-!
Requests of an unknown kind or a wrong length (O7): each request of a fixed length tests it before anything else (R179, R180).
-/

namespace Sys2Proof.Machine

variable {fr : Frame} {n : Nat}

/-! ### Bodies of one fixed length (section 12.3.1) -/

/-- The work of a request refuses every body that has not `n` bytes with BAD_LENGTH. -/
def TakesLength (execute : Frame → State → State) (n : Nat) : Prop :=
  ∀ (fr : Frame) (s : State), fr.body.length ≠ n → execute fr s = s.refuse fr.tag .badLength

theorem executeStatus_takes : TakesLength executeStatus 0 := fun fr s wrong => by
  unfold executeStatus; split <;> [exact absurd (congrArg List.length ‹_›) wrong; rfl]

theorem executeCrossingStatus_takes : TakesLength executeCrossingStatus 1 := fun fr s wrong => by
  unfold executeCrossingStatus; split <;> [exact absurd (congrArg List.length ‹_›) wrong; rfl]

theorem executeUnitStatus_takes : TakesLength executeUnitStatus 1 := fun fr s wrong => by
  unfold executeUnitStatus; split <;> [exact absurd (congrArg List.length ‹_›) wrong; rfl]

theorem executePlanRead_takes : TakesLength executePlanRead 2 := fun fr s wrong => by
  unfold executePlanRead; split <;> [exact absurd (congrArg List.length ‹_›) wrong; rfl]

theorem executePlanSelect_takes : TakesLength executePlanSelect 2 := fun fr s wrong => by
  unfold executePlanSelect; split <;> [exact absurd (congrArg List.length ‹_›) wrong; rfl]

theorem executeSync_takes : TakesLength executeSync 6 := fun _ _ wrong => if_neg wrong

theorem executeCall_takes : TakesLength executeCall 4 := fun fr s wrong => by
  unfold executeCall; split <;> [exact absurd (congrArg List.length ‹_›) wrong; rfl]

theorem executeCancel_takes : TakesLength executeCancel 1 := fun fr s wrong => by
  unfold executeCancel; split <;> [exact absurd (congrArg List.length ‹_›) wrong; rfl]

theorem executeControl_takes : TakesLength executeControl 2 := fun fr s wrong => by
  unfold executeControl; split <;> [exact absurd (congrArg List.length ‹_›) wrong; rfl]

theorem executeCounters_takes : TakesLength executeCounters 3 := fun fr s wrong => by
  unfold executeCounters; split <;> [exact absurd (congrArg List.length ‹_›) wrong; rfl]

theorem executeFilterWrite_takes : TakesLength executeFilterWrite 5 := fun fr s wrong => by
  unfold executeFilterWrite; split <;> [exact absurd (congrArg List.length ‹_›) wrong; rfl]

theorem executeRestart_takes : TakesLength executeRestart 0 := fun fr s wrong => by
  unfold executeRestart; split <;> [exact absurd (congrArg List.length ‹_›) wrong; rfl]

/-! ### The rows of such requests -/

/-- The row refuses every request of kind `k` whose body has not `n` bytes, and does nothing else. -/
def RefusesLength (i : Instr) (k n : Nat) : Prop :=
  ∀ (fr : Frame) (rest : List Frame) (s : State), s.AtTurn fr rest → fr.isKind k = true → fr.body.length ≠ n →
    exec i s = .next (s.answering rest fr.tag (.refused .badLength))

/-- A row that serves every such request of its kind refuses it as its work does. -/
theorem refusesLength_of_row {i : Instr} {k : Nat} {is : Frame → Bool} {execute : Frame → State → State}
    (row : ∀ s, exec i s = .next (s.live fun s => s.serve is execute)) (takes : TakesLength execute n)
    (own : ∀ fr : Frame, fr.isKind k = true → fr.body.length ≠ n → is fr = true) : RefusesLength i k n := by
  intro fr rest s turn kind wrong
  rw [row, serve_at_turn turn (own fr kind wrong), takes fr _ wrong]
  rfl

theorem refusesLength_of_kind {i : Instr} {k : Nat} {execute : Frame → State → State}
    (row : ∀ s, exec i s = .next (s.live fun s => s.serve (Frame.isKind · k) execute)) (takes : TakesLength execute n) :
    RefusesLength i k n := refusesLength_of_row row takes fun _ kind _ => kind

/-- A CROSSING CONTROL of a wrong length is every control row's (log entry 3). -/
theorem isControl_of_length (a : ControlAction) (kind : fr.isKind 10 = true) (wrong : fr.body.length ≠ 2) :
    isControl a fr = true := by
  unfold isControl
  rw [kind, Bool.true_and]
  split <;> [exact absurd (congrArg List.length ‹_›) wrong; rfl]

theorem control_refusesLength (a : ControlAction) : RefusesLength a.row 10 2 :=
  refusesLength_of_row (is := isControl a) (fun _ => by cases a <;> rfl) executeControl_takes fun _ => isControl_of_length a

/-- Every entry of the table of fixed lengths, row by row. -/
theorem fixedLengthRequests_refuse : ∀ e ∈ fixedLengthRequests, RefusesLength e.1 e.2.1 e.2.2 := by
  simp only [fixedLengthRequests, List.forall_mem_cons, List.not_mem_nil, false_implies, implies_true, and_true]
  exact ⟨refusesLength_of_kind (fun _ => rfl) executeStatus_takes,
    refusesLength_of_kind (fun _ => rfl) executeCrossingStatus_takes,
    refusesLength_of_kind (fun _ => rfl) executeUnitStatus_takes,
    refusesLength_of_kind (fun _ => rfl) executePlanRead_takes,
    refusesLength_of_kind (fun _ => rfl) executePlanSelect_takes,
    refusesLength_of_kind (fun _ => rfl) executeSync_takes,
    refusesLength_of_kind (fun _ => rfl) executeCall_takes,
    refusesLength_of_kind (fun _ => rfl) executeCancel_takes,
    control_refusesLength .serviceOff, control_refusesLength .dark, control_refusesLength .restore,
    refusesLength_of_kind (fun _ => rfl) executeCounters_takes,
    refusesLength_of_kind (fun _ => rfl) executeFilterWrite_takes,
    refusesLength_of_kind (fun _ => rfl) executeRestart_takes⟩

theorem unknownKind_iff (fr : Frame) : unknownKind fr = true ↔ fr.kind.toNat < 1 ∨ 14 < fr.kind.toNat := by
  simp only [unknownKind, Bool.or_eq_true, decide_eq_true_eq]

/-- Settles O7. -/
theorem malformedRequestsAreRefused : Obligations.MalformedRequestsAreRefused := by
  unfold Obligations.MalformedRequestsAreRefused
  exact ⟨fun fr rest s turn kind =>
    congrArg Host.Outcome.next (serve_at_turn turn ((unknownKind_iff fr).2 kind) executeUnknown), fixedLengthRequests_refuse⟩

end Sys2Proof.Machine
end

section
/-!
FILTER WRITE (O9): the check of the entry and the entry as it is stored (R184, R185, R190).
-/

namespace Sys2Proof.Machine

variable {s : State} {e : FilterEntry} {fr : Frame} {rest : List Frame} {ib vb f k x : Byte} {i : FilterId} {valid : Bool}

/-! ### The entry -/

/-- An invalid entry matches no notice. -/
theorem covers_of_invalid (invalid : e.valid = false) (n : NoticeBody) : e.covers n = false := by
  simp only [FilterEntry.covers, invalid, Bool.false_and]

theorem acceptable_iff (e : FilterEntry) : e.acceptable = true ↔ (e.valid = true →
    1 ≤ e.family.toNat ∧ e.family.toNat ≤ 5 ∧ (e.kind.toNat = 0 ∨ kindOfFamily e.family.toNat e.kind.toNat = true)) := by
  cases valid : e.valid <;> simp [FilterEntry.acceptable, valid, and_assoc]

/-- The kinds of a filter family are notice kinds. -/
theorem kindOfFamily_bounds {f k : Nat} (own : kindOfFamily f k = true) : 192 ≤ k ∧ k ≤ 208 := by
  unfold kindOfFamily at own
  split at own
  case h_5 => cases own
  all_goals
    rw [Bool.and_eq_true, decide_eq_true_eq, decide_eq_true_eq] at own
    omega

/-- A valid entry that is accepted is stored as it was given. -/
theorem encoded_of_valid (valid : e.valid = true) (accepted : e.acceptable = true) : e.encoded = e := by
  obtain ⟨-, family, kind⟩ := (acceptable_iff e).1 accepted valid
  simp only [FilterEntry.encoded, if_pos family, if_pos (kind.imp_right kindOfFamily_bounds)]

/-! ### The request -/

theorem exec_filterWrite (turn : s.AtTurn fr rest) (kind : fr.isKind 13 = true) :
    exec .filterWrite s = .next (executeFilterWrite fr (s.taking rest)).transmit :=
  congrArg Host.Outcome.next (serve_at_turn turn kind executeFilterWrite)

theorem executeFilterWrite_unread (body : fr.body = [ib, vb, f, k, x]) (h : numbered 16 ib = none ∨ readYesNo vb = none)
    (s : State) : executeFilterWrite fr s = s.refuse fr.tag .outOfRange := by
  rcases h with index | mark
  · simp only [executeFilterWrite, body, index]
  · simp only [executeFilterWrite, body, mark]
    cases numbered 16 ib <;> rfl

/-- With its index and mark read, the entry is stored and answered where it is acceptable, and refused otherwise. -/
theorem executeFilterWrite_read (body : fr.body = [ib, vb, f, k, x]) (index : numbered 16 ib = some i)
    (mark : readYesNo vb = some valid) (entry : e = { valid := valid, family := f, kind := k, crossings := x }) (s : State) :
    executeFilterWrite fr s = if e.acceptable then
      State.done { s with host := { s.host with filter := s.host.filter.set i e.encoded } } fr.tag (.filter e.encoded)
    else s.refuse fr.tag .outOfRange := by
  subst entry
  simp only [executeFilterWrite, body, index, mark]
  rfl

/-- Settles O9, by the mark and the check of the entry. -/
theorem filterWriteStoresTheEntry : Obligations.FilterWriteStoresTheEntry := by
  unfold Obligations.FilterWriteStoresTheEntry
  refine ⟨fun k => rfl, fun n => family_number_eq_zero n.family, fun e n invalid => covers_of_invalid invalid n, fun e => rfl,
    fun fr rest s ib vb f k x turn kind body => ?_⟩
  rw [exec_filterWrite turn kind]
  refine ⟨fun i index mark least most own => ?_, fun i index mark => ?_, fun bad => ?_⟩
  · have accepted := (acceptable_iff { valid := true, family := f, kind := k, crossings := x }).2 fun _ => ⟨least, most, own⟩
    rw [executeFilterWrite_read body index mark rfl, if_pos accepted, encoded_of_valid rfl accepted]
    rfl
  · have accepted := (acceptable_iff { valid := false, family := f, kind := k, crossings := x }).2 nofun
    refine ⟨FilterEntry.encoded { valid := false, family := f, kind := k, crossings := x }, rfl, rfl, rfl, rfl, ?_⟩
    rw [executeFilterWrite_read body index mark rfl, if_pos accepted]
    rfl
  · by_cases unread : numbered 16 ib = none ∨ readYesNo vb = none
    · rw [executeFilterWrite_unread body unread]; rfl
    · obtain ⟨index, marked⟩ := not_or.1 unread
      obtain ⟨mark, wrong⟩ := (bad.resolve_left index).resolve_left marked
      obtain ⟨i, index⟩ := Option.ne_none_iff_exists'.1 index
      rw [executeFilterWrite_read body index mark rfl, if_neg fun accepted => wrong ((acceptable_iff _).1 accepted rfl)]
      rfl

end Sys2Proof.Machine
end

section
/-!
What every command leaves of the queue of waiting commands (O3, log entry 12). The work of crossings, calls, groups and
audible aids is steady, and that of the corridor keeps both links; each keeps the queue. One lemma follows for every other
shared operation, and from them the queue stands through a command of any kind.
-/

namespace Sys2Proof.Machine

variable (s : State)

/-! ### The host port -/

theorem enqueue_pending (fr : Frame) : (s.enqueue fr).pending = s.pending := by unfold State.enqueue; split <;> rfl

theorem receiveFrame_pending (bytes : List Byte) : (s.receiveFrame bytes).pending = s.pending := by
  unfold State.receiveFrame; split
  · rfl
  · split
    · exact enqueue_pending s.hunt _
    · rfl

theorem abandonFrame_pending : s.abandonFrame.pending = s.pending := by unfold State.abandonFrame; split <;> rfl

theorem endTransmission_pending : s.endTransmission.pending = s.pending := by unfold State.endTransmission; split <;> rfl

theorem executeFilterWrite_pending (fr : Frame) : (executeFilterWrite fr s).pending = s.pending := by
  unfold executeFilterWrite; split
  · split
    · dsimp only; split <;> rfl
    · rfl
  · rfl

theorem executeRestart_pending (fr : Frame) : (executeRestart fr s).pending = s.pending := by
  unfold executeRestart; split <;> rfl

/-! ### Reports and counters -/

theorem executeStatus_pending (fr : Frame) : (executeStatus fr s).pending = s.pending := by
  unfold executeStatus; split <;> rfl

theorem executeCrossingStatus_pending (fr : Frame) : (executeCrossingStatus fr s).pending = s.pending := by
  unfold executeCrossingStatus; split
  · split <;> rfl
  · rfl

theorem executeUnitStatus_pending (fr : Frame) : (executeUnitStatus fr s).pending = s.pending := by
  unfold executeUnitStatus; split
  · split
    · rfl
    · split <;> rfl
  · rfl

theorem readCounters_pending (tag : Byte) (b : BlockName) (clear : Bool) :
    (s.readCounters tag b clear).pending = s.pending := by unfold State.readCounters; split <;> rfl

theorem executeCounters_pending (fr : Frame) : (executeCounters fr s).pending = s.pending := by
  unfold executeCounters; split
  · split
    · exact readCounters_pending s _ _ _
    · rfl
  · rfl

/-! ### The plan store -/

theorem executePlanRead_pending (fr : Frame) : (executePlanRead fr s).pending = s.pending := by
  unfold executePlanRead; split
  · split
    · rfl
    · split <;> rfl
  · rfl

theorem nextRecord_pending (x : WriteRun) (slot : Nat) : (s.nextRecord x slot).pending = s.pending := by
  unfold State.nextRecord; split
  · rfl
  · split <;> rfl

theorem slotWriteDone_pending : s.slotWriteDone.pending = s.pending := by
  unfold State.slotWriteDone; split
  · rfl
  · exact nextRecord_pending _ _ _

theorem executePlanWrite_pending (fr : Frame) : (executePlanWrite fr s).pending = s.pending := by
  unfold executePlanWrite; split
  · split
    · rfl
    · split
      · rfl
      · split
        · rfl
        · split
          · rfl
          · exact nextRecord_pending s _ _
  · rfl

theorem select_pending (tag : Byte) (sel : Selection) : (s.select tag sel).pending = s.pending := by
  unfold State.select; split
  · rfl
  · split <;> rfl

theorem executePlanSelect_pending (fr : Frame) : (executePlanSelect fr s).pending = s.pending := by
  unfold executePlanSelect; split
  · split
    · rfl
    · exact select_pending s _ _
  · rfl

/-! ### SYNC -/

theorem acceptSync_pending (tag : Byte) (tref seconds : Nat) : (s.acceptSync tag tref seconds).pending = s.pending :=
  ((takeTimeOfDay_links s seconds).trans (takeReference_links _ tref)).pending

theorem executeSync_pending (fr : Frame) : (executeSync fr s).pending = s.pending := by
  unfold executeSync; split
  · split
    · exact acceptSync_pending s _ _ _
    · rfl
  · rfl

/-! ### Calls and CROSSING CONTROL -/

theorem call_pending (tag : Byte) (c : CrossingId) (accessible : Bool) (delay : Nat) :
    (s.call tag c accessible delay).pending = s.pending := by
  unfold State.call; split
  · exact (offer_steady s _ _).pending
  · rfl

theorem executeCall_pending (fr : Frame) : (executeCall fr s).pending = s.pending := by
  unfold executeCall; split
  · split
    · exact call_pending s _ _ _ _
    · rfl
  · rfl

theorem cancel_pending (tag : Byte) (c : CrossingId) : (s.cancel tag c).pending = s.pending := by
  have removed : Steady s (((s.withdrawRemote c).removeCall c .cancelled).testFailRecall c) :=
    .after (testFailRecall_steady _ c) (.after (removeCall_steady _ c _) (withCalls_steady s _))
  unfold State.cancel; split
  · rfl
  · split
    · dsimp only; split
      · exact removed.pending
      · rfl
    · rfl

theorem executeCancel_pending (fr : Frame) : (executeCancel fr s).pending = s.pending := by
  unfold executeCancel; split
  · split
    · exact cancel_pending s _ _
    · rfl
  · rfl

theorem control_pending (tag : Byte) (c : CrossingId) (a : ControlAction) : (s.control tag c a).pending = s.pending := by
  unfold State.control; split
  · exact (enterTarget_steady s c _ _).pending
  · exact (setPending_steady s c _ _).pending
  · exact (restoreCrossing_steady s c).pending
  · rfl

theorem executeControl_pending (fr : Frame) : (executeControl fr s).pending = s.pending := by
  unfold executeControl; split
  · split
    · exact control_pending s _ _ _
    · rfl
  · rfl

/-! ### The kerb link -/

theorem poll_pending : s.poll.pending = s.pending := by
  unfold State.poll; split
  · rfl
  · split
    · rfl
    · split <;> rfl

theorem lateBytes_pending : s.lateBytes.pending = s.pending := by unfold State.lateBytes; split <;> rfl

theorem judgeStuck_pending (u : UnitId) (m : Mapping) (r : KerbReply) : (s.judgeStuck u m r).pending = s.pending := by
  unfold State.judgeStuck; dsimp only; split <;> rfl

theorem judgeAudio_pending (u : UnitId) (m : Mapping) (r : KerbReply) : (s.judgeAudio u m r).pending = s.pending := by
  unfold State.judgeAudio; split <;> rfl

theorem accountPresses_pending (u : UnitId) (m : Mapping) (found : KerbUnit) (r : KerbReply) :
    (s.accountPresses u m found r).pending = s.pending := by
  unfold State.accountPresses; dsimp only; split
  · exact (handOver_steady _ _ _ _ _).pending
  · rfl

theorem heard_pending (u : UnitId) (m : Mapping) (x : Transaction) (r : KerbReply) :
    (s.heard u m x r).pending = s.pending := by
  have delivered := (deliver_steady _ u).pending.trans <| (sampleReply_steady _ u x r).pending.trans <|
    (accountPresses_pending _ u m (s.unit u) r).trans <| (judgeAudio_pending _ u m r).trans <|
    (judgeStuck_pending _ u m r).trans
      (reportUnit_steady (s.changeUnit u KerbUnit.good) u m (s.unit u).state (goodCause (s.unit u).state)).pending
  unfold State.heard; dsimp only; split <;> exact delivered

theorem goodReply_pending (u : UnitId) (m : Mapping) (x : Transaction) (r : KerbReply) :
    (s.goodReply u m x r).pending = s.pending := by
  rw [goodReply_eq]; split
  · exact heard_pending s u m x r
  · exact (reviewWorking_steady _ _).pending.trans (heard_pending s u m x r)

theorem missUnit_pending (u : UnitId) (bad : Bool) : (s.missUnit u bad).pending = s.pending := by
  cases mapped : (s.unit u).mapping with
  | none =>
    unfold State.missUnit; dsimp only
    rw [countUnit_unit, mapped]
    rfl
  | some m =>
    have missed : (s.missed u m bad).pending = s.pending := (reportUnit_steady _ u m (s.unit u).state .miss).pending
    rw [missUnit_eq mapped]; split
    · exact missed
    · exact (reviewWorking_steady _ _).pending.trans missed

theorem endInMiss_pending (x : Transaction) (bad counted : Bool) : (s.endInMiss x bad counted).pending = s.pending := by
  unfold State.endInMiss; dsimp only; split
  · rfl
  · exact missUnit_pending s _ bad

theorem receiveGood_pending (frame : List Byte) : (s.receiveGood frame).pending = s.pending := by
  unfold State.receiveGood; split
  · rfl
  · dsimp only; split
    · split
      · rfl
      · split
        · rfl
        · exact goodReply_pending s _ _ _ _
    · rfl

theorem receiveBad_pending (frame : List Byte) : (s.receiveBad frame).pending = s.pending := by
  unfold State.receiveBad; split
  · rfl
  · split
    · rfl
    · exact endInMiss_pending s _ _ _

theorem closeWindow_pending (x : WindowContent) : (s.closeWindow x).pending = s.pending := by
  unfold State.closeWindow; split
  · rfl
  · exact endInMiss_pending s _ _ _

/-! ### The unit map -/

theorem detachUnit_pending (u : UnitId) (cleared : Bool) : (s.detachUnit u cleared).pending = s.pending :=
  (loseSample_steady s u false).pending

theorem mapUnit_pending (u : UnitId) (m : Mapping) : (s.mapUnit u m).pending = s.pending :=
  (reviewConcerned_steady _ _ _).pending.trans (detachUnit_pending s u false)

theorem unmapUnit_pending (u : UnitId) (m : Mapping) : (s.unmapUnit u m).pending = s.pending :=
  (reviewConcerned_steady _ _ _).pending.trans (detachUnit_pending s u true)

theorem executeMap_pending (fr : Frame) : (executeMap fr s).pending = s.pending := by
  unfold executeMap; split
  · rfl
  · rfl
  · exact mapUnit_pending s _ _
  · split
    · rfl
    · exact unmapUnit_pending s _ _

/-! ### Announced events, the decisecond event and the start-up -/

theorem reviveUnit_pending (u : UnitId) : (s.reviveUnit u).pending = s.pending := by
  unfold State.reviveUnit; dsimp only; split
  · split <;> rfl
  · rfl

theorem runDue_pending (d : Due) : (runDue d s).pending = s.pending := by
  cases d with
  | secondAdvance => exact (advanceSecond_links s).pending
  | cycleBoundary | boundaryDue => exact (boundary_links s).pending
  | watchdog => exact (expireWatchdog_links s).pending
  | intervalEnd c => exact (endInterval_steady s c).pending
  | flashHalf c => exact (changeFlashHalf_steady s c).pending
  | mismatch c lamp cls => exact (faultEvent_steady s c lamp cls).pending
  | conflict c => exact (faultEvent_steady s c _ _).pending
  | greenExpiry c => exact (expireGreen_steady s c).pending
  | bandEnd c => exact (bandEndEvent_steady s c).pending
  | notBefore c => exact (arriveNotBefore_steady s c).pending
  | recallExpiry c => exact (expireRecall_steady s c).pending
  | spacing g => exact (expireSpacing_steady s g).pending
  | pairing g => exact (closePairing_steady s g).pending
  | revival u => exact reviveUnit_pending s u
  | windowClose u => exact (closeSample_steady s u).pending
  | stale u => exact (becomeStale_steady s u).pending

theorem take_pending (d : Due) : (s.take d (runDue d)).pending = s.pending := by
  unfold State.take; split
  · exact runDue_pending _ d
  · rfl

theorem settle_pending : s.settle.pending = s.pending :=
  foldl_related (R := fun s t : State => t.pending = s.pending) s.due s (fun _ => rfl) (fun h k => k.trans h) take_pending

theorem tick_pending (inputs : ProvingInputs) : (s.tick inputs).pending = s.pending :=
  (grantSamples_steady _).pending.trans (settle_pending s)

theorem startUp_pending : s.startUp.pending = s.pending := by
  have recalled (w : State) : (allCrossings.foldl State.testFailRecall w.relevelAll).pending = w.pending :=
    (Steady.foldl _ _ fun w c => testFailRecall_steady w c).pending.trans (relevelAll_steady w).pending
  cases run : s.running with
  | true => rw [State.startUp, if_pos run]
  | false =>
    cases e : s.store.checked.readoption with
    | none => rw [startUp_empty run e]; exact recalled _
    | some adopted => rw [startUp_under run e]; exact recalled _

/-! ### Every command -/

theorem serve_pending (is : Frame → Bool) {f : Frame → State → State} (h : ∀ s fr, (f fr s).pending = s.pending) :
    (s.serve is f).pending = s.pending := by
  unfold State.serve; split
  · split
    · exact h _ _
    · rfl
  · rfl

theorem live_pending {f : State → State} (h : ∀ s, (f s).pending = s.pending) : (s.live f).pending = s.pending := by
  unfold State.live; split
  · exact h s
  · rfl

variable {s} {t : State}

/-- No command touches the queue: a reset and a start-up by the values they leave, every other command by its work. -/
theorem exec_pending {i : Instr} (e : exec i s = .next t) : t.pending = s.pending := by
  have request {is : Frame → Bool} {f : Frame → State → State} (h : ∀ s fr, (f fr s).pending = s.pending) :
      (s.live fun s => s.serve is f).pending = s.pending := live_pending s fun s => serve_pending s is h
  have wf : wellFormed i = true := by
    by_contra bad
    rw [exec_fault (by simpa using bad)] at e
    cases e
  cases hd : takenBy i with
  | some d =>
    rw [exec_takes hd] at e
    obtain rfl := Host.Outcome.next.inj e
    exact live_pending s fun s => take_pending s d
  | none =>
    have next {w : State} (k : exec i s = .next w) (kept : w.pending = s.pending) : t.pending = s.pending :=
      Host.Outcome.next.inj (k.symm.trans e) ▸ kept
    cases i with
    | coldStart => exact next rfl (shutDown_afterReset s _ _).pending
    | startUpComplete => exact next rfl (startUp_pending s)
    | restartBegin =>
      refine next rfl ?_
      split
      · exact (shutDown_afterReset s _ _).pending
      · rfl
    | decisecondEvent inputs => exact next rfl (live_pending s fun s => tick_pending s inputs)
    | mismatchTimerLimit c lamp =>
      refine next rfl (live_pending s fun s => ?_)
      split
      · exact take_pending s (.mismatch c lamp _)
      · rfl
    | sync => exact next rfl (request executeSync_pending)
    | planWrite => exact next rfl (request executePlanWrite_pending)
    | slotWriteDone => exact next rfl (live_pending s slotWriteDone_pending)
    | planSelect => exact next rfl (request executePlanSelect_pending)
    | planRead => exact next rfl (request executePlanRead_pending)
    | call => exact next rfl (request executeCall_pending)
    | callCancel => exact next rfl (request executeCancel_pending)
    | serviceOff | dark | restore => exact next rfl (request executeControl_pending)
    | unitMapSet | unitMapClear => exact next rfl (request executeMap_pending)
    | unitStatus => exact next rfl (request executeUnitStatus_pending)
    | counters => exact next rfl (request executeCounters_pending)
    | unknownKind => exact next rfl (request fun s fr => refuse_pending s fr.tag .unknownKind)
    | status => exact next rfl (request executeStatus_pending)
    | crossingStatus => exact next rfl (request executeCrossingStatus_pending)
    | filterWrite => exact next rfl (request executeFilterWrite_pending)
    | restart => exact next rfl (request executeRestart_pending)
    | pollCommand => exact next rfl (live_pending s poll_pending)
    | replyWindowOpen => exact next rfl (live_pending s (f := State.openWindow) fun _ => rfl)
    | replyWindowClose x => exact next rfl (live_pending s fun s => closeWindow_pending s x)
    | lateBytes => exact next rfl (live_pending s lateBytes_pending)
    | hostFrameStart => exact next rfl (live_pending s (f := State.startFrame) fun _ => rfl)
    | frameGapTimeout => exact next rfl (live_pending s abandonFrame_pending)
    | transmitEnd => exact next rfl (live_pending s endTransmission_pending)
    | goodReply frame => exact next (if_pos wf) (live_pending s fun s => receiveGood_pending s frame)
    | badReply frame => exact next (if_pos wf) (live_pending s fun s => receiveBad_pending s frame)
    | hostFrameReceived bytes => exact next (if_pos wf) (live_pending s fun s => receiveFrame_pending s bytes)
    | frameAbandon cause => exact next (if_pos wf) (live_pending s abandonFrame_pending)
    | _ => cases hd

/-- Settles O3. -/
theorem commandsLeaveTheQueue : Obligations.CommandsLeaveTheQueue := by
  unfold Obligations.CommandsLeaveTheQueue
  exact fun i s t e => exec_pending e

end Sys2Proof.Machine
end
